-- ==== Sys2Proof/Word.lean ====
section
/-!
DEFINITION. The number types and the plainest arithmetic of the FS620 model: bytes of the station link, the 32-bit site
clock, the unit indices of 00_scope.md, the rounding words of 00_scope.md, and fixed-size tables.
-/
namespace Sys2Proof

/-- A byte of the station link or of a vehicle frame. -/
abbrev Byte := BitVec 8

/-- A value of the site clock: ds, 32 bits, wrapping (R197). -/
abbrev Clock := BitVec 32

/-- Fuelling points FP0 to FP3. -/
abbrev FpId := Fin 4
/-- Storage banks B0 to B7. -/
abbrev BankId := Fin 8
/-- Compressors K0 and K1. -/
abbrev CompId := Fin 2
/-- Measurement channels CH0 to CH47. -/
abbrev ChanId := Fin 48
/-- Digital input lines IN0 to IN31. -/
abbrev LineId := Fin 32
/-- Requester indices of the Bank Arbiter: 0 to 3 are FPS0 to FPS3, 4 and 5 are CS0 and CS1 (00_scope.md). -/
abbrev Requester := Fin 6

/-- A timer on the site clock: the ds still to run, or none while it does not run. At `some 0` its duration has elapsed. -/
abbrev Timer := Option Nat

/-- `a / b` rounded to nearest, an exact half going up (00_scope.md, Rounding words). -/
def roundDiv (a b : Nat) : Nat := (2 * a + b) / (2 * b)

/-- `ceil (a / b)` (00_scope.md, Rounding words). -/
def ceilDiv (a b : Nat) : Nat := (a + b - 1) / b

/-- The entry `i` of a fixed-size table. -/
def sel {α : Type} {n : Nat} (v : Vector α n) (i : Fin n) : α := v[i.val]'i.isLt

/-- A fixed-size table with the entry `i` replaced. -/
def upd {α : Type} {n : Nat} (v : Vector α n) (i : Fin n) (x : α) : Vector α n := v.set i.val x i.isLt

@[simp] theorem sel_upd_self {α : Type} {n : Nat} (v : Vector α n) (i : Fin n) (x : α) : sel (upd v i x) i = x := by
  simp [sel, upd]

theorem sel_upd_ne {α : Type} {n : Nat} (v : Vector α n) (i j : Fin n) (x : α) (h : i ≠ j) :
    sel (upd v i x) j = sel v j := by
  have : i.val ≠ j.val := fun e => h (Fin.ext e)
  simp [sel, upd, this]

theorem sel_upd {α : Type} {n : Nat} (v : Vector α n) (i j : Fin n) (x : α) :
    sel (upd v i x) j = if i = j then x else sel v j := by
  by_cases h : i = j
  · subst h; simp
  · simp [h, sel_upd_ne v i j x h]

@[simp] theorem sel_replicate {α : Type} {n : Nat} (x : α) (i : Fin n) : sel (Vector.replicate n x) i = x := by
  simp [sel]

@[simp] theorem upd_upd {α : Type} {n : Nat} (v : Vector α n) (i : Fin n) (x y : α) : upd (upd v i x) i y = upd v i y := by
  simp [upd]

@[simp] theorem upd_sel_self {α : Type} {n : Nat} (v : Vector α n) (i : Fin n) : upd v i (sel v i) = v := by
  simp [sel, upd]

end Sys2Proof
end

