-- ==== Sys2Proof/Config.lean ====
section
/-!
DEFINITION. The fixed figures of the part (00_scope.md, "fixed durations of the blocks") and the free values: what the spec
leaves open and the machine goes on from. A free value has no body, so no proof can rest on what it is.
-/
namespace Sys2Proof.Config

/-- FREE VALUE (notes/assumptions/1.md). Which of several notices, each "an event of its own" at its block, is taken
first where the spec gives no order ("either may be taken first"): the model applies it to the count of such choices
made so far and takes the remainder by the number of notices. -/
opaque order : Nat → Nat

/-- FREE VALUE (notes/assumptions/2.md). Which of the images that may stand in the retained memory a power-on read
finds, after a write that failed or was cut off by the loss of power (R182, R183 NOTE, R184). -/
opaque storeFinds : Nat → Nat

/-- Channel staleness time, ds (R5). -/
def staleness : Nat := 10
/-- Start history window, ds (R63). -/
def historyWindow : Nat := 36000
/-- Ramp clock count at which the downgrade watch opens, ds (R127). -/
def watchDelay : Nat := 300
/-- Flow and pulse-rate window, ds (R166). -/
def flowWindow : Nat := 10
/-- Retained-store write timer, ds (R181). -/
def writeTime : Nat := 50
/-- Tank temperature at and above which a fill ends with TEMP_LIMIT (R126, R141). -/
def tankTempLimit : Nat := 3580
/-- Largest payload of a link frame (R199). -/
def maxPayload : Nat := 1024
/-- Completion slots, and the most records the queue holds (R172). -/
def slots : Nat := 12
/-- ds in one calendar second (R198). -/
def secondTicks : Nat := 10

end Sys2Proof.Config
end

