-- ==== Sys2Proof/Syntax.lean ====
section
/-!
DEFINITION. The commands of the FS620: one constructor per row of spec/opcode_table.json, in the table's order.

A host request carries its fields as plain numbers, as they come off the link (R205), because its owner, not the link,
refuses a unit, a code or a value out of range. A field-side event or a timer's expiry names a unit that exists.
-/
namespace Sys2Proof

/-- The fields of LOAD_SITE, in table order (R187). -/
structure SiteFields where
  limitH70 : Nat
  limitH35 : Nat
  fullH70 : Nat
  fullH35 : Nat
  minStartH70 : Nat
  minStartH35 : Nat
  segment : Nat
  upperBand : Nat
  overshootBand : Nat
  stepDiff : Nat
  stepFlow : Nat
  stepDwell : Nat
  bankWait : Nat
  linkAcquisition : Nat
  linkLoss : Nat
  plausMargin : Nat
  leakPulse : Nat
  leakHold : Nat
  leakLimit : Nat
  settleWindow : Nat
  ventPressure : Nat
  ventTimeout : Nat
  supplyMin : Nat
  deriving DecidableEq, Repr

/-- The fields of LOAD_RAMP_ENTRY: four keys, rate and end pressure (R120). -/
structure RampFields where
  precoolClass : Nat
  pressureClass : Nat
  band : Nat
  category : Nat
  rate : Nat
  endPressure : Nat
  deriving DecidableEq, Repr

/-- The four parameters of one precooled class in the precool entry (5.1). -/
structure ClassFields where
  ceiling : Nat
  q : Nat
  window : Nat
  grace : Nat
  deriving DecidableEq, Repr

/-- The precool entry (5.1, R76). -/
structure PrecoolFields where
  cs : Nat
  setpoint : Nat
  differential : Nat
  waitLimit : Nat
  t40 : ClassFields
  t30 : ClassFields
  t20 : ClassFields
  deriving DecidableEq, Repr

/-- The fields of LOAD_BANK, in table order (3.1, R36). -/
structure BankFields where
  valid : Nat
  volume : Nat
  rated : Nat
  floor : Nat
  refillOn : Nat
  refillOff : Nat
  drawPermit : Nat
  fillPermit : Nat
  priority : Nat
  deriving DecidableEq, Repr

/-- The compressor entry, in table order (R56). -/
structure CompressorFields where
  maxDischarge : Nat
  startTime : Nat
  runDown : Nat
  minRun : Nat
  minOff : Nat
  startLimit : Nat
  dischargeLimit : Nat
  priority : Nat
  deriving DecidableEq, Repr

/-- The fields of LOAD_FP, in table order (6.1, R95). -/
structure FpFields where
  pressureClass : Nat
  allowed : Nat
  cascade : List Nat
  category : Nat
  defaultEstimate : Nat
  maxMass : Nat
  commRequired : Nat
  autoStart : Nat
  authTimeout : Nat
  maxFillTime : Nat
  priority : Nat
  mgPerPulse : Nat
  maxPulseRate : Nat
  creepLimit : Nat
  defaultSoc : Nat
  deriving DecidableEq, Repr

/-- The fields of LOAD_CHANNEL (R1, section 12.4). -/
structure ChannelFields where
  binding : Nat
  index : Nat
  scaleLow : Nat
  scaleHigh : Nat
  plausLow : Nat
  plausHigh : Nat
  deriving DecidableEq, Repr

/-- The fields of LOAD_INPUT (R9). -/
structure LineFields where
  function : Nat
  target : Nat
  polarity : Nat
  mode : Nat
  deriving DecidableEq, Repr

/-- The commands, one per row of spec/opcode_table.json. -/
inductive Instr where
  | readStatus
  | readFp (fp : Nat)
  | readBanks
  | readCompressor (k : Nat)
  | readPrecool
  | readChannel (ch : Nat)
  | readCompletion
  | removeCompletion (number : Nat)
  | readTotals
  | loadSite (f : SiteFields)
  | loadDensityRow (row : Nat) (entries : List Nat)
  | loadRampEntry (f : RampFields)
  | loadPrecool (f : PrecoolFields)
  | loadBank (b : Nat) (f : BankFields)
  | loadCompressor (k : Nat) (f : CompressorFields)
  | loadFp (fp : Nat) (f : FpFields)
  | loadChannel (ch : Nat) (f : ChannelFields)
  | loadInput (line : Nat) (f : LineFields)
  | loadValveMap (pairs : List (Nat × Nat))
  | loadEventOutput (line : Nat) (condition : Nat) (index : Nat) (polarity : Nat)
  | setPrice (pressureClass : Nat) (price : Nat) (time : Nat)
  | setTime (value : Nat)
  | commission
  | decommission
  | openForecourt
  | closeForecourt
  | enterMaint
  | leaveMaint
  | shutdownCommand
  | resume
  | softReset
  | authorize (fp : Nat) (kind : Nat) (value : Nat) (socPresence : Nat) (socTarget : Nat)
  | cancelAuth (fp : Nat)
  | fpStart (fp : Nat)
  | fpStop (fp : Nat)
  | fpHold (fp : Nat)
  | fpReleaseHold (fp : Nat)
  | fpClearFault (fp : Nat)
  | fpReset (fp : Nat)
  | bankClearFault (b : Nat)
  | compressorEnable (k : Nat)
  | compressorDisable (k : Nat)
  | compressorClearTrip (k : Nat)
  | chillerEnable
  | chillerDisable
  | chillerClearTrip
  | valveMode (line : Nat) (mode : Nat)
  | clearCreep (fp : Nat)
  | linkByteReceived (b : Byte)
  | linkGap
  | replySent
  /-- `levels` is the raw level of each input line as the reset ends, bit n for INn (R10); `readError` says that the
  memory reports an error on the read of the retained image (R184). -/
  | powerOnReset (levels : BitVec 32) (readError : Bool)
  | sampleArrival (ch : ChanId) (raw : BitVec 16)
  | stalenessExpiry (ch : ChanId)
  | rawLineChange (line : LineId) (level : Bool)
  | filterExpiry (line : LineId)
  | minOffExpiry (k : CompId)
  | startHistoryAgeing (k : CompId)
  | startTimerExpiry (k : CompId)
  | csBankWaitExpiry (k : CompId)
  | minRunExpiry (k : CompId)
  | runDownExpiry (k : CompId)
  | waitLimitExpiry (fp : FpId)
  | authExpired (fp : FpId)
  | linkAcquisitionExpiry (fp : FpId)
  | fpsBankWaitExpiry (fp : FpId)
  | leakPulseExpiry (fp : FpId)
  | leakHoldExpiry (fp : FpId)
  | maxFillTimeExpiry (fp : FpId)
  | settleExpiry (fp : FpId)
  | ventTimeout (fp : FpId)
  | segmentBoundary (fp : FpId)
  | downgradeWatchOpen (fp : FpId)
  | downgradeGraceExpiry (fp : FpId)
  | lowFlowExpiry (fp : FpId)
  | vehicleFrame (fp : FpId) (frame : List Byte)
  | linkLossExpiry (fp : FpId)
  | meterPulse (fp : FpId)
  | flowAgeing (fp : FpId)
  /-- Each report of the memory names the write it answers (R182). -/
  | writeComplete (id : Nat)
  | writeError (id : Nat)
  | writeTimerExpiry
  | calendarTick
  deriving DecidableEq, Repr

end Sys2Proof
end

