-- ==== Sys2Proof/Machine/State.lean ====
section
/-!
DEFINITION. The state of the FS620: everything its fourteen blocks hold (00_scope.md, Block overview), as plain data, and
the state right after power-on reset. INVENTORY.md lists every field with its rule and its reset value.
What a block only derives (role commands and line drives, combined levels, nozzle conditions, reported faults, ATTN) is
computed where it is read (Machine/Views.lean, Machine/Flags.lean) and stored nowhere.
-/
namespace Sys2Proof.Machine

/-! ### Classes, bands and categories (00_scope.md) -/

inductive PressureClass where
  | h70 | h35
  deriving DecidableEq, Repr

inductive PrecoolClass where
  | t40 | t30 | t20 | tamb
  deriving DecidableEq, Repr

inductive Category where
  | s | m | l
  deriving DecidableEq, Repr

inductive Band where
  | a1 | a2 | a3 | a4 | a5
  deriving DecidableEq, Repr

/-! ### Channel Unit (1.1) -/

/-- The quantity a channel measures (1.1.1). -/
inductive Binding where
  | nozzleP (fp : FpId)
  | gasT (fp : FpId)
  | bankP (b : BankId)
  | bankT (b : BankId)
  | coldStoreT
  | ambientT
  | dischargeT (k : CompId)
  | supplyP
  | unused
  deriving DecidableEq, Repr

inductive ChanStatus where
  | good | stale | failed
  deriving DecidableEq, Repr

/-- A channel's entry and its live state (1.1.1, R1 to R8). -/
structure Channel where
  binding : Binding
  scaleLow : Nat
  scaleHigh : Nat
  plausLow : Nat
  plausHigh : Nat
  value : Nat
  status : ChanStatus
  failCount : Nat
  staleTimer : Timer
  lastSample : Clock
  deriving DecidableEq, Repr

/-! ### Input Event Unit (1.2) -/

inductive LineFn where
  | esd | gasAlarm | fireAlarm | siteHold | powerFail | chillerTrip
  | nozzleHolster | nozzleConnect | start | stop | breakaway | meterError | compressorTrip | noFn
  deriving DecidableEq, Repr

inductive Polarity where
  | normal | inverted
  deriving DecidableEq, Repr

inductive DetectMode where
  | level | rising | falling | any
  deriving DecidableEq, Repr

/-- A line's entry, its raw level, its filtered level and whether its 20 ms filter timer runs (R9, R10). -/
structure InLine where
  fn : LineFn
  target : Nat
  polarity : Polarity
  mode : DetectMode
  raw : Bool
  filtered : Bool
  filterRunning : Bool
  deriving DecidableEq, Repr

inductive NozzleCondition where
  | holstered | lifted | connected
  deriving DecidableEq, Repr

/-! ### Output Unit (1.3) -/

inductive LineMode where
  | auto | forceClosed | forceOpen | released
  deriving DecidableEq, Repr

inductive Drive where
  | drivenOpen | drivenClosed | notDriven
  deriving DecidableEq, Repr

inductive EventCondition where
  | never | anyFilling | fpFilling (fp : FpId) | shutdown | anyCompressorRunning | chillerRunning
  | precoolWaiting | queueNotEmpty | anyFault
  deriving DecidableEq, Repr

structure EventEntry where
  condition : EventCondition
  polarity : Polarity
  deriving DecidableEq, Repr

/-! ### Density Unit (2.1) -/

structure DensityRow where
  entries : Vector Nat 19
  loaded : Bool
  deriving DecidableEq, Repr

inductive Indication where
  | normal | clamped | noTable
  deriving DecidableEq, Repr

/-! ### Storage Manager and Bank Arbiter (chapter 3) -/

structure BankEntry where
  valid : Bool
  volume : Nat
  rated : Nat
  floor : Nat
  refillOn : Nat
  refillOff : Nat
  drawPermit : Bool
  fillPermit : Bool
  priority : Nat
  deriving DecidableEq, Repr

inductive BankFault where
  | ok | protect | sensor
  deriving DecidableEq, Repr

/-- A bank's entry and live state (3.1, 3.2). -/
structure Bank where
  entry : BankEntry
  pressure : Nat
  pressureGood : Bool
  temperature : Nat
  temperatureGood : Bool
  inventory : Nat
  indication : Indication
  protect : Bool
  reload : Bool
  deriving DecidableEq, Repr

/-! ### Compressor Sequencers (chapter 4) -/

inductive CompState where
  | disabled | off | startDeferred | starting | recirc | filling | stopping | tripped
  deriving DecidableEq, Repr

inductive TripCause where
  | dischargeTemp | dischargeSensor | tripInput
  deriving DecidableEq, Repr

structure Compressor where
  entry : CompressorFields
  loaded : Bool
  state : CompState
  target : Option BankId
  history : List Clock
  minOff : Timer
  start : Timer
  minRun : Timer
  bankWait : Timer
  runDown : Timer
  tripCause : Option TripCause
  disablePending : Bool
  discharge : Nat
  dischargeGood : Bool
  supply : Nat
  supplyGood : Bool
  deriving DecidableEq, Repr

/-- A notice to a compressor sequencer: the refill list changed (R47), or the other compressor's target did (R60). -/
inductive CsNotice where
  | refillList (k : CompId)
  | otherTarget (k : CompId)
  deriving DecidableEq, Repr

/-! ### Precool Manager (chapter 5) -/

inductive Chiller where
  | disabled | idle | running | tripped
  deriving DecidableEq, Repr

inductive ReservationState where
  | noRecord | waiting | admitted
  deriving DecidableEq, Repr

/-- A fuelling point's reservation record (R86) with its wait-limit timer (R93). -/
structure Reservation where
  state : ReservationState
  estimate : Nat
  category : Option Category
  cls : Option PrecoolClass
  band : Option Band
  g : Nat
  c0 : Nat
  m0 : Nat
  c : Nat
  waitTimer : Timer
  deriving DecidableEq, Repr

structure Pcm where
  entry : PrecoolFields
  loaded : Bool
  chiller : Chiller
  tcs : Nat
  tcsGood : Bool
  band : Band
  records : Vector Reservation 4
  waitList : List FpId
  deriving DecidableEq, Repr

/-! ### Fuelling Point Sequencers (chapters 6 and 7) -/

/-- One row of the ramp table (R120). -/
structure RampRow where
  rate : Nat
  endPressure : Nat
  loaded : Bool
  deriving DecidableEq, Repr

/-- An active or pending ramp entry: the keys it was built from and the figures read (R121, R129). -/
structure RampEntry where
  cls : PrecoolClass
  band : Band
  category : Category
  rate : Nat
  endPressure : Nat
  deriving DecidableEq, Repr

structure FpEntry where
  pressureClass : PressureClass
  allowed : List PrecoolClass
  cascade : List BankId
  category : Category
  defaultEstimate : Nat
  maxMass : Nat
  commRequired : Bool
  autoStart : Bool
  authTimeout : Nat
  maxFillTime : Nat
  priority : Nat
  mgPerPulse : Nat
  maxPulseRate : Nat
  creepLimit : Nat
  defaultSoc : Nat
  deriving DecidableEq, Repr

inductive FillState where
  | idle | linkWait | precoolWait | leakCheck | filling | settling | venting | complete | fault
  deriving DecidableEq, Repr

inductive Substate where
  | bankWait | hold | rampPause | flow
  deriving DecidableEq, Repr

inductive CommMode where
  | undecided | communication | nonCommunication
  deriving DecidableEq, Repr

/-- Termination reasons, in the order of their codes (R108, R208). -/
inductive Reason where
  | targetSoc | targetPressure | pressureLimit | presetMass | presetAmount | supplyExhausted | bankTimeout
  | customerStop | precoolTimeout | timeLimit | linkAbort
  | leak | startPressure | rampOvershoot | tempLimit | sensorFail | meterFail | nozzleDisconnect | breakaway
  | linkAbsent | classMismatch | esd | reset | powerFail
  deriving DecidableEq, Repr

/-- Whether the bank of the cascade position is granted to the sequencer, stacked, or neither (6.2). -/
inductive BankLink where
  | unlinked | granted | stacked
  deriving DecidableEq, Repr

structure Fps where
  entry : FpEntry
  loaded : Bool
  fill : FillState
  sub : Option Substate
  reason : Option Reason
  mode : CommMode
  hostHold : Bool
  vehicleHold : Bool
  ventFail : Bool
  estimate : Option Nat
  category : Option Category
  firstP : Option Nat
  firstT : Option Nat
  admClass : Option PrecoolClass
  admBand : Option Band
  cascadePos : Option BankId
  link : BankLink
  p0 : Option Nat
  presentSoc : Option Nat
  acquisition : Timer
  bankWait : Timer
  leakPulse : Timer
  leakHold : Timer
  maxFill : Timer
  settle : Timer
  vent : Timer
  grace : Timer
  lowFlow : Timer
  active : Option RampEntry
  pendingEntry : Option RampEntry
  switchPending : Bool
  pstart : Nat
  clock : Nat
  segment : Nat
  pause : Bool
  sync : Bool
  watchCount : Nat
  watchOpen : Bool
  band : Band
  nozzle : Nat
  nozzleGood : Bool
  gas : Nat
  gasGood : Bool
  deriving DecidableEq, Repr

/-! ### Vehicle Link Receivers (chapter 8) -/

inductive LinkState where
  | idle | listening | up | lost | implausible
  deriving DecidableEq, Repr

inductive VehicleCommand where
  | run | halt | abort
  deriving DecidableEq, Repr

structure VehicleData where
  pressure : Nat
  temperature : Nat
  command : VehicleCommand
  deriving DecidableEq, Repr

structure Vlr where
  state : LinkState
  volume : Option Nat
  receptacle : Option PressureClass
  last : Option VehicleData
  loss : Timer
  implausCount : Nat
  crcErrors : Nat
  formatErrors : Nat
  rangeErrors : Nat
  ignored : Nat
  deriving DecidableEq, Repr

/-! ### Metering and Transaction Unit (chapter 9) -/

inductive AuthState where
  | noAuth | pending | inUse
  deriving DecidableEq, Repr

inductive PresetKind where
  | noPreset | mass | amount
  deriving DecidableEq, Repr

structure Auth where
  state : AuthState
  kind : PresetKind
  value : Nat
  soc : Option Nat
  price : Nat
  clampMass : Bool
  clampAmount : Bool
  clampSoc : Bool
  timer : Timer
  deriving DecidableEq, Repr

/-- A draw-list entry (R164); it is open while it has no closing pressure. -/
structure DrawEntry where
  bank : BankId
  mass : Nat
  openP : Nat
  closeP : Option Nat
  deriving DecidableEq, Repr

structure TxnFlags where
  noncomm : Bool
  linkLost : Bool
  implausible : Bool
  downgraded : Bool
  clamped : Bool
  powerSaved : Bool
  deriving DecidableEq, Repr

/-- The live or last closed transaction (R163). -/
structure Txn where
  live : Bool
  price : Nat
  mass : Nat
  amount : Nat
  draw : List DrawEntry
  startClass : Option PrecoolClass
  finalClass : Option PrecoolClass
  p0 : Option Nat
  finalSoc : Option Nat
  flags : TxnFlags
  startTime : Nat
  endTime : Option Nat
  reason : Option Reason
  kind : PresetKind
  value : Nat
  deriving DecidableEq, Repr

/-- What MTU holds for one fuelling point. `flow` holds the time and the mass of each pulse that went to the
transaction and has not aged out, oldest first; `pulses` the times of the meter's pulses in the window (R166). -/
structure Meter where
  auth : Auth
  txn : Option Txn
  window : Bool
  flow : List (Clock × Nat)
  pulses : List Clock
  creep : Nat
  creepBlock : Bool
  deriving DecidableEq, Repr

/-- A pressure class's active price, and its pending price with the activation time (R161). -/
structure Price where
  active : Nat
  pending : Option (Nat × Nat)
  deriving DecidableEq, Repr

/-! ### Completion Queue and Retained Store Controller (chapter 10) -/

/-- A completion record (R175). Every draw-list entry of a record is closed. -/
structure Record where
  number : Nat
  fp : FpId
  reason : Reason
  flags : TxnFlags
  price : Nat
  mass : Nat
  amount : Nat
  startTime : Nat
  endTime : Nat
  p0 : Option Nat
  finalSoc : Option Nat
  startClass : Option PrecoolClass
  finalClass : Option PrecoolClass
  draw : List DrawEntry
  deriving DecidableEq, Repr

structure Totals where
  mass : Nat
  amount : Nat
  fills : Nat
  deriving DecidableEq, Repr

/-- The content of the retained image (R180). -/
structure RetainedImage where
  totals : Vector Totals 4
  nextNumber : Nat
  count : Nat
  records : List Record
  deriving DecidableEq, Repr

structure StoredImage where
  image : RetainedImage
  check : BitVec 16
  deriving DecidableEq, Repr

/-- What the retained memory holds, as far as the part's writes tell (R182, R184): no image that passes its check, the image of
the last completed write, or, after a write that did not complete, that image or a partly written one that fails its check. -/
inductive StoreContents where
  | blank
  | holds (img : StoredImage)
  | unsure (img : StoredImage)
  deriving DecidableEq, Repr

structure Write where
  id : Nat
  image : StoredImage
  timer : Timer
  deriving DecidableEq, Repr

structure Cqr where
  queue : List Record
  slots : Nat
  nextNumber : Nat
  totals : Vector Totals 4
  write : Option Write
  pendingChange : Bool
  fault : Bool
  lost : Bool
  store : StoreContents
  writeSeq : Nat
  deriving DecidableEq, Repr

/-! ### Site Controller (chapter 11) -/

inductive SiteState where
  | unconfigured | operating | maintenance | shutdown | powerdown
  deriving DecidableEq, Repr

inductive ShutCause where
  | esd | gasAlarm | fireAlarm | host | noCause
  deriving DecidableEq, Repr

structure Site where
  state : SiteState
  forecourtOpen : Bool
  commissioned : Bool
  cause : ShutCause
  params : SiteFields
  paramsLoaded : Bool
  clock : Clock
  calendar : Nat
  calendarSet : Bool
  secondCount : Nat
  deriving DecidableEq, Repr

/-! ### Station Link Interface (chapter 12) -/

inductive RxState where
  | hunt | receive | skip | held
  deriving DecidableEq, Repr

/-- Reason codes of a refusal (R203). -/
inductive RefusalCode where
  | unknownKind | badLength | badField | badState | noSlot | notPermitted | tableOrder | unmapped | notConfigured | mismatch
  deriving DecidableEq, Repr

/-- An owner's answer to a request: accepted with its reply data, or refused with one reason (R202, R203). -/
inductive Answer where
  | accepted (data : List Byte)
  | refused (code : RefusalCode)
  deriving DecidableEq, Repr

/-- The header of a request and its kind (R199, R204). -/
structure Header where
  tag : Byte
  unit : Byte
  kind : Byte
  deriving DecidableEq, Repr

/-- What SLI holds: the receiver with its frame buffer (the bytes after the start byte), whether a run begun during HELD
is still open and whether the part drives the line with its reply (R201), the link error counter, the change summary (bit n is the flag at position n of 12.5), the
dispatched request not yet taken by its owner, the header whose reply is still to be formed with the request it
belongs to, the last answer an owner gave, and the reply buffer (a whole frame). -/
structure Sli where
  rx : RxState
  buffer : List Byte
  heldRun : Bool
  driving : Bool
  errors : Nat
  summary : BitVec 15
  dispatched : Option Instr
  awaiting : Option (Header × Instr)
  answer : Option Answer
  reply : List Byte
  deriving DecidableEq, Repr

/-! ### The whole part -/

/-- The state of the part. `csInbox` holds the notices not yet taken by the compressor sequencers (empty between
commands), `orderCount` counts the free choices made (`Config.order`, `Config.storeFinds`); both, and `pending`, the
commands that wait, are the model's own fields. -/
structure State where
  chans : Vector Channel 48
  lines : Vector InLine 32
  roleMap : Vector (Option (Fin 64)) 58
  lineModes : Vector LineMode 64
  events : Vector EventEntry 8
  density : Vector DensityRow 17
  banks : Vector Bank 8
  refill : List BankId
  holder : Vector (Option Requester) 8
  stacked : Vector (List Requester) 8
  cs : Vector Compressor 2
  csInbox : List CsNotice
  pcm : Pcm
  ramp : Vector RampRow 120
  fps : Vector Fps 4
  vlr : Vector Vlr 4
  mtu : Vector Meter 4
  prices : Vector Price 2
  cqr : Cqr
  site : Site
  sli : Sli
  orderCount : Nat
  pending : List Instr
  deriving DecidableEq, Repr

/-- Why the machine stops with a fault. No command of this part stops it: the manual gives every command of the table an
effect, and the only constructor stands for a state no command makes. -/
inductive Fault where
  /-- Raised by nothing in this model (safe): the manual names no event that stops the part. -/
  | never
  deriving DecidableEq, Repr

/-- Why the model gives a command no meaning. -/
inductive Refusal where
  /-- Raised by an arm of exec for a command whose meaning is not written (safe). No arm of this model raises it. -/
  | notModelled (mnemonic : String)
  deriving DecidableEq, Repr

/-! ### Power-on reset values -/

/-- R8. -/
def Channel.reset : Channel :=
  { binding := .unused, scaleLow := 0, scaleHigh := 0, plausLow := 0, plausHigh := 0, value := 0, status := .stale,
    failCount := 0, staleTimer := none, lastSample := 0 }

/-- R14, R10: the filtered level is the raw level present as the reset ends. -/
def InLine.reset (level : Bool) : InLine :=
  { fn := .noFn, target := 0, polarity := .normal, mode := .level, raw := level, filtered := level, filterRunning := false }

/-- R35, R49. -/
def Bank.reset : Bank :=
  { entry := { valid := false, volume := 0, rated := 0, floor := 0, refillOn := 0, refillOff := 0, drawPermit := false,
               fillPermit := false, priority := 0 },
    pressure := 0, pressureGood := false, temperature := 0, temperatureGood := false, inventory := 0,
    indication := .noTable, protect := false, reload := false }

/-- R57, R58; the supply and discharge values are the model's (notes/assumptions/5.md), both HELD (R6). -/
def Compressor.reset : Compressor :=
  { entry := { maxDischarge := 0, startTime := 0, runDown := 0, minRun := 0, minOff := 0, startLimit := 0,
               dischargeLimit := 0, priority := 0 },
    loaded := false, state := .disabled, target := none, history := [], minOff := none, start := none, minRun := none,
    bankWait := none, runDown := none, tripCause := none, disablePending := false, discharge := 0,
    dischargeGood := false, supply := 0, supplyGood := false }

/-- A reservation record in NONE (R86). -/
def Reservation.empty : Reservation :=
  { state := .noRecord, estimate := 0, category := none, cls := none, band := none, g := 0, c0 := 0, m0 := 0, c := 0,
    waitTimer := none }

def ClassFields.zero : ClassFields := { ceiling := 0, q := 0, window := 0, grace := 0 }

/-- R77, R78, R79, R86, R93. -/
def Pcm.reset : Pcm :=
  { entry := { cs := 0, setpoint := 0, differential := 0, waitLimit := 0, t40 := ClassFields.zero, t30 := ClassFields.zero,
               t20 := ClassFields.zero },
    loaded := false, chiller := .disabled, tcs := 0, tcsGood := false, band := .a5,
    records := Vector.replicate 4 Reservation.empty, waitList := [] }

/-- R96: every field 0, an empty cascade list and no allowed classes. -/
def FpEntry.zero : FpEntry :=
  { pressureClass := .h70, allowed := [], cascade := [], category := .s, defaultEstimate := 0, maxMass := 0,
    commRequired := false, autoStart := false, authTimeout := 0, maxFillTime := 0, priority := 0, mgPerPulse := 0,
    maxPulseRate := 0, creepLimit := 0, defaultSoc := 0 }

/-- R96, R97, R121, R140; the nozzle and gas values are the model's (notes/assumptions/5.md), both HELD (R6), and so is a
Pstart of 0 in the empty ramp state (DESIGN CHOICE, notes/assumptions/43.md). -/
def Fps.reset : Fps :=
  { entry := FpEntry.zero, loaded := false, fill := .idle, sub := none, reason := none, mode := .undecided,
    hostHold := false, vehicleHold := false, ventFail := false, estimate := none, category := none, firstP := none,
    firstT := none, admClass := none, admBand := none, cascadePos := none, link := .unlinked, p0 := none,
    presentSoc := none, acquisition := none, bankWait := none, leakPulse := none, leakHold := none, maxFill := none,
    settle := none, vent := none, grace := none, lowFlow := none, active := none, pendingEntry := none,
    switchPending := false, pstart := 0, clock := 0, segment := 0, pause := false, sync := false, watchCount := 0,
    watchOpen := false, band := .a5, nozzle := 0, nozzleGood := false, gas := 0, gasGood := false }

/-- R142. -/
def Vlr.reset : Vlr :=
  { state := .idle, volume := none, receptacle := none, last := none, loss := none, implausCount := 0, crcErrors := 0,
    formatErrors := 0, rangeErrors := 0, ignored := 0 }

/-- An authorization record in NONE, its fields empty (R155). -/
def Auth.empty : Auth :=
  { state := .noAuth, kind := .noPreset, value := 0, soc := none, price := 0, clampMass := false, clampAmount := false,
    clampSoc := false, timer := none }

/-- R155, R163, R166, R169. -/
def Meter.reset : Meter :=
  { auth := Auth.empty, txn := none, window := false, flow := [], pulses := [], creep := 0, creepBlock := false }

def Totals.zero : Totals := { mass := 0, amount := 0, fills := 0 }

/-- The empty image of R184: totals 0, next record number 1, no record. -/
def RetainedImage.empty : RetainedImage :=
  { totals := Vector.replicate 4 Totals.zero, nextNumber := 1, count := 0, records := [] }

/-- CQR as a power-on reset leaves it that found no valid image (R184): the empty image is being written with its check,
RETAINED_LOST stands. The part's memory has never been written (notes/assumptions/4.md). -/
def Cqr.reset : Cqr :=
  { queue := [], slots := 0, nextNumber := 1, totals := Vector.replicate 4 Totals.zero,
    write := some { id := 1, image := { image := RetainedImage.empty, check := 0x260A }, timer := some Config.writeTime },
    pendingChange := false, fault := false, lost := true, store := .blank, writeSeq := 1 }

def SiteFields.zero : SiteFields :=
  { limitH70 := 0, limitH35 := 0, fullH70 := 0, fullH35 := 0, minStartH70 := 0, minStartH35 := 0, segment := 0,
    upperBand := 0, overshootBand := 0, stepDiff := 0, stepFlow := 0, stepDwell := 0, bankWait := 0,
    linkAcquisition := 0, linkLoss := 0, plausMargin := 0, leakPulse := 0, leakHold := 0, leakLimit := 0,
    settleWindow := 0, ventPressure := 0, ventTimeout := 0, supplyMin := 0 }

/-- R186, R187, R196, R197, R198. -/
def Site.reset : Site :=
  { state := .unconfigured, forecourtOpen := false, commissioned := false, cause := .noCause, params := SiteFields.zero,
    paramsLoaded := false, clock := 0, calendar := 0, calendarSet := false, secondCount := 0 }

/-- R200, R201, R206: the summary holds RETAINED, posted as the reset ends (R184). The reply buffer is empty (DESIGN CHOICE,
notes/assumptions/44.md). -/
def Sli.reset : Sli :=
  { rx := .hunt, buffer := [], heldRun := false, driving := false, errors := 0, summary := 0x2000, dispatched := none, awaiting := none,
    answer := none, reply := [] }

/-- The part right after power-on reset (R196), every input line at raw level 0 and the retained memory blank. -/
def State.reset : State :=
  { chans := Vector.replicate 48 Channel.reset
    lines := Vector.replicate 32 (InLine.reset false)
    roleMap := Vector.replicate 58 none
    lineModes := Vector.replicate 64 .auto
    events := Vector.replicate 8 { condition := .never, polarity := .normal }
    density := Vector.replicate 17 { entries := Vector.replicate 19 0, loaded := false }
    banks := Vector.replicate 8 Bank.reset
    refill := []
    holder := Vector.replicate 8 none
    stacked := Vector.replicate 8 []
    cs := Vector.replicate 2 Compressor.reset
    csInbox := []
    pcm := Pcm.reset
    ramp := Vector.replicate 120 { rate := 0, endPressure := 0, loaded := false }
    fps := Vector.replicate 4 Fps.reset
    vlr := Vector.replicate 4 Vlr.reset
    mtu := Vector.replicate 4 Meter.reset
    prices := Vector.replicate 2 { active := 0, pending := none }
    cqr := Cqr.reset
    site := Site.reset
    sli := Sli.reset
    orderCount := 0
    pending := [] }

end Sys2Proof.Machine
end

