-- ==== Sys2Proof/Machine/Ops.lean ====
section
/-!
DEFINITION. The named operations over the state: reading and replacing the state of one unit, taking notices in an order
that is left free, timers, the CRC-16 of R143, bytes in network order, and answering a host request.
-/
namespace Sys2Proof.Machine

/-- What a command answers. -/
abbrev Out := Host.Outcome State Fault Refusal

/-! ### One unit's state -/

def State.chan (s : State) (i : ChanId) : Channel := sel s.chans i
def State.line (s : State) (i : LineId) : InLine := sel s.lines i
def State.bank (s : State) (b : BankId) : Bank := sel s.banks b
def State.holderOf (s : State) (b : BankId) : Option Requester := sel s.holder b
def State.stackedAt (s : State) (b : BankId) : List Requester := sel s.stacked b
def State.comp (s : State) (k : CompId) : Compressor := sel s.cs k
def State.fp (s : State) (i : FpId) : Fps := sel s.fps i
def State.link (s : State) (i : FpId) : Vlr := sel s.vlr i
def State.meter (s : State) (i : FpId) : Meter := sel s.mtu i
def State.reservation (s : State) (i : FpId) : Reservation := sel s.pcm.records i

def modChan (i : ChanId) (f : Channel → Channel) (s : State) : State := { s with chans := upd s.chans i (f (s.chan i)) }
def modLine (i : LineId) (f : InLine → InLine) (s : State) : State := { s with lines := upd s.lines i (f (s.line i)) }
def modBank (b : BankId) (f : Bank → Bank) (s : State) : State := { s with banks := upd s.banks b (f (s.bank b)) }
def setHolder (b : BankId) (r : Option Requester) (s : State) : State := { s with holder := upd s.holder b r }
def setStacked (b : BankId) (l : List Requester) (s : State) : State := { s with stacked := upd s.stacked b l }
def modComp (k : CompId) (f : Compressor → Compressor) (s : State) : State := { s with cs := upd s.cs k (f (s.comp k)) }
def modFp (i : FpId) (f : Fps → Fps) (s : State) : State := { s with fps := upd s.fps i (f (s.fp i)) }
def modLink (i : FpId) (f : Vlr → Vlr) (s : State) : State := { s with vlr := upd s.vlr i (f (s.link i)) }
def modMeter (i : FpId) (f : Meter → Meter) (s : State) : State := { s with mtu := upd s.mtu i (f (s.meter i)) }
def modPcm (f : Pcm → Pcm) (s : State) : State := { s with pcm := f s.pcm }
def modReservation (i : FpId) (f : Reservation → Reservation) (s : State) : State :=
  { s with pcm := { s.pcm with records := upd s.pcm.records i (f (s.reservation i)) } }
def modCqr (f : Cqr → Cqr) (s : State) : State := { s with cqr := f s.cqr }
def modSite (f : Site → Site) (s : State) : State := { s with site := f s.site }
def modSli (f : Sli → Sli) (s : State) : State := { s with sli := f s.sli }
/-- Change the live or last transaction of a fuelling point, where there is one. -/
def modTxn (i : FpId) (f : Txn → Txn) (s : State) : State := modMeter i (fun m => { m with txn := m.txn.map f }) s

/-- All fuelling points, all compressors, all banks. -/
def allFps : List FpId := [0, 1, 2, 3]
def allComps : List CompId := [0, 1]
def allBanks : List BankId := [0, 1, 2, 3, 4, 5, 6, 7]
def allLines : List LineId := List.finRange 32
def allChans : List ChanId := List.finRange 48

/-- The other compressor. -/
def otherComp (k : CompId) : CompId := if k = 0 then 1 else 0

/-- A fuelling point's and a compressor's requester index (00_scope.md). -/
def fpReq (i : FpId) : Requester := ⟨i.val, by omega⟩
def csReq (k : CompId) : Requester := ⟨4 + k.val, by omega⟩

/-- Who a requester index is: a fuelling point, or a compressor. -/
def reqUnit (r : Requester) : FpId ⊕ CompId :=
  if h : r.val < 4 then .inl ⟨r.val, h⟩ else .inr ⟨r.val - 4, by omega⟩

/-! ### Notices taken in an order that is left free -/

/-- A free choice among `n`: the state counts it, the value is `Config.order`'s. -/
def freeChoice (n : Nat) (s : State) : Nat × State :=
  (Config.order s.orderCount % n, { s with orderCount := s.orderCount + 1 })

/-- Takes the given events one after another, each next one chosen freely among those left. The last needs no choice. -/
def takeAll : Nat → List (State → State) → State → State
  | 0, _, s => s
  | _ + 1, [], s => s
  | _ + 1, [f], s => f s
  | n + 1, fs, s =>
    let c := freeChoice fs.length s
    takeAll n (fs.eraseIdx c.1) ((fs[c.1]?.getD id) c.2)

/-- Several notices, each an event of its own at its block, either of which may be taken first (R6, R47, R174, R183). -/
def inAnyOrder (fs : List (State → State)) (s : State) : State := takeAll fs.length fs s

/-! ### Timers and the site clock -/

/-- The timer's duration has elapsed: its expiry is the event that comes next at its block. -/
def due (t : Timer) : Bool := t == some 0

/-- The timer with one ds gone. -/
def tickTimer (t : Timer) : Timer := t.map (· - 1)

/-- ds from `t` to `now`, across the wrap of the site clock (R197). -/
def age (now t : Clock) : Nat := (now - t).toNat

/-! ### CRC-16 (R143), used by vehicle frames, link frames (R199) and the retained image (R180) -/

def crcBit (reg : BitVec 16) (bit : Bool) : BitVec 16 :=
  if reg.msb != bit then (reg <<< 1) ^^^ 0x1021#16 else reg <<< 1

/-- One byte, most significant bit first. -/
def crcByte (reg : BitVec 16) (b : Byte) : BitVec 16 :=
  [7, 6, 5, 4, 3, 2, 1, 0].foldl (fun r i => crcBit r (b.getLsbD i)) reg

def crc16 (bytes : List Byte) : BitVec 16 := bytes.foldl crcByte 0xFFFF#16

/-! ### Bytes, most significant first (R199, R205) -/

/-- `x` in `n` bytes, most significant first. -/
def be : Nat → Nat → List Byte
  | 0, _ => []
  | n + 1, x => BitVec.ofNat 8 (x / 256 ^ n) :: be n x

def u8 (x : Nat) : List Byte := be 1 x
def u16 (x : Nat) : List Byte := be 2 x
def u32 (x : Nat) : List Byte := be 4 x
def u64 (x : Nat) : List Byte := be 8 x
def flag8 (b : Bool) : List Byte := u8 b.toNat

/-- A field that may be absent: a presence mark, then the field, zeros when absent (R205). -/
def opt (n : Nat) : Option Nat → List Byte
  | some x => u8 1 ++ be n x
  | none => u8 0 ++ be n 0

/-- A list of varying length: a count, then its members (R205). -/
def counted {α : Type} (f : α → List Byte) (l : List α) : List Byte := u8 l.length ++ l.flatMap f

/-- The number in the `n` bytes from offset `at_` on, most significant first. -/
def num (bytes : List Byte) (at_ n : Nat) : Nat :=
  ((bytes.drop at_).take n).foldl (fun acc b => acc * 256 + b.toNat) 0

/-! ### Answering a request (R202, R203) -/

def RefusalCode.code : RefusalCode → Nat
  | .unknownKind => 0 | .badLength => 1 | .badField => 2 | .badState => 3 | .noSlot => 4
  | .notPermitted => 5 | .tableOrder => 6 | .unmapped => 7 | .notConfigured => 8 | .mismatch => 9

/-- A whole link frame: start byte, length, kind, payload, check (R199). -/
def frame (kind : Byte) (payload : List Byte) : List Byte :=
  let body := u16 payload.length ++ [kind] ++ payload
  0xA5#8 :: body ++ u16 (crc16 body).toNat

/-- The reply frame to the request with header `h` (R203). -/
def replyFrame (h : Header) : Answer → List Byte
  | .accepted data => frame (h.kind + 0x80#8) ([h.tag, h.unit] ++ data)
  | .refused code => frame 0xFF#8 ([h.tag, h.unit, h.kind] ++ u8 code.code)

/-- SLI takes the owner's answer to request `c`. Where `c` came off the link and waits for its reply, the reply is formed
into the reply buffer. -/
def answer (c : Instr) (r : State × Answer) : State :=
  match r.1.sli.awaiting with
  | some (h, c') =>
    if c = c' then
      modSli (fun l => { l with answer := some r.2, awaiting := none, reply := replyFrame h r.2 }) r.1
    else modSli (fun l => { l with answer := some r.2 }) r.1
  | none => modSli (fun l => { l with answer := some r.2 }) r.1

/-- A host request: its owner's event, then SLI's answer. -/
def request (c : Instr) (owner : State → State × Answer) (s : State) : Out := .next (answer c (owner s))

/-- A refusal changes no state (R202). -/
def refuse (s : State) (code : RefusalCode) : State × Answer := (s, .refused code)

/-- An acceptance without reply data. -/
def accept (s : State) : State × Answer := (s, .accepted [])

/-- Configuration loads are taken while the site is UNCONFIGURED or in MAINTENANCE (R1, R9, R15, R20, R22, …). -/
def loadsTaken (s : State) : Bool :=
  match s.site.state with
  | .unconfigured => true
  | .maintenance => true
  | .operating => false
  | .shutdown => false
  | .powerdown => false

end Sys2Proof.Machine
end

