-- ==== Sys2Proof/Decode.lean ====
section
/-!
DEFINITION. Reading a command from the bytes of a link request (R202, R205, section 12.4), and the host's fixed name for the
commands that opcode_table.json spells by bits: it gives no row any bits.
-/
namespace Sys2Proof

open Sys2Proof.Machine (num RefusalCode)

/-- The table gives no row any bits, so no word spells a command. -/
def decodeTableWord (_nbits _w : Nat) : Option Instr := none

/-- The body length of a kind (12.4); none for a kind not in the catalogue. LOAD_VALVE_MAP's varies. -/
def bodyLength : Nat → Option Nat
  | 0x01 | 0x02 | 0x03 | 0x04 | 0x05 | 0x06 | 0x07 | 0x09 | 0x42 | 0x48 => some 0
  | 0x40 | 0x43 | 0x44 | 0x45 | 0x46 | 0x47 | 0x29 => some 1
  | 0x08 | 0x28 | 0x31 => some 4
  | 0x2A => some 3
  | 0x30 => some 9
  | 0x41 => some 8
  | 0x22 => some 10
  | 0x25 => some 16
  | 0x27 => some 18
  | 0x24 => some 22
  | 0x23 => some 32
  | 0x26 => some 37
  | 0x21 => some 38
  | 0x20 => some 68
  | _ => none

/-- LOAD_SITE's body (R187, in table order). -/
def siteBody (b : List Byte) : SiteFields :=
  { limitH70 := num b 0 4, limitH35 := num b 4 4, fullH70 := num b 8 2, fullH35 := num b 10 2, minStartH70 := num b 12 4,
    minStartH35 := num b 16 4, segment := num b 20 2, upperBand := num b 22 4, overshootBand := num b 26 4,
    stepDiff := num b 30 4, stepFlow := num b 34 2, stepDwell := num b 36 2, bankWait := num b 38 2,
    linkAcquisition := num b 40 2, linkLoss := num b 42 2, plausMargin := num b 44 4, leakPulse := num b 48 2,
    leakHold := num b 50 2, leakLimit := num b 52 4, settleWindow := num b 56 2, ventPressure := num b 58 4,
    ventTimeout := num b 62 2, supplyMin := num b 64 4 }

def classBody (b : List Byte) (at_ : Nat) : ClassFields :=
  { ceiling := num b at_ 2, q := num b (at_ + 2) 2, window := num b (at_ + 4) 2, grace := num b (at_ + 6) 2 }

def precoolBody (b : List Byte) : PrecoolFields :=
  { cs := num b 0 2, setpoint := num b 2 2, differential := num b 4 2, waitLimit := num b 6 2, t40 := classBody b 8,
    t30 := classBody b 16, t20 := classBody b 24 }

def bankBody (b : List Byte) : BankFields :=
  { valid := num b 0 1, volume := num b 1 2, rated := num b 3 4, floor := num b 7 4, refillOn := num b 11 4,
    refillOff := num b 15 4, drawPermit := num b 19 1, fillPermit := num b 20 1, priority := num b 21 1 }

def compressorBody (b : List Byte) : CompressorFields :=
  { maxDischarge := num b 0 4, startTime := num b 4 2, runDown := num b 6 2, minRun := num b 8 2, minOff := num b 10 2,
    startLimit := num b 12 1, dischargeLimit := num b 13 2, priority := num b 15 1 }

/-- The cascade list of LOAD_FP: a count and eight bank bytes, those after the count ignored (R205). A count above 8
gives a list of that length, which its owner refuses. -/
def cascadeBody (b : List Byte) (at_ : Nat) : List Nat :=
  let n := num b at_ 1
  (((b.drop (at_ + 1)).take 8).map BitVec.toNat ++ List.replicate (n - 8) 0).take n

def fpBody (b : List Byte) : FpFields :=
  { pressureClass := num b 0 1, allowed := num b 1 1, cascade := cascadeBody b 2, category := num b 11 1,
    defaultEstimate := num b 12 4, maxMass := num b 16 4, commRequired := num b 20 1, autoStart := num b 21 1,
    authTimeout := num b 22 2, maxFillTime := num b 24 2, priority := num b 26 1, mgPerPulse := num b 27 2,
    maxPulseRate := num b 29 2, creepLimit := num b 31 4, defaultSoc := num b 35 2 }

def channelBody (b : List Byte) : ChannelFields :=
  { binding := num b 0 1, index := num b 1 1, scaleLow := num b 2 4, scaleHigh := num b 6 4, plausLow := num b 10 4,
    plausHigh := num b 14 4 }

def rampBody (b : List Byte) : RampFields :=
  { precoolClass := num b 0 1, pressureClass := num b 1 1, band := num b 2 1, category := num b 3 1, rate := num b 4 2,
    endPressure := num b 6 4 }

/-- The pairs of LOAD_VALVE_MAP after its count. -/
def pairsBody (b : List Byte) (n : Nat) : List (Nat × Nat) :=
  (List.range n).map (fun i => (num b (1 + 2 * i) 1, num b (2 + 2 * i) 1))

/-- SITE_COMMAND's command, by its place in the table of R188. -/
def siteCommandOf : Nat → Option Instr
  | 0 => some .commission | 1 => some .decommission | 2 => some .openForecourt | 3 => some .closeForecourt
  | 4 => some .enterMaint | 5 => some .leaveMaint | 6 => some .shutdownCommand | 7 => some .resume | 8 => some .softReset
  | _ => none

/-- FP_COMMAND's command, in the order of R114. -/
def fpCommandOf (fp : Nat) : Nat → Option Instr
  | 0 => some (.fpStart fp) | 1 => some (.fpStop fp) | 2 => some (.fpHold fp) | 3 => some (.fpReleaseHold fp)
  | 4 => some (.fpClearFault fp) | 5 => some (.fpReset fp) | _ => none

/-- COMPRESSOR_COMMAND's command, in the order of R59. -/
def compressorCommandOf (k : Nat) : Nat → Option Instr
  | 0 => some (.compressorEnable k) | 1 => some (.compressorDisable k) | 2 => some (.compressorClearTrip k) | _ => none

/-- CHILLER_COMMAND's command, in the order of R82. -/
def chillerCommandOf : Nat → Option Instr
  | 0 => some .chillerEnable | 1 => some .chillerDisable | 2 => some .chillerClearTrip | _ => none

/-- The command of a request of this kind, unit and body, its length already right; none for an unknown command code. -/
def commandOf (kind unit : Nat) (b : List Byte) : Option Instr :=
  match kind with
  | 0x01 => some .readStatus
  | 0x02 => some (.readFp unit)
  | 0x03 => some .readBanks
  | 0x04 => some (.readCompressor unit)
  | 0x05 => some .readPrecool
  | 0x06 => some (.readChannel unit)
  | 0x07 => some .readCompletion
  | 0x08 => some (.removeCompletion (num b 0 4))
  | 0x09 => some .readTotals
  | 0x20 => some (.loadSite (siteBody b))
  | 0x21 => some (.loadDensityRow unit ((List.range 19).map (fun i => num b (2 * i) 2)))
  | 0x22 => some (.loadRampEntry (rampBody b))
  | 0x23 => some (.loadPrecool (precoolBody b))
  | 0x24 => some (.loadBank unit (bankBody b))
  | 0x25 => some (.loadCompressor unit (compressorBody b))
  | 0x26 => some (.loadFp unit (fpBody b))
  | 0x27 => some (.loadChannel unit (channelBody b))
  | 0x28 => some (.loadInput unit { function := num b 0 1, target := num b 1 1, polarity := num b 2 1, mode := num b 3 1 })
  | 0x29 => some (.loadValveMap (pairsBody b (num b 0 1)))
  | 0x2A => some (.loadEventOutput unit (num b 0 1) (num b 1 1) (num b 2 1))
  | 0x30 => some (.setPrice (num b 0 1) (num b 1 4) (num b 5 4))
  | 0x31 => some (.setTime (num b 0 4))
  | 0x40 => siteCommandOf (num b 0 1)
  | 0x41 => some (.authorize unit (num b 0 1) (num b 1 4) (num b 5 1) (num b 6 2))
  | 0x42 => some (.cancelAuth unit)
  | 0x43 => fpCommandOf unit (num b 0 1)
  | 0x44 => if num b 0 1 = 0 then some (.bankClearFault unit) else none
  | 0x45 => compressorCommandOf unit (num b 0 1)
  | 0x46 => chillerCommandOf (num b 0 1)
  | 0x47 => some (.valveMode unit (num b 0 1))
  | 0x48 => some (.clearCreep unit)
  | _ => none

/-- The checks of R202 on a request's kind and payload, then its command. An unknown command code is refused with
BAD_FIELD, as the owners' rules give (R44, R59, R82, R114, R188). -/
def decodeRequest (kind : Nat) (payload : List Byte) : Except RefusalCode Instr :=
  match bodyLength kind with
  | none => .error .unknownKind
  | some n =>
    if payload.length < 2 then .error .badLength
    else if kind = 0x29 then
      if payload.length < 3 then .error .badLength
      else if num payload 2 1 = 0 ∨ 58 < num payload 2 1 then .error .badField
      else if payload.length ≠ 3 + 2 * num payload 2 1 then .error .badLength
      else match commandOf kind (num payload 1 1) (payload.drop 2) with
        | some c => .ok c
        | none => .error .badField
    else if payload.length ≠ 2 + n then .error .badLength
    else match commandOf kind (num payload 1 1) (payload.drop 2) with
      | some c => .ok c
      | none => .error .badField

/-! ### The payload of a request (R204, R205, section 12.4) -/

open Sys2Proof.Machine (u8 u16 u32)

/-- The message header and the body. -/
def payload (tag : Byte) (unit : Nat) (body : List Byte) : List Byte := tag :: BitVec.ofNat 8 unit :: body

def SiteFields.body (f : SiteFields) : List Byte :=
  [u32 f.limitH70, u32 f.limitH35, u16 f.fullH70, u16 f.fullH35, u32 f.minStartH70, u32 f.minStartH35, u16 f.segment,
    u32 f.upperBand, u32 f.overshootBand, u32 f.stepDiff, u16 f.stepFlow, u16 f.stepDwell, u16 f.bankWait,
    u16 f.linkAcquisition, u16 f.linkLoss, u32 f.plausMargin, u16 f.leakPulse, u16 f.leakHold, u32 f.leakLimit,
    u16 f.settleWindow, u32 f.ventPressure, u16 f.ventTimeout, u32 f.supplyMin].flatten

def RampFields.body (f : RampFields) : List Byte :=
  [u8 f.precoolClass, u8 f.pressureClass, u8 f.band, u8 f.category, u16 f.rate, u32 f.endPressure].flatten

def ClassFields.body (f : ClassFields) : List Byte :=
  [u16 f.ceiling, u16 f.q, u16 f.window, u16 f.grace].flatten

def PrecoolFields.body (f : PrecoolFields) : List Byte :=
  [u16 f.cs, u16 f.setpoint, u16 f.differential, u16 f.waitLimit, f.t40.body, f.t30.body, f.t20.body].flatten

def BankFields.body (f : BankFields) : List Byte :=
  [u8 f.valid, u16 f.volume, u32 f.rated, u32 f.floor, u32 f.refillOn, u32 f.refillOff, u8 f.drawPermit,
    u8 f.fillPermit, u8 f.priority].flatten

def CompressorFields.body (f : CompressorFields) : List Byte :=
  [u32 f.maxDischarge, u16 f.startTime, u16 f.runDown, u16 f.minRun, u16 f.minOff, u8 f.startLimit,
    u16 f.dischargeLimit, u8 f.priority].flatten

/-- The cascade list as a count and eight bank bytes (R205). -/
def cascadeBytes (l : List Nat) : List Byte := u8 l.length ++ (l.map (BitVec.ofNat 8) ++ List.replicate 8 0#8).take 8

def FpFields.body (f : FpFields) : List Byte :=
  [u8 f.pressureClass, u8 f.allowed, cascadeBytes f.cascade, u8 f.category, u32 f.defaultEstimate, u32 f.maxMass,
    u8 f.commRequired, u8 f.autoStart, u16 f.authTimeout, u16 f.maxFillTime, u8 f.priority, u16 f.mgPerPulse,
    u16 f.maxPulseRate, u32 f.creepLimit, u16 f.defaultSoc].flatten

def ChannelFields.body (f : ChannelFields) : List Byte :=
  [u8 f.binding, u8 f.index, u32 f.scaleLow, u32 f.scaleHigh, u32 f.plausLow, u32 f.plausHigh].flatten

def LineFields.body (f : LineFields) : List Byte :=
  [u8 f.function, u8 f.target, u8 f.polarity, u8 f.mode].flatten

/-- The kind and the payload by which the host sends a request; none for an event of the field side. -/
def encodeRequest (tag : Byte) : Instr → Option (Nat × List Byte)
  | .readStatus => some (0x01, payload tag 0 [])
  | .readFp fp => some (0x02, payload tag fp [])
  | .readBanks => some (0x03, payload tag 0 [])
  | .readCompressor k => some (0x04, payload tag k [])
  | .readPrecool => some (0x05, payload tag 0 [])
  | .readChannel ch => some (0x06, payload tag ch [])
  | .readCompletion => some (0x07, payload tag 0 [])
  | .removeCompletion n => some (0x08, payload tag 0 (u32 n))
  | .readTotals => some (0x09, payload tag 0 [])
  | .loadSite f => some (0x20, payload tag 0 f.body)
  | .loadDensityRow row entries => some (0x21, payload tag row (entries.flatMap u16))
  | .loadRampEntry f => some (0x22, payload tag 0 f.body)
  | .loadPrecool f => some (0x23, payload tag 0 f.body)
  | .loadBank b f => some (0x24, payload tag b f.body)
  | .loadCompressor k f => some (0x25, payload tag k f.body)
  | .loadFp fp f => some (0x26, payload tag fp f.body)
  | .loadChannel ch f => some (0x27, payload tag ch f.body)
  | .loadInput line f => some (0x28, payload tag line f.body)
  | .loadValveMap pairs => some (0x29, payload tag 0 (u8 pairs.length ++ pairs.flatMap (fun p => u8 p.1 ++ u8 p.2)))
  | .loadEventOutput line c n p => some (0x2A, payload tag line (u8 c ++ u8 n ++ u8 p))
  | .setPrice c p t => some (0x30, payload tag 0 (u8 c ++ u32 p ++ u32 t))
  | .setTime v => some (0x31, payload tag 0 (u32 v))
  | .commission => some (0x40, payload tag 0 (u8 0))
  | .decommission => some (0x40, payload tag 0 (u8 1))
  | .openForecourt => some (0x40, payload tag 0 (u8 2))
  | .closeForecourt => some (0x40, payload tag 0 (u8 3))
  | .enterMaint => some (0x40, payload tag 0 (u8 4))
  | .leaveMaint => some (0x40, payload tag 0 (u8 5))
  | .shutdownCommand => some (0x40, payload tag 0 (u8 6))
  | .resume => some (0x40, payload tag 0 (u8 7))
  | .softReset => some (0x40, payload tag 0 (u8 8))
  | .authorize fp k v pr t => some (0x41, payload tag fp (u8 k ++ u32 v ++ u8 pr ++ u16 t))
  | .cancelAuth fp => some (0x42, payload tag fp [])
  | .fpStart fp => some (0x43, payload tag fp (u8 0))
  | .fpStop fp => some (0x43, payload tag fp (u8 1))
  | .fpHold fp => some (0x43, payload tag fp (u8 2))
  | .fpReleaseHold fp => some (0x43, payload tag fp (u8 3))
  | .fpClearFault fp => some (0x43, payload tag fp (u8 4))
  | .fpReset fp => some (0x43, payload tag fp (u8 5))
  | .bankClearFault b => some (0x44, payload tag b (u8 0))
  | .compressorEnable k => some (0x45, payload tag k (u8 0))
  | .compressorDisable k => some (0x45, payload tag k (u8 1))
  | .compressorClearTrip k => some (0x45, payload tag k (u8 2))
  | .chillerEnable => some (0x46, payload tag 0 (u8 0))
  | .chillerDisable => some (0x46, payload tag 0 (u8 1))
  | .chillerClearTrip => some (0x46, payload tag 0 (u8 2))
  | .valveMode line m => some (0x47, payload tag line (u8 m))
  | .clearCreep fp => some (0x48, payload tag fp [])
  | .linkByteReceived _ => none
  | .linkGap => none
  | .replySent => none
  | .powerOnReset _ _ => none
  | .sampleArrival _ _ => none
  | .stalenessExpiry _ => none
  | .rawLineChange _ _ => none
  | .filterExpiry _ => none
  | .minOffExpiry _ => none
  | .startHistoryAgeing _ => none
  | .startTimerExpiry _ => none
  | .csBankWaitExpiry _ => none
  | .minRunExpiry _ => none
  | .runDownExpiry _ => none
  | .waitLimitExpiry _ => none
  | .authExpired _ => none
  | .linkAcquisitionExpiry _ => none
  | .fpsBankWaitExpiry _ => none
  | .leakPulseExpiry _ => none
  | .leakHoldExpiry _ => none
  | .maxFillTimeExpiry _ => none
  | .settleExpiry _ => none
  | .ventTimeout _ => none
  | .segmentBoundary _ => none
  | .downgradeWatchOpen _ => none
  | .downgradeGraceExpiry _ => none
  | .lowFlowExpiry _ => none
  | .vehicleFrame _ _ => none
  | .linkLossExpiry _ => none
  | .meterPulse _ => none
  | .flowAgeing _ => none
  | .writeComplete _ => none
  | .writeError _ => none
  | .writeTimerExpiry => none
  | .calendarTick => none

/-- The lists of the request have lengths that its layout carries: 1 to 58 pairs, at most 8 banks (R202, R205). -/
def Instr.listsFit : Instr → Bool
  | .loadValveMap pairs => decide (1 ≤ pairs.length) && decide (pairs.length ≤ 58)
  | .loadFp _ f => decide (f.cascade.length ≤ 8)
  | _ => true

end Sys2Proof
end

