-- ==== Sys2Proof/Machine/Operands.lean ====
section
/-!
DEFINITION. Every operand form of a host request: unit numbers, on/off marks, enumerated values by their position in the
list of values where the manual first gives it (R205), the entries of the tables with their ranges, and the codes by which
the replies carry the same values.
-/
namespace Sys2Proof.Machine

/-- The unit of a request, where it exists (R205: a number above the owner's largest is refused with BAD_FIELD). -/
def unitOf (n : Nat) (x : Nat) : Option (Fin n) := if h : x < n then some ⟨x, h⟩ else none

/-- An on/off or presence mark (R205: other than 0 or 1 is refused with BAD_FIELD). DESIGN CHOICE (notes/assumptions/13.md): R205
does not say which of the two is on; 1 is on here, as it is present in a presence mark. -/
def onOff : Nat → Option Bool
  | 0 => some false
  | 1 => some true
  | _ => none

def inRange (lo hi x : Nat) : Bool := decide (lo ≤ x) && decide (x ≤ hi)

/-! ### Enumerated values -/

def pressureClassOf : Nat → Option PressureClass
  | 0 => some .h70 | 1 => some .h35 | _ => none
def PressureClass.code : PressureClass → Nat
  | .h70 => 0 | .h35 => 1

def precoolClassOf : Nat → Option PrecoolClass
  | 0 => some .t40 | 1 => some .t30 | 2 => some .t20 | 3 => some .tamb | _ => none
def PrecoolClass.code : PrecoolClass → Nat
  | .t40 => 0 | .t30 => 1 | .t20 => 2 | .tamb => 3

def bandOf : Nat → Option Band
  | 0 => some .a1 | 1 => some .a2 | 2 => some .a3 | 3 => some .a4 | 4 => some .a5 | _ => none
def Band.code : Band → Nat
  | .a1 => 0 | .a2 => 1 | .a3 => 2 | .a4 => 3 | .a5 => 4

def categoryOf : Nat → Option Category
  | 0 => some .s | 1 => some .m | 2 => some .l | _ => none
def Category.code : Category → Nat
  | .s => 0 | .m => 1 | .l => 2

/-- The binding with its index (section 12.4: 0 where the binding takes none; the model does not read it there). -/
def bindingOf (code index : Nat) : Option Binding :=
  match code with
  | 0 => (unitOf 4 index).map .nozzleP
  | 1 => (unitOf 4 index).map .gasT
  | 2 => (unitOf 8 index).map .bankP
  | 3 => (unitOf 8 index).map .bankT
  | 4 => some .coldStoreT
  | 5 => some .ambientT
  | 6 => (unitOf 2 index).map .dischargeT
  | 7 => some .supplyP
  | 8 => some .unused
  | _ => none
def Binding.code : Binding → Nat
  | .nozzleP _ => 0 | .gasT _ => 1 | .bankP _ => 2 | .bankT _ => 3 | .coldStoreT => 4 | .ambientT => 5
  | .dischargeT _ => 6 | .supplyP => 7 | .unused => 8
def Binding.index : Binding → Nat
  | .nozzleP i => i.val | .gasT i => i.val | .bankP b => b.val | .bankT b => b.val | .coldStoreT => 0 | .ambientT => 0
  | .dischargeT k => k.val | .supplyP => 0 | .unused => 0
/-- The binding measures a pressure. -/
def Binding.isPressure : Binding → Bool
  | .nozzleP _ => true | .gasT _ => false | .bankP _ => true | .bankT _ => false | .coldStoreT => false
  | .ambientT => false | .dischargeT _ => false | .supplyP => true | .unused => false

def ChanStatus.code : ChanStatus → Nat
  | .good => 0 | .stale => 1 | .failed => 2

def lineFnOf : Nat → Option LineFn
  | 0 => some .esd | 1 => some .gasAlarm | 2 => some .fireAlarm | 3 => some .siteHold | 4 => some .powerFail
  | 5 => some .chillerTrip | 6 => some .nozzleHolster | 7 => some .nozzleConnect | 8 => some .start | 9 => some .stop
  | 10 => some .breakaway | 11 => some .meterError | 12 => some .compressorTrip | 13 => some .noFn | _ => none

/-- How many targets a function has: fuelling points, compressors, or none (R9). -/
def LineFn.targets : LineFn → Nat
  | .nozzleHolster => 4 | .nozzleConnect => 4 | .start => 4 | .stop => 4 | .breakaway => 4 | .meterError => 4
  | .compressorTrip => 2
  | .esd => 0 | .gasAlarm => 0 | .fireAlarm => 0 | .siteHold => 0 | .powerFail => 0 | .chillerTrip => 0 | .noFn => 0

def polarityOf : Nat → Option Polarity
  | 0 => some .normal | 1 => some .inverted | _ => none
def Polarity.code : Polarity → Nat
  | .normal => 0 | .inverted => 1

def detectModeOf : Nat → Option DetectMode
  | 0 => some .level | 1 => some .rising | 2 => some .falling | 3 => some .any | _ => none

/-- The detection modes a function permits (R9). -/
def LineFn.permits (f : LineFn) (m : DetectMode) : Bool :=
  match f with
  | .nozzleHolster | .nozzleConnect => m == .level
  | .start | .stop => m != .level
  | .siteHold | .noFn => true
  | .esd | .gasAlarm | .fireAlarm | .powerFail | .chillerTrip | .breakaway | .meterError | .compressorTrip =>
    m == .level || m == .rising

def lineModeOf : Nat → Option LineMode
  | 0 => some .auto | 1 => some .forceClosed | 2 => some .forceOpen | 3 => some .released | _ => none
def LineMode.code : LineMode → Nat
  | .auto => 0 | .forceClosed => 1 | .forceOpen => 2 | .released => 3
def Drive.code : Drive → Nat
  | .drivenOpen => 0 | .drivenClosed => 1 | .notDriven => 2

def conditionOf (code index : Nat) : Option EventCondition :=
  match code with
  | 0 => some .never
  | 1 => some .anyFilling
  | 2 => (unitOf 4 index).map .fpFilling
  | 3 => some .shutdown
  | 4 => some .anyCompressorRunning
  | 5 => some .chillerRunning
  | 6 => some .precoolWaiting
  | 7 => some .queueNotEmpty
  | 8 => some .anyFault
  | _ => none

/-- The target of a valve map pair: a line, or NONE at 255 (R205). `none` is out of range. -/
def mapLineOf (x : Nat) : Option (Option (Fin 64)) :=
  if x = 255 then some none else (unitOf 64 x).map some

def presetKindOf : Nat → Option PresetKind
  | 0 => some .noPreset | 1 => some .mass | 2 => some .amount | _ => none
def PresetKind.code : PresetKind → Nat
  | .noPreset => 0 | .mass => 1 | .amount => 2
def AuthState.code : AuthState → Nat
  | .noAuth => 0 | .pending => 1 | .inUse => 2

def NozzleCondition.code : NozzleCondition → Nat
  | .holstered => 0 | .lifted => 1 | .connected => 2
def Indication.code : Indication → Nat
  | .normal => 0 | .clamped => 1 | .noTable => 2
def BankFault.code : BankFault → Nat
  | .ok => 0 | .protect => 1 | .sensor => 2
def CompState.code : CompState → Nat
  | .disabled => 0 | .off => 1 | .startDeferred => 2 | .starting => 3 | .recirc => 4 | .filling => 5 | .stopping => 6
  | .tripped => 7
def TripCause.code : TripCause → Nat
  | .dischargeTemp => 0 | .dischargeSensor => 1 | .tripInput => 2
def Chiller.code : Chiller → Nat
  | .disabled => 0 | .idle => 1 | .running => 2 | .tripped => 3
def ReservationState.code : ReservationState → Nat
  | .noRecord => 0 | .waiting => 1 | .admitted => 2
def FillState.code : FillState → Nat
  | .idle => 0 | .linkWait => 1 | .precoolWait => 2 | .leakCheck => 3 | .filling => 4 | .settling => 5 | .venting => 6
  | .complete => 7 | .fault => 8
def Substate.code : Substate → Nat
  | .bankWait => 0 | .hold => 1 | .rampPause => 2 | .flow => 3
def CommMode.code : CommMode → Nat
  | .undecided => 0 | .communication => 1 | .nonCommunication => 2
def LinkState.code : LinkState → Nat
  | .idle => 0 | .listening => 1 | .up => 2 | .lost => 3 | .implausible => 4
def VehicleCommand.code : VehicleCommand → Nat
  | .run => 0 | .halt => 1 | .abort => 2
def vehicleCommandOf : Nat → Option VehicleCommand
  | 0 => some .run | 1 => some .halt | 2 => some .abort | _ => none
/-- The receptacle class byte of a vehicle frame (R141). -/
def receptacleOf (x : Nat) : Option PressureClass :=
  if x = 70 then some .h70 else if x = 35 then some .h35 else none
def SiteState.code : SiteState → Nat
  | .unconfigured => 0 | .operating => 1 | .maintenance => 2 | .shutdown => 3 | .powerdown => 4
def ShutCause.code : ShutCause → Nat
  | .esd => 0 | .gasAlarm => 1 | .fireAlarm => 2 | .host => 3 | .noCause => 4

/-- The reason codes of R208. -/
def Reason.code : Reason → Nat
  | .targetSoc => 0 | .targetPressure => 1 | .pressureLimit => 2 | .presetMass => 3 | .presetAmount => 4
  | .supplyExhausted => 5 | .bankTimeout => 6 | .customerStop => 7 | .precoolTimeout => 8 | .timeLimit => 9
  | .linkAbort => 10 | .leak => 11 | .startPressure => 12 | .rampOvershoot => 13 | .tempLimit => 14 | .sensorFail => 15
  | .meterFail => 16 | .nozzleDisconnect => 17 | .breakaway => 18 | .linkAbsent => 19 | .classMismatch => 20 | .esd => 21
  | .reset => 22 | .powerFail => 23

/-- The normal set of R108; the others are the fault set. -/
def Reason.normal (r : Reason) : Bool := r.code ≤ 10

/-- The flag byte of a record (R208). -/
def TxnFlags.code (f : TxnFlags) : Nat :=
  f.noncomm.toNat + 2 * f.linkLost.toNat + 4 * f.implausible.toNat + 8 * f.downgraded.toNat + 16 * f.clamped.toNat +
    32 * f.powerSaved.toNat

/-! ### Bands and categories from figures -/

/-- The ambient band of a temperature (R78, 00_scope.md). -/
def bandFor (t : Nat) : Band :=
  if t < 2630 then .a1 else if t < 2830 then .a2 else if t < 3030 then .a3 else if t < 3180 then .a4 else .a5

/-- The tank category of a water volume (R145, 00_scope.md). -/
def categoryFor (volume : Nat) : Category :=
  if volume < 250 then .s else if volume < 700 then .m else .l

/-- The classes, coldest first (00_scope.md). -/
def classOrder : List PrecoolClass := [.t40, .t30, .t20, .tamb]

/-- The row of the ramp table with these keys, in the order of 7.1. -/
def rampIndex (c : PrecoolClass) (p : PressureClass) (b : Band) (t : Category) : Fin 120 :=
  ⟨((c.code * 2 + p.code) * 5 + b.code) * 3 + t.code, by
    cases c <;> cases p <;> cases b <;> cases t <;> decide⟩

/-! ### Table entries with their ranges -/

/-- The site parameters are in range (R187). -/
def siteInRange (f : SiteFields) : Bool :=
  inRange 50000 95000 f.limitH70 && inRange 25000 50000 f.limitH35 &&
  inRange 1000 6000 f.fullH70 && inRange 1000 6000 f.fullH35 &&
  inRange 500 10000 f.minStartH70 && inRange 500 10000 f.minStartH35 &&
  inRange 20 300 f.segment && inRange 100 5000 f.upperBand &&
  inRange 500 10000 f.overshootBand && decide (f.upperBand < f.overshootBand) &&
  inRange 500 10000 f.stepDiff && inRange 1 100 f.stepFlow && inRange 5 100 f.stepDwell &&
  inRange 10 600 f.bankWait && inRange 10 200 f.linkAcquisition && inRange 5 30 f.linkLoss &&
  inRange 1000 20000 f.plausMargin && inRange 10 50 f.leakPulse && inRange 20 200 f.leakHold &&
  inRange 100 2000 f.leakLimit && inRange 5 100 f.settleWindow && inRange 100 2000 f.ventPressure &&
  inRange 50 600 f.ventTimeout && inRange 500 20000 f.supplyMin

def classInRange (f : ClassFields) : Bool :=
  inRange 1000 4500 f.ceiling && inRange 1 2000 f.q && inRange 1000 4500 f.window && inRange 10 600 f.grace

/-- The precool entry is in range and ordered (R76). -/
def precoolInRange (f : PrecoolFields) : Bool :=
  inRange 100 10000 f.cs && inRange 1100 4400 f.setpoint && inRange 5 50 f.differential && inRange 100 6000 f.waitLimit &&
  classInRange f.t40 && classInRange f.t30 && classInRange f.t20 &&
  decide (1000 + f.differential ≤ f.setpoint) && decide (f.setpoint + f.differential ≤ 4500) &&
  decide (f.t40.ceiling < f.t30.ceiling) && decide (f.t30.ceiling < f.t20.ceiling) &&
  decide (f.t30.q < f.t40.q) && decide (f.t20.q < f.t30.q) &&
  decide (f.t40.window < f.t30.window) && decide (f.t30.window < f.t20.window)

/-- The bank entry of a LOAD_BANK, where checks 2 and 3 of R36 pass. -/
def bankEntryOf (f : BankFields) : Option BankEntry :=
  match onOff f.valid, onOff f.drawPermit, onOff f.fillPermit with
  | some v, some d, some p =>
    if inRange 50 20000 f.volume && inRange 10000 100000 f.rated && decide (f.priority ≤ 7) &&
       decide (f.floor < f.refillOn) && decide (f.refillOn < f.refillOff) && decide (f.refillOff ≤ f.rated) then
      some { valid := v, volume := f.volume, rated := f.rated, floor := f.floor, refillOn := f.refillOn,
             refillOff := f.refillOff, drawPermit := d, fillPermit := p, priority := f.priority }
    else none
  | _, _, _ => none

/-- The compressor entry is in range (R56). -/
def compressorInRange (f : CompressorFields) : Bool :=
  inRange 10000 100000 f.maxDischarge && inRange 50 600 f.startTime && inRange 50 600 f.runDown &&
  inRange 600 18000 f.minRun && inRange 300 18000 f.minOff && inRange 1 12 f.startLimit &&
  inRange 2730 4500 f.dischargeLimit && decide (f.priority ≤ 7)

/-- The allowed precooling classes of a subset byte, coldest first; a bit that names no class is out of range (R205). -/
def allowedOf (bits : Nat) : Option (List PrecoolClass) :=
  if bits = 0 ∨ 16 ≤ bits then none else some (classOrder.filter (fun c => bits.testBit c.code))

/-- The bank numbers of a cascade list: 1 to 8 distinct banks (R95). -/
def cascadeOf (l : List Nat) : Option (List BankId) :=
  if l.length = 0 ∨ 8 < l.length then none
  else match l.mapM (unitOf 8) with
    | some bs => if bs.Nodup then some bs else none
    | none => none

/-- The fuelling point entry of a LOAD_FP, where its field checks pass (R95). -/
def fpEntryOf (f : FpFields) : Option FpEntry :=
  match pressureClassOf f.pressureClass, allowedOf f.allowed, cascadeOf f.cascade, categoryOf f.category,
    onOff f.commRequired, onOff f.autoStart with
  | some pc, some al, some ca, some ct, some cr, some au =>
    if inRange 100 120000 f.defaultEstimate && inRange 1000 120000 f.maxMass && inRange 100 9000 f.authTimeout &&
       inRange 300 36000 f.maxFillTime && decide (f.priority ≤ 7) && inRange 1 10000 f.mgPerPulse &&
       inRange 1 5000 f.maxPulseRate && inRange 1 1000 f.creepLimit && inRange 500 1000 f.defaultSoc then
      some { pressureClass := pc, allowed := al, cascade := ca, category := ct, defaultEstimate := f.defaultEstimate,
             maxMass := f.maxMass, commRequired := cr, autoStart := au, authTimeout := f.authTimeout,
             maxFillTime := f.maxFillTime, priority := f.priority, mgPerPulse := f.mgPerPulse,
             maxPulseRate := f.maxPulseRate, creepLimit := f.creepLimit, defaultSoc := f.defaultSoc }
    else none
  | _, _, _, _, _, _ => none

/-- The scale and plausibility fields are in range for the binding; an UNUSED binding takes any (R1). -/
def scaleInRange (bd : Binding) (f : ChannelFields) : Bool :=
  match bd with
  | .unused => true
  | _ =>
    let lo := if bd.isPressure then 0 else 1000
    let hi := if bd.isPressure then 100000 else 4500
    inRange lo hi f.scaleLow && inRange lo hi f.scaleHigh && decide (f.scaleLow < f.scaleHigh) &&
    decide (f.plausLow ≤ f.plausHigh) && inRange f.scaleLow f.scaleHigh f.plausLow && inRange f.scaleLow f.scaleHigh f.plausHigh

/-- A ramp entry's keys, where they name a class, a band and a category (R120). -/
def rampKeysOf (f : RampFields) : Option (Fin 120) :=
  match precoolClassOf f.precoolClass, pressureClassOf f.pressureClass, bandOf f.band, categoryOf f.category with
  | some c, some p, some b, some t => some (rampIndex c p b t)
  | _, _, _, _ => none

/-! ### Parameters by class -/

/-- The class pressure limit, full density and minimum start pressure (R187). -/
def limitOf (p : SiteFields) : PressureClass → Nat
  | .h70 => p.limitH70 | .h35 => p.limitH35
def fullOf (p : SiteFields) : PressureClass → Nat
  | .h70 => p.fullH70 | .h35 => p.fullH35
def minStartOf (p : SiteFields) : PressureClass → Nat
  | .h70 => p.minStartH70 | .h35 => p.minStartH35

/-- A precooled class's parameters; TAMB has none (5.1). -/
def classParams (f : PrecoolFields) : PrecoolClass → Option ClassFields
  | .t40 => some f.t40 | .t30 => some f.t30 | .t20 => some f.t20 | .tamb => none
/-- A class's specific cooling; TAMB's is 0 (5.1). -/
def qOf (f : PrecoolFields) (c : PrecoolClass) : Nat := ((classParams f c).map (·.q)).getD 0

end Sys2Proof.Machine
end

