-- ==== Sys2Proof/Machine/Flags.lean ====
section
/-!
DEFINITION. The change summary and ATTN (12.5, R206): the fifteen flags at their positions, posting, and the changes of
state that post.
-/
namespace Sys2Proof.Machine

/-- The flags of 12.5, at their positions. -/
def flagFp (i : FpId) : Nat := i.val
def flagCompletion : Nat := 4
def flagAuthExpired : Nat := 5
def flagBank : Nat := 6
def flagCompressor (k : CompId) : Nat := 7 + k.val
def flagChiller : Nat := 9
def flagSite : Nat := 10
def flagChannelFail : Nat := 11
def flagMeter : Nat := 12
def flagRetained : Nat := 13
def flagPrice : Nat := 14

/-- A post puts its flag into the summary (R206). -/
def post (n : Nat) (s : State) : State := modSli (fun l => { l with summary := l.summary ||| BitVec.twoPow 15 n }) s

/-- ATTN is asserted while the summary holds a flag (R206). -/
def State.attn (s : State) : Bool := s.sli.summary != 0

/-- The flag at position `n` stands in the summary. -/
def State.posted (s : State) (n : Nat) : Bool := s.sli.summary.getLsbD n

/-- A post where `b` holds. -/
def postIf (b : Bool) (n : Nat) (s : State) : State := if b then post n s else s

/-- A fuelling point's fill state changes; the change posts FP(n). Outside FILLING there is no substate (R97). -/
def setFill (i : FpId) (st : FillState) (s : State) : State :=
  postIf ((s.fp i).fill != st) (flagFp i)
    (modFp i (fun f => { f with fill := st, sub := if st = .filling then f.sub else none }) s)

/-- A compressor's state changes; the change posts COMPRESSOR(k) (R58). -/
def setCompState (k : CompId) (st : CompState) (s : State) : State :=
  postIf ((s.comp k).state != st) (flagCompressor k) (modComp k (fun c => { c with state := st }) s)

/-- The chiller's state changes; the change posts CHILLER (R79). -/
def setChiller (c : Chiller) (s : State) : State :=
  postIf (s.pcm.chiller != c) flagChiller (modPcm (fun p => { p with chiller := c }) s)

/-- The site record changes; a change of site state, forecourt or shutdown cause posts SITE (R186). -/
def setSite (st : SiteState) (op : Bool) (cause : ShutCause) (s : State) : State :=
  postIf (s.site.state != st || s.site.forecourtOpen != op || s.site.cause != cause) flagSite
    (modSite (fun r => { r with state := st, forecourtOpen := op, cause := cause }) s)

end Sys2Proof.Machine
end

