-- ==== Sys2Proof/Machine/Views.lean ====
section
/-!
DEFINITION. What the blocks derive from their state without storing it: the line views of IEU (R11 to R13), a bank's reported
fault and usability (R40, R45), the level holds of a fill (R106), the role commands, drives and event outputs of OU (R15 to
R19), and the outputs that follow a sequencer's state (R58, R79, R97).
-/
namespace Sys2Proof.Machine

/-! ### Line views (R11 to R13) -/

/-- The effective level (R11). -/
def InLine.effective (l : InLine) : Bool :=
  match l.polarity with
  | .normal => l.filtered
  | .inverted => !l.filtered

/-- The line belongs to this function and, for a per-unit function, to this target. -/
def InLine.serves (l : InLine) (fn : LineFn) (target : Nat) : Bool :=
  l.fn == fn && (fn.targets == 0 || l.target == target)

/-- The combined level: a LEVEL-mode line of the function has effective level 1 (R12). -/
def State.combined (s : State) (fn : LineFn) (target : Nat := 0) : Bool :=
  s.lines.toList.any (fun l => l.serves fn target && l.mode == .level && l.effective)

/-- The input-asserted view: a line of the function, in any mode, has effective level 1 (R12). -/
def State.inputAsserted (s : State) (fn : LineFn) (target : Nat := 0) : Bool :=
  s.lines.toList.any (fun l => l.serves fn target && l.effective)

/-- The nozzle condition of a fuelling point (R13). -/
def State.nozzleCondition (s : State) (i : FpId) : NozzleCondition :=
  match s.inputAsserted .nozzleHolster i.val, s.inputAsserted .nozzleConnect i.val with
  | true, false => .holstered
  | false, true => .connected
  | false, false => .lifted
  | true, true => .lifted

/-! ### Banks (R40, R45) -/

/-- The reported fault (R45). -/
def Bank.fault (b : Bank) : BankFault :=
  if b.entry.valid && !(b.pressureGood && b.temperatureGood) then .sensor else if b.protect then .protect else .ok

/-- Usable for draw, usable for fill (R40). -/
def Bank.usableDraw (b : Bank) : Bool := b.entry.valid && b.entry.drawPermit && b.fault != .sensor
def Bank.usableFill (b : Bank) : Bool := b.entry.valid && b.entry.fillPermit && b.fault == .ok

/-- Usable for the purpose of requester `r` (R40, R51). -/
def Bank.usableFor (b : Bank) (r : Requester) : Bool :=
  match reqUnit r with
  | .inl _ => b.usableDraw
  | .inr _ => b.usableFill

/-! ### Fuelling points (R97, R98, R106) -/

/-- A level hold stands for the fill (R106). -/
def State.levelHold (s : State) (i : FpId) : Bool :=
  s.combined .siteHold || (s.fp i).hostHold || ((s.fp i).vehicleHold && (s.fp i).mode == .communication)

/-- Between start and the taking of a reason (6.2). -/
def FillState.running : FillState → Bool
  | .linkWait | .precoolWait | .leakCheck | .filling => true
  | .idle | .settling | .venting | .complete | .fault => false

/-- No fill: IDLE, COMPLETE or FAULT. -/
def FillState.none : FillState → Bool
  | .idle | .complete | .fault => true
  | .linkWait | .precoolWait | .leakCheck | .filling | .settling | .venting => false

/-- Draw demand and the SHUTOFF command (R97, R102, R122). -/
def Fps.drawing (f : Fps) : Bool :=
  (f.fill == .leakCheck && f.leakPulse.isSome) || (f.fill == .filling && f.sub == some .flow)
/-- The VENT command (R97). -/
def Fps.venting (f : Fps) : Bool := f.fill == .venting

/-- The ramp clock and the segment counter run (R122, R123). -/
def State.clockRuns (s : State) (i : FpId) : Bool :=
  (s.fp i).fill == .filling &&
  match (s.fp i).sub with
  | some .flow | some .rampPause => true
  | some .hold => !s.levelHold i
  | some .bankWait | .none => false

/-! ### Compressors and chiller (R58, R79) -/

def CompState.running : CompState → Bool
  | .starting | .recirc | .filling | .stopping => true
  | .disabled | .off | .startDeferred | .tripped => false
def CompState.motor : CompState → Bool
  | .starting | .recirc | .filling => true
  | .disabled | .off | .startDeferred | .stopping | .tripped => false
def CompState.recircOpen : CompState → Bool
  | .starting | .recirc | .stopping => true
  | .disabled | .off | .startDeferred | .filling | .tripped => false
def CompState.fillDemand (c : CompState) : Bool := c == .filling
def Chiller.runs (c : Chiller) : Bool := c == .running

/-! ### Valve roles (R15, R16, R205) -/

/-- A valve role. -/
inductive Role where
  | draw (fp : FpId) (b : BankId)
  | fill (k : CompId) (b : BankId)
  | shutoff (fp : FpId)
  | vent (fp : FpId)
  | recirc (k : CompId)
  deriving DecidableEq, Repr

/-- The role numbers of R205. -/
def Role.number : Role → Fin 58
  | .draw fp b => ⟨8 * fp.val + b.val, by omega⟩
  | .fill k b => ⟨32 + 8 * k.val + b.val, by omega⟩
  | .shutoff fp => ⟨48 + fp.val, by omega⟩
  | .vent fp => ⟨52 + fp.val, by omega⟩
  | .recirc k => ⟨56 + k.val, by omega⟩

/-- The role with a number. -/
def roleAt (r : Fin 58) : Role :=
  if h : r.val < 32 then .draw ⟨r.val / 8, by omega⟩ ⟨r.val % 8, by omega⟩
  else if h2 : r.val < 48 then .fill ⟨(r.val - 32) / 8, by omega⟩ ⟨(r.val - 32) % 8, by omega⟩
  else if h3 : r.val < 52 then .shutoff ⟨r.val - 48, by omega⟩
  else if h4 : r.val < 56 then .vent ⟨r.val - 52, by omega⟩
  else .recirc ⟨r.val - 56, by omega⟩

/-- A role is commanded open (R16). -/
def State.roleOpen (s : State) : Role → Bool
  | .draw fp b => s.holderOf b == some (fpReq fp) && (s.fp fp).drawing
  | .fill k b => s.holderOf b == some (csReq k) && (s.comp k).state.fillDemand
  | .shutoff fp => (s.fp fp).drawing
  | .vent fp => (s.fp fp).venting
  | .recirc k => (s.comp k).state.recircOpen

/-- The role mapped to an output line, if any. -/
def State.roleOn (s : State) (line : Fin 64) : Option Role :=
  ((List.finRange 58).find? (fun r => sel s.roleMap r == some line)).map roleAt

/-- SHUTDOWN and POWERDOWN drive every valve line closed (R17). -/
def SiteState.closesAll : SiteState → Bool
  | .shutdown | .powerdown => true
  | .unconfigured | .operating | .maintenance => false

/-- The drive of an output line (R17). -/
def State.drive (s : State) (line : Fin 64) : Drive :=
  if s.site.state.closesAll then .drivenClosed
  else match sel s.lineModes line with
    | .forceClosed => .drivenClosed
    | .forceOpen => .drivenOpen
    | .released => .notDriven
    | .auto =>
      match s.roleOn line with
      | some r => if s.roleOpen r then .drivenOpen else .drivenClosed
      | .none => .drivenClosed

/-- The roles a configuration needs, each with the test whether it is needed (R15). -/
def State.roleNeeded (s : State) : Role → Bool
  | .draw fp b => (s.fp fp).loaded && (s.fp fp).entry.cascade.contains b
  | .shutoff fp => (s.fp fp).loaded
  | .vent fp => (s.fp fp).loaded
  | .recirc k => (s.comp k).loaded
  | .fill k b => (s.comp k).loaded && (s.bank b).entry.valid &&
      decide ((s.bank b).entry.rated ≤ (s.comp k).entry.maxDischarge)

/-- Every role the configuration needs that satisfies `p` is mapped. -/
def State.mappedFor (s : State) (p : Role → Bool) : Bool :=
  (List.finRange 58).all (fun r => !(p (roleAt r) && s.roleNeeded (roleAt r)) || (sel s.roleMap r).isSome)

/-- Every role that the configuration needs is mapped (R15). -/
def State.mapped (s : State) : Bool := s.mappedFor (fun _ => true)

/-! ### Event outputs (R19) -/

/-- The condition holds. -/
def State.holds (s : State) : EventCondition → Bool
  | .never => false
  | .anyFilling => allFps.any (fun i => (s.fp i).fill == .filling)
  | .fpFilling i => (s.fp i).fill == .filling
  | .shutdown => s.site.state.closesAll
  | .anyCompressorRunning => allComps.any (fun k => (s.comp k).state.running)
  | .chillerRunning => s.pcm.chiller.runs
  | .precoolWaiting => !s.pcm.waitList.isEmpty
  | .queueNotEmpty => !s.cqr.queue.isEmpty
  | .anyFault => allFps.any (fun i => (s.fp i).fill == .fault) || allComps.any (fun k => (s.comp k).state == .tripped) ||
      s.pcm.chiller == .tripped || allBanks.any (fun b => (s.bank b).fault != .ok)

/-- The event output line is active (R19). -/
def State.eventActive (s : State) (e : Fin 8) : Bool :=
  match (sel s.events e).polarity with
  | .normal => s.holds (sel s.events e).condition
  | .inverted => !s.holds (sel s.events e).condition

/-! ### Channels -/

/-- The channel a quantity is bound to, if any. -/
def State.bound (s : State) (bd : Binding) : Bool := s.chans.toList.any (fun c => c.binding == bd)

end Sys2Proof.Machine
end

