-- ==== Sys2Proof/Machine/Gas.lean ====
section
/-!
DEFINITION. The gas property arithmetic of chapter 2: the density lookup, state of charge, masses, the fill estimate, the
cold of the store, reservations and consumption, the ramp target and the amount.
-/
namespace Sys2Proof.Machine

/-! ### Density (R23 to R25) -/

/-- entry(j, i); outside the table 0, which no lookup reaches. -/
def State.entryAt (s : State) (j i : Nat) : Nat :=
  if hj : j < 17 then if hi : i < 19 then sel (sel s.density ⟨j, hj⟩).entries ⟨i, hi⟩ else 0 else 0

/-- Every row is LOADED (R21). -/
def State.tableComplete (s : State) : Bool := s.density.toList.all (·.loaded)

/-- Every entry is at least the entry of the same column in the next warmer row (R23). -/
def State.tableOrdered (s : State) : Bool :=
  (List.range 16).all (fun j => (List.range 19).all (fun i => decide (s.entryAt (j + 1) i ≤ s.entryAt j i)))

structure Lookup where
  density : Nat
  indication : Indication
  deriving DecidableEq, Repr

def clampTo (lo hi x : Nat) : Nat := if x < lo then lo else if hi < x then hi else x

/-- The density from the four corners of the cell (R24, R25), the inputs already clamped. -/
def State.cellDensity (s : State) (p t : Nat) : Nat :=
  let i := min 17 (p / 5000)
  let op := p - 5000 * i
  let j := min 15 ((t - 2130) / 100)
  let ot := t - 2130 - 100 * j
  roundDiv (s.entryAt j i * (5000 - op) * (100 - ot) + s.entryAt j (i + 1) * op * (100 - ot) +
    s.entryAt (j + 1) i * (5000 - op) * ot + s.entryAt (j + 1) (i + 1) * op * ot) 500000

/-- A lookup (R24, R25). -/
def State.lookup (s : State) (p t : Nat) : Lookup :=
  if s.tableComplete then
    { density := s.cellDensity (clampTo 0 90000 p) (clampTo 2130 3730 t)
      indication := if clampTo 0 90000 p = p ∧ clampTo 2130 3730 t = t then .normal else .clamped }
  else { density := 0, indication := .noTable }

/-! ### State of charge, masses, estimate (R26 to R29) -/

/-- SOC before its clamp (R26). -/
def socRaw (density full : Nat) : Nat := roundDiv (density * 1000) full
/-- SOC, and whether it is CLAMPED (R26). -/
def socOf (l : Lookup) (full : Nat) : Nat × Bool :=
  (min 1000 (socRaw l.density full), decide (1000 < socRaw l.density full) || l.indication == .clamped)

/-- A mass in grams (R27). -/
def massOf (density volume : Nat) : Nat := roundDiv (density * volume) 100

/-- Target density and target mass (R28). -/
def targetDensity (full socTarget : Nat) : Nat := roundDiv (full * socTarget) 1000
def targetMass (full socTarget volume : Nat) : Nat := massOf (targetDensity full socTarget) volume

/-- The base estimate in communication mode (R29 step 1); 0 where the tank stands at or above its target. -/
def baseEstimate (full socTarget volume tankMass : Nat) : Nat := targetMass full socTarget volume - tankMass

/-- Steps 2 and 3 of the estimate (R29). -/
def estimateOf (base : Nat) (kind : PresetKind) (value maxMass : Nat) : Nat :=
  min maxMass (if kind = .mass then min base (ceilDiv value 1000) else base)

/-! ### Cold (R30 to R32) -/

/-- Outstanding reservation G − C (R31, R86). -/
def Reservation.outstanding (r : Reservation) : Nat := r.g - r.c

/-- The sum of the outstanding reservations of all fuelling points (R30). -/
def State.outstandingSum (s : State) : Nat := (s.pcm.records.toList.map (·.outstanding)).sum

/-- Available cold of a class (R30). -/
def State.avail (s : State) (c : PrecoolClass) : Nat :=
  match classParams s.pcm.entry c with
  | some p =>
    if s.pcm.tcsGood && s.pcm.chiller != .tripped && s.pcm.chiller != .disabled then
      s.pcm.entry.cs * (p.ceiling - s.pcm.tcs) / 10
    else 0
  | none => 0

/-- Free cold of a class (R30). -/
def State.free (s : State) (c : PrecoolClass) : Nat := s.avail c - s.outstandingSum

/-- The reservation a fill needs at a class (R31). -/
def reservationFor (estimate q : Nat) : Nat := ceilDiv (estimate * q) 1000

/-- Consumed cold (R31, R32): `mass` in mg. -/
def consumed (r : Reservation) (q mass : Nat) : Nat := min r.g (r.c0 + (mass - r.m0) * q / 1000000)

/-- The record after a swap to a warmer class (R32, R89): `mass` is the mass at the swap, `q` the new class's q. -/
def swapRecord (r : Reservation) (c : PrecoolClass) (q mass : Nat) : Reservation :=
  if c = .tamb then { r with cls := some .tamb, g := 0, c := 0, c0 := 0, m0 := 0 }
  else { r with cls := some c, c0 := r.c, m0 := mass, c := r.c,
                g := r.c + min r.outstanding (reservationFor (r.estimate - mass / 1000) q) }

/-! ### Ramp target and amount (R33, R34) -/

/-- Pt (R33). -/
def rampTarget (pstart rate clock limit : Nat) : Nat := min limit (pstart + rate * clock / 600)

/-- The amount of a mass at a unit price (R34). -/
def amountOf (mass price : Nat) : Nat := (mass * price + 500000) / 1000000

end Sys2Proof.Machine
end

