-- ==== Sys2Proof/Machine/Store.lean ====
section
/-!
DEFINITION. The Completion Queue and Retained Store Controller (chapter 10): numbering, loading and removing records, the
totals, the retained image with its bytes and check, writes and their reports, and the read at power-on.
-/
namespace Sys2Proof.Machine

/-! ### Record numbers and totals (R176, R179) -/

/-- The number after `n`: 4,294,967,295 is followed by 1 (R176). -/
def nextNumber (n : Nat) : Nat := if 4294967295 ≤ n then 1 else n + 1

/-- A total stops at its largest value (R179). -/
def addStop (top a b : Nat) : Nat := min top (a + b)

def Totals.add (t : Totals) (mass amount : Nat) : Totals :=
  { mass := addStop 18446744073709551615 t.mass mass, amount := addStop 18446744073709551615 t.amount amount,
    fills := addStop 4294967295 t.fills 1 }

/-! ### The bytes of a record and of the image (R180, R208) -/

def DrawEntry.bytes (e : DrawEntry) : List Byte :=
  u8 e.bank.val ++ u32 e.mass ++ u32 e.openP ++ u32 (e.closeP.getD 0)

/-- A completion record as R208 lays it out. -/
def Record.bytes (r : Record) : List Byte :=
  u32 r.number ++ u8 r.fp.val ++ u8 r.reason.code ++ u8 r.flags.code ++
  u8 (r.p0.isSome.toNat + 2 * r.finalSoc.isSome.toNat + 4 * r.startClass.isSome.toNat) ++
  u32 r.price ++ u32 r.mass ++ u32 r.amount ++ u32 r.startTime ++ u32 r.endTime ++
  u32 (r.p0.getD 0) ++ u16 (r.finalSoc.getD 0) ++
  u8 ((r.startClass.map PrecoolClass.code).getD 0) ++ u8 ((r.finalClass.map PrecoolClass.code).getD 0) ++
  counted DrawEntry.bytes r.draw

def Totals.bytes (t : Totals) : List Byte := u64 t.mass ++ u64 t.amount ++ u32 t.fills

/-- The content of the image in the order of R180. DESIGN CHOICE (notes/assumptions/6.md): the sizes are those of R205
and R208, which the manual states for the link. -/
def RetainedImage.bytes (i : RetainedImage) : List Byte :=
  i.totals.toList.flatMap Totals.bytes ++ u32 i.nextNumber ++ u8 i.count ++ i.records.flatMap Record.bytes

/-- The image with its check (R180). -/
def withCheck (i : RetainedImage) : StoredImage := { image := i, check := crc16 i.bytes }

/-- The image of what CQR holds (R180). -/
def Cqr.image (c : Cqr) : RetainedImage :=
  { totals := c.totals, nextNumber := c.nextNumber, count := c.queue.length, records := c.queue }

/-! ### Writes (R181, R182) -/

/-- A write of the image as it stands is started. -/
def Cqr.startWrite (c : Cqr) : Cqr :=
  { c with write := some { id := c.writeSeq + 1, image := withCheck c.image, timer := some Config.writeTime },
           writeSeq := c.writeSeq + 1 }

/-- A change of the retained image is marked (R181). -/
def Cqr.mark (c : Cqr) : Cqr :=
  match c.write with
  | none => c.startWrite
  | some _ => { c with pendingChange := true }

def markChange (s : State) : State := modCqr Cqr.mark s

/-- After a write has ended: a pending change is written (R181, R182). -/
def Cqr.afterWrite (c : Cqr) : Cqr :=
  if c.pendingChange then { c with pendingChange := false }.startWrite else c

/-- The memory after a write that did not complete: what stood there, or a partly written image that fails its check; the
image of that write is never found there (R184). -/
def StoreContents.cut : StoreContents → StoreContents
  | .blank => .blank
  | .holds i => .unsure i
  | .unsure i => .unsure i

/-- The write in flight has completed (R181). -/
def writeDone (w : Write) (s : State) : State :=
  postIf s.cqr.fault flagRetained
    (modCqr (fun c => ({ c with write := none, fault := false, store := .holds w.image } : Cqr).afterWrite) s)

/-- The write in flight has failed (R182). Its image is not kept: only a completed write carries a record through a power
failure (R184). -/
def writeFailed (w : Write) (s : State) : State :=
  postIf (!s.cqr.fault) flagRetained
    (modCqr (fun c => ({ c with write := none, fault := true,
                                store := c.store.cut } : Cqr).afterWrite) s)

/-! ### Loading and removing (R174, R178) -/

/-- CQR loads a record handed over by MTU (R174); `r` carries no number yet. -/
def loadRecord (r : Record) (s : State) : State :=
  post flagCompletion (markChange (modCqr (fun c =>
    { c with queue := c.queue ++ [{ r with number := c.nextNumber }]
             nextNumber := nextNumber c.nextNumber
             totals := upd c.totals r.fp ((sel c.totals r.fp).add r.mass r.amount) }) s))

/-- A slot is reserved, or released (R173). -/
def reserveSlot (s : State) : State := modCqr (fun c => { c with slots := c.slots + 1 }) s
def releaseSlot (s : State) : State := modCqr (fun c => { c with slots := c.slots - 1 }) s

/-! ### The read at power-on (R184) -/

/-- Each record's number follows its predecessor's, and the next record number is one past the tail's (R176, R184). -/
def consecutive : List Record → Nat → Bool
  | [], _ => true
  | r :: rest, next =>
    match rest with
    | [] => nextNumber r.number == next
    | r' :: _ => nextNumber r.number == r'.number && consecutive rest next

/-- The content is coherent (R184). -/
def RetainedImage.coherent (i : RetainedImage) : Bool :=
  decide (i.count ≤ Config.slots) && i.count == i.records.length && consecutive i.records i.nextNumber

/-- The stored image carries the right check and a coherent content (R184). -/
def StoredImage.valid (i : StoredImage) : Bool := i.check == crc16 i.image.bytes && i.image.coherent

/-- What stands in the memory as power is lost: a write in flight is cut off (R183, NOTE). -/
def Cqr.standing (c : Cqr) : StoreContents := if c.write.isSome then c.store.cut else c.store

/-- What a read of the memory finds at power-on (R183, R184): the image of the last completed write, or an image that fails its
check. Which of the two after a write that did not complete is FREE (Config.storeFinds; notes/assumptions/2.md). -/
def Cqr.found (c : Cqr) (choice : Nat) : Option StoredImage :=
  match c.standing with
  | .blank => none
  | .holds i => some i
  | .unsure i => if choice % 2 = 0 then some i else none

/-- CQR after the read of the retained image (R184); `readError` says that the memory reports an error on the read, `choice` is
the free value of the read. A read that only reported an error leaves the memory as it stands. -/
def Cqr.restored (c : Cqr) (readError : Bool) (choice : Nat) : Cqr :=
  if readError then lostRead c.standing c.writeSeq else
  match c.found choice with
  | some i =>
    if i.valid then
      { queue := i.image.records, slots := i.image.records.length, nextNumber := i.image.nextNumber,
        totals := i.image.totals, write := none, pendingChange := false, fault := false, lost := false,
        store := .holds i, writeSeq := c.writeSeq }
    else lostRead .blank c.writeSeq
  | none => lostRead .blank c.writeSeq
where
  /-- The read failed: everything is set afresh and a valid empty image is written at once. -/
  lostRead (store : StoreContents) (writeSeq : Nat) : Cqr :=
    ({ queue := [], slots := 0, nextNumber := 1, totals := Vector.replicate 4 Totals.zero, write := none,
       pendingChange := false, fault := false, lost := true, store := store, writeSeq := writeSeq } : Cqr).startWrite

end Sys2Proof.Machine
end

