-- ==== Sys2Proof/Machine/Meter.lean ====
section
/-!
DEFINITION. The Metering and Transaction Unit's own operations (chapter 9): authorization records, prices, the live
transaction and its draw list, the placing of a pulse, the flow figure and pulse count, creep, and the hand-over to CQR.
-/
namespace Sys2Proof.Machine

/-! ### Authorizations and prices (R155 to R162) -/

/-- A PENDING authorization is cancelled: the record returns to NONE and its slot is released (R159, R160). -/
def cancelAuthorization (i : FpId) (s : State) : State :=
  if (s.meter i).auth.state = .pending then releaseSlot (modMeter i (fun m => { m with auth := Auth.empty }) s) else s

/-- The price table's entry of a class. -/
def priceIndex (c : PressureClass) : Fin 2 := ⟨c.code, by cases c <;> decide⟩
def State.price (s : State) (c : PressureClass) : Price := sel s.prices (priceIndex c)
def setPriceEntry (c : PressureClass) (p : Price) (s : State) : State :=
  { s with prices := upd s.prices (priceIndex c) p }

/-- A pending price whose time has come becomes active and is announced (R162). -/
def activatePrice (c : PressureClass) (s : State) : State :=
  match (s.price c).pending with
  | some (p, t) =>
    if t ≤ s.site.calendar then post flagPrice (setPriceEntry c { active := p, pending := none } s) else s
  | none => s

/-- The calendar has moved: every class is looked at (R162). -/
def activatePrices (s : State) : State := activatePrice .h35 (activatePrice .h70 s)

/-- The fill's SOC target (R28). DESIGN CHOICE (notes/assumptions/38.md): once the fill's authorization has returned to NONE the
manual does not say which target READ_FP shows; this is then the fuelling point's default, not the last fill's target. -/
def State.socTarget (s : State) (i : FpId) : Nat := ((s.meter i).auth.soc).getD (s.fp i).entry.defaultSoc

/-! ### The transaction and its draw list (R163, R164) -/

def TxnFlags.clear : TxnFlags :=
  { noncomm := false, linkLost := false, implausible := false, downgraded := false, clamped := false, powerSaved := false }

/-- The live transaction at its opening (R163). -/
def openTxn (a : Auth) (now : Nat) : Txn :=
  { live := true, price := a.price, mass := 0, amount := 0, draw := [], startClass := none, finalClass := none, p0 := none,
    finalSoc := none, flags := TxnFlags.clear, startTime := now, endTime := none, reason := none, kind := a.kind,
    value := a.value }

/-- MTU at the start of a fill (R98 step 2, R163, R166). -/
def meterStart (i : FpId) (s : State) : State :=
  modMeter i (fun m => { m with auth := { m.auth with state := .inUse, timer := none },
                                txn := some (openTxn m.auth s.site.calendar), window := false, flow := [] }) s

def setFlags (i : FpId) (f : TxnFlags → TxnFlags) (s : State) : State := modTxn i (fun t => { t with flags := f t.flags }) s

/-- MTU opens a draw-list entry for a granted bank (R164). -/
def openDraw (i : FpId) (b : BankId) (s : State) : State :=
  modTxn i (fun t => { t with draw := t.draw ++ [{ bank := b, mass := 0, openP := (s.bank b).pressure, closeP := none }] }) s

/-- MTU closes the open entry with its bank's latest pressure (R164). -/
def closeDraw (i : FpId) (s : State) : State :=
  modTxn i (fun t => { t with draw := t.draw.map (fun e =>
    match e.closeP with
    | none => { e with closeP := some (s.bank e.bank).pressure }
    | some _ => e) }) s

/-! ### Pulses (R165, R166, R169) -/

/-- A pulse's mass joins the open entry, or, where none is open, the last one: the most recently closed (R165). -/
def addToDraw (mg : Nat) : List DrawEntry → List DrawEntry
  | [] => []
  | e :: rest =>
    if e.closeP.isNone || rest.isEmpty then { e with mass := e.mass + mg } :: rest else e :: addToDraw mg rest

/-- The sum of the entries' masses (R163). -/
def drawSum (l : List DrawEntry) : Nat := (l.map (·.mass)).sum

/-- A pulse joins the transaction: its mass, one entry's mass and the amount (R165). -/
def Txn.pulse (t : Txn) (mg : Nat) : Txn :=
  { t with mass := t.mass + mg, draw := addToDraw mg t.draw, amount := amountOf (t.mass + mg) t.price }

/-- The flow figure (R166). -/
def Meter.figure (m : Meter) : Nat := (m.flow.map (·.2)).sum

/-- The pulse-rate count at time `now` (R166). -/
def Meter.rate (m : Meter) (now : Clock) : Nat := (m.pulses.filter (fun t => decide (age now t < Config.flowWindow))).length

/-- The pulse is counted in the pulse-rate count (R166). -/
def notePulse (i : FpId) (s : State) : State :=
  modMeter i (fun m => { m with
    pulses := m.pulses.filter (fun t => decide (age s.site.clock t < Config.flowWindow)) ++ [s.site.clock] }) s

/-- The pulse goes to the transaction (R165) and raises the flow figure (R166). -/
def pulseToTxn (i : FpId) (mg : Nat) (s : State) : State :=
  modMeter i (fun m => { m with txn := m.txn.map (·.pulse mg), flow := m.flow ++ [(s.site.clock, mg)] }) s

/-- The pulse goes to creep (R169). -/
def pulseToCreep (i : FpId) (mg : Nat) (s : State) : State :=
  let c := min 4294967295 ((s.meter i).creep + mg)
  let beyond := decide ((s.fp i).entry.creepLimit * 1000 < c)
  postIf (beyond && !(s.meter i).creepBlock) flagMeter
    (modMeter i (fun m => { m with creep := c, creepBlock := m.creepBlock || beyond }) s)

/-- Whether the pulse finds the window open with an entry to join (R165). -/
def Meter.counts (m : Meter) : Bool :=
  m.window && match m.txn with
  | some t => !t.draw.isEmpty
  | none => false

/-- The flow figure is low (R136). -/
def State.flowLow (s : State) (i : FpId) : Bool := decide ((s.meter i).figure < s.site.params.stepFlow * 1000)

/-! ### Hand-over (R168) -/

/-- The completion record of a transaction (R175); its number is CQR's to give. -/
def recordOf (i : FpId) (t : Txn) (r : Reason) (now : Nat) : Record :=
  { number := 0, fp := i, reason := r, flags := t.flags, price := t.price, mass := t.mass, amount := t.amount,
    startTime := t.startTime, endTime := now, p0 := t.p0, finalSoc := t.finalSoc, startClass := t.startClass,
    finalClass := t.finalClass, draw := t.draw }

/-- Steps 2 and 3 of R168 on the transaction. -/
def Txn.close (t : Txn) (r : Reason) (saved : Bool) (now : Nat) : Txn :=
  { t with live := false, reason := some r, endTime := some now, amount := amountOf t.mass t.price,
           flags := { t.flags with powerSaved := t.flags.powerSaved || saved } }

/-- The transaction is handed over with its reason; `saved` asks for POWER_SAVED (R168). -/
def handOver (i : FpId) (r : Reason) (saved : Bool) (s : State) : State :=
  let s1 := closeDraw i (modMeter i (fun m => { m with window := false }) s)
  match (s1.meter i).txn with
  | none => s1
  | some t =>
    let t' := t.close r saved s.site.calendar
    modMeter i (fun m => { m with auth := Auth.empty })
      (loadRecord (recordOf i t' r s.site.calendar) (modMeter i (fun m => { m with txn := some t' }) s1))

end Sys2Proof.Machine
end

