-- ==== Sys2Proof/Machine/Link.lean ====
section
/-!
DEFINITION. The Vehicle Link Receiver's own operations (chapter 8): the frame checks, the error counts, listening, the end of
a fill and the implausibility test.
-/
namespace Sys2Proof.Machine

/-- How a frame is judged by R143. -/
inductive FrameCheck where
  | crcError
  | formatError
  | rangeError
  | valid (volume : Nat) (receptacle : PressureClass) (data : VehicleData)
  deriving DecidableEq, Repr

/-- The range check of a frame of the right length and format (R141, R143 check 4). -/
def frameFields (f : List Byte) : FrameCheck :=
  match receptacleOf (num f 1 1), vehicleCommandOf (num f 10 1) with
  | some rc, some cmd =>
    if inRange 1 4000 (num f 2 2) && inRange 0 100000 (num f 4 4) && inRange 1000 4500 (num f 8 2) then
      .valid (num f 2 2) rc { pressure := num f 4 4, temperature := num f 8 2, command := cmd }
    else .rangeError
  | _, _ => .rangeError

/-- The first failing check gives the kind (R143). -/
def checkFrame (f : List Byte) : FrameCheck :=
  if f.length ≠ 13 then .formatError
  else if num f 11 2 ≠ (crc16 (f.take 11)).toNat then .crcError
  else if num f 0 1 ≠ 1 then .formatError
  else frameFields f

/-- A frame count stops at 65,535 (R142). -/
def countUp (n : Nat) : Nat := min 65535 (n + 1)

def Vlr.countError (v : Vlr) : FrameCheck → Vlr
  | .crcError => { v with crcErrors := countUp v.crcErrors }
  | .formatError => { v with formatErrors := countUp v.formatErrors }
  | .rangeError => { v with rangeErrors := countUp v.rangeErrors }
  | .valid _ _ _ => v

/-- The receiver begins to listen (R144). -/
def Vlr.listen (v : Vlr) : Vlr :=
  { v with state := .listening, volume := none, receptacle := none, last := none, implausCount := 0, crcErrors := 0,
           formatErrors := 0, rangeErrors := 0, ignored := 0 }

/-- The receiver is told that its fill has ended (R152). -/
def Vlr.ended (v : Vlr) : Vlr := { v with state := .idle, loss := none, implausCount := 0 }

def endLink (i : FpId) (s : State) : State := modLink i Vlr.ended s

/-- The first valid frame takes the link UP (R145 steps 1 to 3). -/
def Vlr.up (v : Vlr) (volume : Nat) (rc : PressureClass) (d : VehicleData) (lossTime : Nat) : Vlr :=
  { v with state := .up, volume := some volume, receptacle := some rc, last := some d, implausCount := 0,
           loss := some lossTime }

/-- The implausibility count after a valid frame in UP (R149): `flow` says that the fill is in FILLING/FLOW. -/
def implausAfter (count : Nat) (flow : Bool) (tank nozzle margin : Nat) : Nat :=
  if flow && (decide (nozzle + margin < tank) || decide (tank + margin < nozzle)) then min 3 (count + 1) else 0

end Sys2Proof.Machine
end

