-- ==== Sys2Proof/Machine/Arbiter.lean ====
section
/-!
DEFINITION. The FILLING substate of a fuelling point (R122, R133) and the Bank Arbiter (3.6): requests, releases, withdrawals
and competitions, with a grant told to its winner.
-/
namespace Sys2Proof.Machine

/-! ### The FILLING substate (R122) -/

/-- The substate that follows from the fill's state (R122). -/
def State.deriveSub (s : State) (i : FpId) : Substate :=
  if (s.fp i).link = .stacked then .bankWait
  else if s.levelHold i then .hold
  else if (s.fp i).sync then .hold
  else if (s.fp i).pause then .rampPause
  else .flow

/-- The timers of FLOW as the substate becomes `new` from `old`: leaving FLOW cancels low flow and downgrade grace,
entering it with a low figure starts the low-flow timer (R127, R136). -/
def flowTimers (old : Option Substate) (new : Substate) (low : Bool) (dwell : Nat) (f : Fps) : Fps :=
  if new = .flow then
    if old = some .flow then f else { f with lowFlow := if low then some dwell else none }
  else { f with lowFlow := none, grace := none }

/-- The substate becomes `new`; a change posts FP(n) (R97, R122). -/
def setSub (i : FpId) (new : Substate) (s : State) : State :=
  postIf ((s.fp i).sub != some new) (flagFp i)
    (modFp i (fun f => { flowTimers f.sub new (s.flowLow i) s.site.params.stepDwell f with sub := some new }) s)

/-- The substate is re-derived (R122). -/
def rederive (i : FpId) (s : State) : State := setSub i (s.deriveSub i) s

/-- A rebase: the ramp starts again from the latest nozzle pressure (R133). -/
def rebase (i : FpId) (s : State) : State := modFp i (fun f => { f with pstart := f.nozzle, clock := 0, pause := false }) s

/-- The leak pulse begins: draw demand on, SHUTOFF open, pulse timer started (R102). -/
def beginPulse (i : FpId) (s : State) : State := modFp i (fun f => { f with leakPulse := some s.site.params.leakPulse }) s

/-! ### What a grant does at its winner (R66, R102, R103, R138) -/

/-- A bank has been granted to a fuelling point that asked for it: the draw-list entry is opened, and the pulse begins
or the substate is re-derived. -/
def fpsTake (i : FpId) (b : BankId) (s : State) : State :=
  let s1 := openDraw i b (modFp i (fun f => { f with link := .granted, bankWait := none }) s)
  match (s1.fp i).fill with
  | .leakCheck => if s1.levelHold i then s1 else beginPulse i s1
  | .filling => rederive i s1
  | .idle | .linkWait | .precoolWait | .settling | .venting | .complete | .fault => s1

/-- The fuelling point waits for this bank in a stacked set. -/
def Fps.waitsFor (f : Fps) (b : BankId) : Bool :=
  f.link == .stacked && f.cascadePos == some b && (f.fill == .leakCheck || f.fill == .filling)

/-- The compressor waits for this bank in a stacked set (R66). -/
def Compressor.waitsFor (c : Compressor) (b : BankId) : Bool := c.state == .recirc && c.target == some b

/-- granted(b) reaches requester `r`. True where it crossed the requester's own withdraw: it does not wait for the bank
and releases it at once (R66, R103, R139). -/
def tellGranted (r : Requester) (b : BankId) (s : State) : State × Bool :=
  match reqUnit r with
  | .inl i => if (s.fp i).waitsFor b then (fpsTake i b s, false) else (s, true)
  | .inr k =>
    if (s.comp k).waitsFor b then (setCompState k .filling (modComp k (fun c => { c with bankWait := none }) s), false)
    else (s, true)

/-! ### Competitions (R52) -/

/-- The arbiter priority of a requester (R52). -/
def State.arbPriority (s : State) (r : Requester) : Nat :=
  match reqUnit r with
  | .inl i => (s.fp i).entry.priority
  | .inr k => (s.comp k).entry.priority

/-- `a` goes before `b`: the lower priority number, then the lower index (R52). -/
def State.beats (s : State) (a b : Requester) : Bool :=
  decide (s.arbPriority a < s.arbPriority b) || (s.arbPriority a == s.arbPriority b && decide (a.val < b.val))

/-- The winner among the members (R52). -/
def State.winner (s : State) : List Requester → Option Requester
  | [] => none
  | r :: rest =>
    match s.winner rest with
    | none => some r
    | some w => if s.beats r w then some r else some w

/-- A competition for a bank that is FREE, held again where a grant crossed (R52). Each round takes a member out of the
set, so as many rounds as members suffice. -/
def competeFor : Nat → BankId → State → State
  | 0, _, s => s
  | n + 1, b, s =>
    match s.winner (s.stackedAt b) with
    | none => s
    | some r =>
      let t := tellGranted r b (setHolder b (some r) (setStacked b ((s.stackedAt b).erase r) s))
      if t.2 then competeFor n b (setHolder b none t.1) else t.1

/-- The competition held when a bank stands FREE with members in its set (R52). -/
def compete (b : BankId) (s : State) : State :=
  match s.holderOf b with
  | none => competeFor (s.stackedAt b).length b s
  | some _ => s

/-! ### Requests, releases, withdrawals (R50 to R53) -/

inductive BankReply where
  | granted | stacked | rejected
  deriving DecidableEq, Repr

/-- The requester holds a grant or stands in a stacked set (R50). -/
def State.engaged (s : State) (r : Requester) : Bool :=
  allBanks.any (fun b => s.holderOf b == some r || (s.stackedAt b).contains r)

/-- Insertion in ascending order of the requester index. -/
def insertReq (r : Requester) : List Requester → List Requester
  | [] => [r]
  | x :: rest => if r.val < x.val then r :: x :: rest else x :: insertReq r rest

/-- request(b) from `r` (R50, R51). A grant is told by the reply. -/
def requestBank (r : Requester) (b : BankId) (s : State) : State × BankReply :=
  if !(s.bank b).usableFor r || s.engaged r then (s, .rejected)
  else if (s.holderOf b).isNone && (s.stackedAt b).isEmpty then (setHolder b (some r) s, .granted)
  else (setStacked b (insertReq r (s.stackedAt b)) s, .stacked)

/-- release(b) from `r` (R52). -/
def releaseBank (r : Requester) (b : BankId) (s : State) : State :=
  if s.holderOf b = some r then compete b (setHolder b none s) else s

/-- withdraw(b) from `r` (R53). -/
def withdrawBank (r : Requester) (b : BankId) (s : State) : State := setStacked b ((s.stackedAt b).erase r) s

/-- The requester lets go of a bank: it releases its grant, or withdraws its stacked request. -/
def letGo (r : Requester) (b : BankId) (s : State) : State := withdrawBank r b (releaseBank r b s)

/-- The arbiter is emptied without notices (R55). -/
def emptyArbiter (s : State) : State :=
  { s with holder := Vector.replicate 8 none, stacked := Vector.replicate 8 [] }

end Sys2Proof.Machine
end

