-- ==== Sys2Proof/Machine/Fuelling.lean ====
section
/-!
DEFINITION. The fuelling point sequencer inside LEAK_CHECK, FILLING and VENTING (chapters 6 and 7): closing a fill, the bank
choices, the tests on nozzle pressure, gas temperature, mass and flow, and the staging of ramp changes.
-/
namespace Sys2Proof.Machine

/-! ### The end of a fill (R108, R110, R112, R113, R153) -/

/-- The termination reason is taken: the host hold ends and, in COMMUNICATION mode, the present SOC is the final SOC
(R106, R108, R153). -/
def takeReason (i : FpId) (r : Reason) (s : State) : State :=
  let f := s.fp i
  let s1 := modFp i (fun f => { f with reason := some r, hostHold := false }) s
  if f.mode = .communication then modTxn i (fun t => { t with finalSoc := f.presentSoc }) s1 else s1

/-- The timers that a fill's close cancels (R110, R140). The segment counter and the watch mark are kept with the rest of the
ramp state (DESIGN CHOICE, notes/assumptions/46.md). -/
def Fps.closed (f : Fps) : Fps :=
  { f with link := .unlinked, bankWait := none, leakPulse := none, leakHold := none, maxFill := none, grace := none,
           lowFlow := none }

/-- The sequencer lets go of its bank: release or withdraw (R110). -/
def letGoOfBank (i : FpId) (s : State) : State :=
  match (s.fp i).cascadePos with
  | some b => letGo (fpReq i) b s
  | none => s

/-- A fill in LEAK_CHECK or FILLING is stopped: reason, draw list, valves, timers, bank, receiver (R110). -/
def stopFill (i : FpId) (r : Reason) (s : State) : State :=
  endLink i (letGoOfBank i (modFp i Fps.closed (closeDraw i (takeReason i r s))))

/-- A fill ended in LEAK_CHECK or FILLING is closed and settles (R110). -/
def closeFill (i : FpId) (r : Reason) (s : State) : State :=
  stopFill i r (setFill i .settling (modFp i (fun f => { f with settle := some s.site.params.settleWindow }) s))

/-- COMPLETE for a normal reason, on to IDLE at once where the nozzle is already HOLSTERED; FAULT otherwise (R108, R113). -/
def finish (i : FpId) (s : State) : State :=
  match (s.fp i).reason with
  | some r =>
    if r.normal then
      let s1 := setFill i .complete s
      if s1.nozzleCondition i = .holstered then setFill i .idle s1 else s1
    else setFill i .fault s
  | none => setFill i .fault s

/-- The vent has succeeded (R111 step 4, R112). -/
def ventDone (i : FpId) (s : State) : State := finish i (modFp i (fun f => { f with vent := none }) s)

/-! ### Bank choices (R102, R103, R137 to R139) -/

/-- The bank's latest pressure is at least the step differential above the latest nozzle pressure (R102, R137). -/
def State.pushes (s : State) (i : FpId) (b : BankId) : Bool :=
  decide ((s.fp i).nozzle + s.site.params.stepDiff ≤ (s.bank b).pressure)

/-- A bank qualifies in LEAK_CHECK (R102), and for a cascade step, where it must also stand above its floor (R137). -/
def State.leakOk (s : State) (i : FpId) (b : BankId) : Bool := (s.bank b).usableDraw && s.pushes i b
def State.stepOk (s : State) (i : FpId) (b : BankId) : Bool :=
  (s.bank b).usableDraw && s.pushes i b && decide ((s.bank b).entry.floor < (s.bank b).pressure)

/-- The choice for the fill's state. -/
def State.bankOk (s : State) (i : FpId) (b : BankId) : Bool :=
  if (s.fp i).fill = .filling then s.stepOk i b else s.leakOk i b

/-- The banks of the cascade list after `b`. -/
def afterBank (b : BankId) (l : List BankId) : List BankId := (l.dropWhile (· != b)).drop 1

/-- The sequencer looks at these banks in order, requests the first that qualifies and acts on the answer; a rejection
counts as a step from that bank. With none it ends with `why`, or SUPPLY_EXHAUSTED after a rejection (R102, R103, R137,
R139). -/
def tryBanks (i : FpId) : List BankId → Reason → State → State
  | [], why, s => closeFill i why s
  | b :: rest, why, s =>
    if s.bankOk i b then
      let t := requestBank (fpReq i) b (modFp i (fun f => { f with cascadePos := some b }) s)
      match t.2 with
      | .granted => fpsTake i b t.1
      | .stacked =>
        let s1 := modFp i (fun f => { f with link := .stacked, bankWait := some s.site.params.bankWait }) t.1
        if (s1.fp i).fill = .filling then rederive i s1 else s1
      | .rejected => tryBanks i rest .supplyExhausted t.1
    else tryBanks i rest why s

/-- The choice goes on from the banks after the cascade position. -/
def tryAfter (i : FpId) (why : Reason) (s : State) : State :=
  match (s.fp i).cascadePos with
  | some b => tryBanks i (afterBank b (s.fp i).entry.cascade) why s
  | none => tryBanks i (s.fp i).entry.cascade why s

/-- The bank is no longer held nor asked for. -/
def unlink (i : FpId) (s : State) : State := modFp i (fun f => { f with link := .unlinked, bankWait := none }) s

/-- A cascade step in FILLING (R137). -/
def cascadeStep (i : FpId) (s : State) : State :=
  match (s.fp i).cascadePos with
  | some b => tryAfter i .supplyExhausted (letGo (fpReq i) b (unlink i (closeDraw i s)))
  | none => tryAfter i .supplyExhausted s

/-- withdrawn(b), forced by STM, reaches a fuelling point (R103, R139). A pulse or leak hold is abandoned. -/
def fpsWithdrawn (i : FpId) (b : BankId) (s : State) : State :=
  let f := s.fp i
  if f.link = .granted ∧ f.cascadePos = some b ∧ (f.fill = .leakCheck ∨ f.fill = .filling) then
    tryAfter i .supplyExhausted
      (modFp i (fun f => { f with leakPulse := none, leakHold := none }) (unlink i (closeDraw i s)))
  else s

/-- rejected(b) reaches a fuelling point whose request was stacked (R103, R139). -/
def fpsRejected (i : FpId) (b : BankId) (s : State) : State :=
  if (s.fp i).waitsFor b then tryAfter i .supplyExhausted (unlink i s) else s

/-- LEAK_CHECK entry from the moment the state stands: the fill time, the counting window, the first bank (R102). -/
def enterLeakCheck (i : FpId) (s : State) : State :=
  let s1 := modMeter i (fun m => { m with window := true })
    (setFill i .leakCheck (modFp i (fun f => { f with maxFill := some f.entry.maxFillTime }) s))
  if (s1.fp i).nozzleGood then tryBanks i (s1.fp i).entry.cascade .supplyExhausted s1
  else closeFill i .sensorFail s1

/-! ### Ramp entries and staging (R121, R128 to R130) -/

/-- The ramp table's row for a fuelling point's class and these keys. -/
def State.rampRow (s : State) (i : FpId) (c : PrecoolClass) (b : Band) (t : Category) : RampRow :=
  sel s.ramp (rampIndex c (s.fp i).entry.pressureClass b t)

/-- The fill's tank category. -/
def Fps.cat (f : Fps) : Category := f.category.getD f.entry.category

/-- A ramp entry built from a class and a band (R121, R129). -/
def State.buildEntry (s : State) (i : FpId) (c : PrecoolClass) (b : Band) : RampEntry :=
  let r := s.rampRow i c b (s.fp i).cat
  { cls := c, band := b, category := (s.fp i).cat, rate := r.rate, endPressure := r.endPressure }

/-- A staging builds the pending entry from a class and the sequencer's band; one equal to the active entry in class and
band cancels the switch (R129). -/
def stage (i : FpId) (c : PrecoolClass) (s : State) : State :=
  let e := s.buildEntry i c (s.fp i).band
  match (s.fp i).active with
  | some a =>
    if a.cls = e.cls ∧ a.band = e.band then modFp i (fun f => { f with pendingEntry := none, switchPending := false }) s
    else modFp i (fun f => { f with pendingEntry := some e, switchPending := true }) s
  | none => s

/-- The class a band change stages: the pending entry's while a switch is pending, otherwise the active one (R129). -/
def Fps.stagedClass (f : Fps) : Option PrecoolClass :=
  if f.switchPending then f.pendingEntry.map (·.cls) else f.active.map (·.cls)

/-- A delivery of AMBIENT_T, or its becoming HELD, has placed the sequencer's band (R121, R130). -/
def fpsBand (i : FpId) (b : Band) (s : State) : State :=
  if (s.fp i).band = b then s
  else
    let s1 := modFp i (fun f => { f with band := b }) s
    if (s1.fp i).fill = .filling then
      match (s1.fp i).stagedClass with
      | some c => stage i c s1
      | none => s1
    else s1

/-- A downgrade is pending (R127). -/
def Fps.downgradePending (f : Fps) : Bool :=
  f.switchPending && match f.active, f.pendingEntry with
  | some a, some p => decide (a.cls.code < p.cls.code)
  | _, _ => false

/-- The target class of a downgrade (R128). -/
def State.downgradeTarget (s : State) (i : FpId) : Option PrecoolClass :=
  match (s.fp i).active with
  | some a => classOrder.find? (fun c => decide (a.cls.code < c.code) && (s.fp i).entry.allowed.contains c &&
      (s.rampRow i c (s.fp i).band (s.fp i).cat).rate != 0)
  | none => none

/-- The downgrade condition arises (R128). -/
def downgrade (i : FpId) (s : State) : State :=
  match s.downgradeTarget i with
  | some c => stage i c s
  | none => closeFill i .tempLimit s

/-! ### FILLING entry (R105, R121) -/

/-- The ramp state as FILLING is entered (R105, R122, R123, R127). -/
def Fps.rampStart (f : Fps) (e : RampEntry) : Fps :=
  { f with sub := none, active := some e, pendingEntry := none, switchPending := false, pstart := f.p0.getD f.nozzle,
           clock := 0, segment := 0, pause := false, sync := false, watchCount := 0, watchOpen := false,
           grace := none, lowFlow := none }

/-- FILLING entry: the active entry, then the checks of R121. Where a HELD gas temperature and a zero end pressure both
end the fill at entry, which reason is taken is free (notes/assumptions/1.md). An ending at entry comes before the staging
of a differing band, which then does not happen (DESIGN CHOICE for a HELD gas temperature, notes/assumptions/42.md). -/
def enterFilling (i : FpId) (s : State) : State :=
  let f := s.fp i
  let e := s.buildEntry i (f.admClass.getD .tamb) (f.admBand.getD f.band)
  let s1 := setFill i .filling (modFp i (fun f => f.rampStart e) s)
  let absent := f.mode == .nonCommunication && e.endPressure == 0
  if !f.gasGood && absent then
    let c := freeChoice 2 s1
    closeFill i (if c.1 = 0 then .sensorFail else .linkAbsent) c.2
  else if !f.gasGood then closeFill i .sensorFail s1
  else if absent then closeFill i .linkAbsent s1
  else rederive i (if f.band = e.band then s1 else stage i e.cls s1)

/-! ### Samples (R104, R112, R124, R125, R127, R135) -/

/-- Pt of the fill as its clock stands (R33). With no active entry the rate is taken as 0, so READ_FP shows Pstart, capped
(DESIGN CHOICE, notes/assumptions/43.md). -/
def State.pt (s : State) (i : FpId) : Nat :=
  let f := s.fp i
  rampTarget f.pstart ((f.active.map (·.rate)).getD 0) f.clock (limitOf s.site.params f.entry.pressureClass)

/-- The cascade tests on the granted bank in FLOW (R135). -/
def stepTests (i : FpId) (s : State) (withFloor : Bool) : State :=
  let f := s.fp i
  match f.cascadePos with
  | some b =>
    let p := (s.bank b).pressure
    if f.fill = .filling ∧ f.sub = some .flow ∧
       (p < f.nozzle + s.site.params.stepDiff ∨ (withFloor ∧ p ≤ (s.bank b).entry.floor)) then cascadeStep i s
    else s
  | none => s

/-- The band tests (R125). -/
def bandTests (i : FpId) (v pt : Nat) (s : State) : State :=
  match (s.fp i).sub with
  | some .flow =>
    if pt + s.site.params.upperBand < v then rederive i (modFp i (fun f => { f with pause := true }) s) else s
  | some .rampPause => if v ≤ pt then rederive i (modFp i (fun f => { f with pause := false }) s) else s
  | some .bankWait | some .hold | none => s

/-- The tests of a nozzle pressure sample in FILLING, in the order of R124. -/
def fillingSample (i : FpId) (v : Nat) (s : State) : State :=
  let f := s.fp i
  let pt := s.pt i
  if limitOf s.site.params f.entry.pressureClass ≤ v then closeFill i .pressureLimit s
  else if pt + s.site.params.overshootBand < v then closeFill i .rampOvershoot s
  else if f.mode = .nonCommunication ∧ ((f.active.map (·.endPressure)).getD 0) ≤ v then closeFill i .targetPressure s
  else stepTests i (bandTests i v pt s) false

/-- A nozzle pressure sample reaches the sequencer (R104, R112, R124). -/
def nozzleSample (i : FpId) (v : Nat) (s : State) : State :=
  let s1 := modFp i (fun f => { f with nozzle := v, nozzleGood := true }) s
  let f := s1.fp i
  match f.fill with
  | .leakCheck =>
    if f.leakHold.isSome ∧ v + s.site.params.leakLimit < f.p0.getD 0 then closeFill i .leak s1 else s1
  | .filling => fillingSample i v s1
  | .venting => if v ≤ s.site.params.ventPressure then ventDone i s1 else s1
  | .idle | .linkWait | .precoolWait | .settling | .complete | .fault => s1

/-- The highest gas temperature the active class tolerates and its grace (R127); TAMB has none. -/
def State.window (s : State) (i : FpId) : Option (Nat × Nat) :=
  match (s.fp i).active with
  | some a => (classParams s.pcm.entry a.cls).map (fun p => (p.window, p.grace))
  | none => none

/-- A gas temperature sample reaches the sequencer (R127). -/
def gasSample (i : FpId) (v : Nat) (s : State) : State :=
  let s1 := modFp i (fun f => { f with gas := v, gasGood := true }) s
  let f := s1.fp i
  if f.fill = .filling ∧ f.sub = some .flow ∧ f.watchOpen ∧ f.downgradePending = false then
    match s1.window i with
    | some (w, g) =>
      if w < v then modFp i (fun f => { f with grace := if f.grace.isSome then f.grace else some g }) s1
      else modFp i (fun f => { f with grace := none }) s1
    | none => s1
  else s1

/-- GAS_T becomes HELD (R127). -/
def gasHeld (i : FpId) (v : Nat) (s : State) : State :=
  let s1 := modFp i (fun f => { f with gas := v, gasGood := false }) s
  if (s1.fp i).fill = .filling then closeFill i .sensorFail s1 else s1

/-- A pressure sample of the granted bank reaches the fuelling point that holds it (R38, R135). -/
def fpsBankSample (i : FpId) (b : BankId) (s : State) : State :=
  if (s.fp i).cascadePos = some b then stepTests i s true else s

/-! ### Mass and flow (R136, R167) -/

/-- The preset tests of a mass update (R167). -/
def presetTests (i : FpId) (s : State) : State :=
  let f := s.fp i
  match (s.meter i).txn with
  | some t =>
    if f.fill = .leakCheck ∨ f.fill = .filling then
      if f.entry.maxMass * 1000 ≤ t.mass ∨ (t.kind = .mass ∧ t.value ≤ t.mass) then closeFill i .presetMass s
      else if t.kind = .amount ∧ t.value ≤ t.amount then closeFill i .presetAmount s
      else s
    else s
  | none => s

/-- A flow update reaches the sequencer (R136); MTU tells it while the counting window is open (R166). -/
def flowUpdate (i : FpId) (s : State) : State :=
  if (s.meter i).window ∧ (s.fp i).fill = .filling ∧ (s.fp i).sub = some .flow then
    if s.flowLow i then
      modFp i (fun f => { f with lowFlow := if f.lowFlow.isSome then f.lowFlow else some s.site.params.stepDwell }) s
    else modFp i (fun f => { f with lowFlow := none }) s
  else s

end Sys2Proof.Machine
end

