-- ==== Sys2Proof/Machine/Precool.lean ====
section
/-!
DEFINITION. The Precool Manager (chapter 5): the chiller, admission, the wait list, consumption, release and swaps, with what
an admission does at the fuelling point; the end of a fill in every phase (R109, R110).
-/
namespace Sys2Proof.Machine

/-! ### The chiller (R79 to R81) -/

/-- Chiller control is active while the site is OPERATING or in MAINTENANCE (R79). -/
def SiteState.chillerActive : SiteState → Bool
  | .operating | .maintenance => true
  | .unconfigured | .shutdown | .powerdown => false

/-- The chiller is forced to run (R81). -/
def State.chillerForced (s : State) : Bool := decide (0 < s.outstandingSum) || !s.pcm.tcsGood

/-- The state a chiller evaluation gives (R80). -/
def State.chillerNext (s : State) : Chiller :=
  let p := s.pcm
  match p.chiller with
  | .idle =>
    if s.site.state.chillerActive && (s.chillerForced || decide (p.entry.setpoint + p.entry.differential < p.tcs)) then
      .running else .idle
  | .running =>
    if s.site.state.chillerActive && !s.chillerForced && decide (p.tcs ≤ p.entry.setpoint - p.entry.differential) then
      .idle else .running
  | .disabled => .disabled
  | .tripped => .tripped

/-- A chiller evaluation (R80). -/
def evalChiller (s : State) : State := setChiller s.chillerNext s

/-- An evaluation where the sum of outstanding reservations stands at 0 after an event that lowered it (R81). -/
def evalIfSumZero (s : State) : State := if s.outstandingSum = 0 then evalChiller s else s

/-! ### Admission (R90, R91) -/

/-- The class admits a fill of estimate `e` and category `t` (R91). An estimate of 0 asks for no cold and is admitted while the
chiller is TRIPPED too, as R91 has it and R83 does not (DESIGN CHOICE, notes/assumptions/41.md). -/
def State.classAdmits (s : State) (i : FpId) (e : Nat) (t : Category) (c : PrecoolClass) : Bool :=
  (s.fp i).entry.allowed.contains c && (s.rampRow i c s.pcm.band t).rate != 0 &&
  (c == .tamb || decide (reservationFor e (qOf s.pcm.entry c) ≤ s.free c))

/-- The first allowed class that admits the fill, coldest first (R91). -/
def State.admitClass (s : State) (i : FpId) (e : Nat) (t : Category) : Option PrecoolClass :=
  classOrder.find? (s.classAdmits i e t)

/-- The ADMITTED record (R91). -/
def admittedRecord (e : Nat) (t : Category) (c : PrecoolClass) (b : Band) (g : Nat) : Reservation :=
  { state := .admitted, estimate := e, category := some t, cls := some c, band := some b, g := g, c0 := 0, m0 := 0, c := 0,
    waitTimer := none }

/-- PCM grants a class: the record, and the force on the chiller where the sum was 0 (R81, R91). -/
def admitFill (i : FpId) (e : Nat) (t : Category) (c : PrecoolClass) (s : State) : State :=
  let g := reservationFor e (qOf s.pcm.entry c)
  let s1 := modReservation i (fun _ => admittedRecord e t c s.pcm.band g) s
  if 0 < g ∧ s.outstandingSum = 0 then evalChiller s1 else s1

/-- The fuelling point is told admitted with class and band: MTU takes the class, and LEAK_CHECK is entered (R100, R101). -/
def fpsAdmitted (i : FpId) (c : PrecoolClass) (b : Band) (s : State) : State :=
  enterLeakCheck i (modTxn i (fun t => { t with startClass := some c, finalClass := some c })
    (modFp i (fun f => { f with admClass := some c, admBand := some b }) s))

/-- The fuelling point joins the wait list at its tail and is told waiting (R90). -/
def joinWaitList (i : FpId) (e : Nat) (t : Category) (s : State) : State :=
  setFill i .precoolWait (modPcm (fun p => { p with waitList := p.waitList ++ [i] })
    (modReservation i (fun _ => { Reservation.empty with state := .waiting, estimate := e, category := some t,
                                                         waitTimer := some s.pcm.entry.waitLimit }) s))

/-- The admission request (R90). A request from a fuelling point whose record is not NONE changes nothing. -/
def requestAdmission (i : FpId) (e : Nat) (t : Category) (s : State) : State :=
  if (s.reservation i).state ≠ .noRecord then s
  else if s.pcm.waitList.isEmpty then
    match s.admitClass i e t with
    | some c => fpsAdmitted i c s.pcm.band (admitFill i e t c s)
    | none => joinWaitList i e t s
  else joinWaitList i e t s

/-! ### The wait list (R92, R93) -/

/-- The head is evaluated, and each new head in turn while it fits: at most as many rounds as the list has members (R92). -/
def evalHeads : Nat → State → State
  | 0, s => s
  | n + 1, s =>
    match s.pcm.waitList with
    | [] => s
    | i :: rest =>
      let r := s.reservation i
      let t := r.category.getD .s
      match s.admitClass i r.estimate t with
      | none => s
      | some c => evalHeads n (fpsAdmitted i c s.pcm.band (admitFill i r.estimate t c (modPcm (fun p => { p with waitList := rest }) s)))

def evalHead (s : State) : State := evalHeads s.pcm.waitList.length s

/-- The fuelling point stands at the head. -/
def State.isHead (s : State) (i : FpId) : Bool := s.pcm.waitList.head? == some i

/-- A member leaves the list and its record becomes NONE (R93). -/
def leaveWaitList (i : FpId) (s : State) : State :=
  modReservation i (fun _ => Reservation.empty) (modPcm (fun p => { p with waitList := p.waitList.erase i }) s)

/-- A withdrawal (R93). -/
def withdrawAdmission (i : FpId) (s : State) : State :=
  if s.pcm.waitList.contains i then
    if s.isHead i then evalHead (leaveWaitList i s) else leaveWaitList i s
  else s

/-! ### Release, consumption, swap (R87 to R89) -/

/-- After an event that lowered an outstanding reservation: the head is evaluated, and the chiller where the sum has
become 0 (R81, R87 to R89). -/
def afterFall (s : State) : State :=
  if s.outstandingSum = 0 then evalChiller (evalHead s) else evalHead s

/-- A release request (R88). -/
def releaseReservation (i : FpId) (s : State) : State :=
  let r := s.reservation i
  match r.state with
  | .admitted =>
    let s1 := modReservation i (fun _ => Reservation.empty) s
    if 0 < r.outstanding then afterFall s1 else s1
  | .waiting => withdrawAdmission i s
  | .noRecord => s

/-- A mass update reaches PCM (R87). -/
def coldUpdate (i : FpId) (s : State) : State :=
  let r := s.reservation i
  match r.state, (s.meter i).txn with
  | .admitted, some t =>
    let c := consumed r (qOf s.pcm.entry (r.cls.getD .tamb)) t.mass
    let s1 := modReservation i (fun r => { r with c := c }) s
    if (s1.reservation i).outstanding < r.outstanding then afterFall s1 else s1
  | _, _ => s

/-- PCM is told the class of a fill's new ramp entry (R89). -/
def coldSwap (i : FpId) (c : PrecoolClass) (s : State) : State :=
  let r := s.reservation i
  match r.state, r.cls, (s.meter i).txn with
  | .admitted, some old, some t =>
    if old.code < c.code then
      let s1 := modReservation i (fun r => swapRecord r c (qOf s.pcm.entry c) t.mass) s
      if (s1.reservation i).outstanding < r.outstanding then afterFall s1 else s1
    else s
  | _, _, _ => s

/-! ### Deliveries (R78) -/

def coldStoreSample (v : Nat) (s : State) : State :=
  evalHead (evalChiller (modPcm (fun p => { p with tcs := v, tcsGood := true }) s))

def coldStoreHeld (v : Nat) (s : State) : State := evalChiller (modPcm (fun p => { p with tcs := v, tcsGood := false }) s)

/-- PCM's ambient band is placed (R78). -/
def pcmBand (b : Band) (s : State) : State :=
  if s.pcm.band = b then s else evalHead (modPcm (fun p => { p with band := b }) s)

/-! ### The chiller trip and the site (R83, R84) -/

/-- A CHILLER_TRIP field event (R83). -/
def chillerTrip (s : State) : State :=
  match s.pcm.chiller with
  | .idle | .running => setChiller .tripped s
  | .disabled | .tripped => s

/-- The chiller is held IDLE on entry into SHUTDOWN, POWERDOWN or UNCONFIGURED (R84). -/
def chillerHeldIdle (s : State) : State :=
  match s.pcm.chiller with
  | .running => setChiller .idle s
  | .disabled | .idle | .tripped => s

/-- PCM empties its wait list without notices (R93). -/
def emptyWaitList (s : State) : State :=
  modPcm (fun p => { p with waitList := [],
                            records := p.records.map (fun r => if r.state = .waiting then Reservation.empty else r) }) s

/-! ### The end of a fill in every phase (R107 to R110) -/

/-- A fill ended in LINK_WAIT or PRECOOL_WAIT is wound up (R109). -/
def endEarly (i : FpId) (r : Reason) (s : State) : State :=
  finish i (handOver i r false (endLink i (withdrawAdmission i
    (modFp i (fun f => { f with acquisition := none }) (takeReason i r s)))))

/-- A reason is taken: a running fill ends by the path of its phase; otherwise nothing changes (R107, R108). -/
def endFill (i : FpId) (r : Reason) (s : State) : State :=
  match (s.fp i).fill with
  | .linkWait | .precoolWait => endEarly i r s
  | .leakCheck | .filling => closeFill i r s
  | .idle | .settling | .venting | .complete | .fault => s

/-- NOZZLE_P becomes HELD at its sequencer: a running fill ends (R107). -/
def nozzleHeld (i : FpId) (v : Nat) (s : State) : State :=
  endFill i .sensorFail (modFp i (fun f => { f with nozzle := v, nozzleGood := false }) s)

end Sys2Proof.Machine
end

