-- ==== Sys2Proof/Machine/Fill.lean ====
section
/-!
DEFINITION. The fuelling point sequencer across blocks (chapters 6 to 8): the start of a fill, leaving LINK_WAIT, holds,
vehicle reports, segment boundaries, and the windings-up by reset, shutdown and power failure.
-/
namespace Sys2Proof.Machine

/-! ### Start (R98) -/

/-- The conditions of a start (R98). -/
def State.mayStart (s : State) (i : FpId) : Bool :=
  (s.fp i).fill == .idle && s.site.state == .operating && (s.meter i).auth.state == .pending &&
  s.nozzleCondition i == .connected && !s.combined .breakaway i.val && !s.combined .meterError i.val

/-- The fill context and ramp state a start sets afresh (R98 step 1, R140). That the cleared Pstart is 0, and that the
segment counter and the watch mark are cleared here and not before, are DESIGN CHOICES (notes/assumptions/43.md, 46.md). -/
def Fps.started (f : Fps) (acquisition : Nat) : Fps :=
  { f with reason := none, mode := .undecided, hostHold := false, vehicleHold := false, ventFail := false, estimate := none,
           category := none, firstP := none, firstT := none, admClass := none, admBand := none, cascadePos := none,
           link := .unlinked, p0 := none, presentSoc := none, acquisition := some acquisition, active := none,
           pendingEntry := none, switchPending := false, pstart := 0, clock := 0, segment := 0, pause := false,
           sync := false, watchCount := 0, watchOpen := false }

/-- A fill starts (R98, R144). -/
def startFill (i : FpId) (s : State) : State :=
  modLink i Vlr.listen (setFill i .linkWait (meterStart i (modFp i (fun f => f.started s.site.params.linkAcquisition) s)))

/-- A start request that is ignored where the conditions fail: a START field event or auto-start (R98). -/
def tryStart (i : FpId) (s : State) : State := if s.mayStart i then startFill i s else s

/-! ### Leaving LINK_WAIT (R29, R100) -/

/-- E is formed (R29) with the CLAMPED flag of its tank mass lookup (R27), and the tank category stands (R90). -/
def formEstimate (i : FpId) (s : State) : State :=
  let f := s.fp i
  let a := (s.meter i).auth
  match f.mode, f.firstP, f.firstT, (s.link i).volume with
  | .communication, some p, some t, some v =>
    let l := s.lookup p t
    let base := baseEstimate (fullOf s.site.params f.entry.pressureClass) (s.socTarget i) v (massOf l.density v)
    let s1 := modFp i (fun f => { f with estimate := some (estimateOf base a.kind a.value f.entry.maxMass) }) s
    if l.indication = .clamped then setFlags i (fun g => { g with clamped := true }) s1 else s1
  | _, _, _, _ =>
    modFp i (fun f => { f with estimate := some (estimateOf f.entry.defaultEstimate a.kind a.value f.entry.maxMass),
                               category := some f.entry.category }) s

/-- The fill leaves LINK_WAIT with its admission request (R100). -/
def leaveLinkWait (i : FpId) (s : State) : State :=
  let s1 := formEstimate i s
  requestAdmission i ((s1.fp i).estimate.getD 0) (s1.fp i).cat s1

/-- Leaves LINK_WAIT where the mode is decided and no level hold stands (R100). -/
def leaveIfFree (i : FpId) (s : State) : State :=
  if (s.fp i).mode ≠ .undecided ∧ s.levelHold i = false then leaveLinkWait i s else s

/-! ### Level holds (R102, R106, R133) -/

/-- The sequencer re-examines its holds at an event that may have changed them; `was` says whether one stood before. -/
def holdsChanged (i : FpId) (was : Bool) (s : State) : State :=
  let now := s.levelHold i
  let f := s.fp i
  match f.fill with
  | .linkWait => if was ∧ now = false then leaveIfFree i s else s
  | .leakCheck =>
    if was ∧ now = false ∧ f.link = .granted ∧ f.leakPulse = none ∧ f.leakHold = none then beginPulse i s else s
  | .filling =>
    if was ∧ now = false ∧ f.link ≠ .stacked ∧ f.sync = false then rederive i (rebase i s) else rederive i s
  | .idle | .precoolWait | .settling | .venting | .complete | .fault => s

/-- A SITE_HOLD edge event reaches a fill (R106, R134). -/
def syncHold (i : FpId) (s : State) : State :=
  if (s.fp i).fill = .filling ∧ (s.fp i).sync = false then rederive i (modFp i (fun f => { f with sync := true }) s) else s

/-! ### Vehicle reports (R100, R126, R147, R151) -/

/-- The SOC of a reported frame is computed and kept (R26). -/
def takeSoc (i : FpId) (d : VehicleData) (s : State) : State :=
  let c := socOf (s.lookup d.pressure d.temperature) (fullOf s.site.params (s.fp i).entry.pressureClass)
  let s1 := modFp i (fun f => { f with presentSoc := some c.1 }) s
  if c.2 then setFlags i (fun g => { g with clamped := true }) s1 else s1

/-- A frame's command is acted on (R147). -/
def vehicleAct (i : FpId) (cmd : VehicleCommand) (s : State) : State :=
  let was := s.levelHold i
  match cmd with
  | .abort => endFill i .linkAbort s
  | .halt => holdsChanged i was (modFp i (fun f => { f with vehicleHold := true }) s)
  | .run => holdsChanged i was (modFp i (fun f => { f with vehicleHold := false }) s)

/-- The report of the first valid frame (R100, R145). -/
def linkUpReport (i : FpId) (volume : Nat) (rc : PressureClass) (d : VehicleData) (s : State) : State :=
  if (s.fp i).fill = .linkWait ∧ (s.fp i).mode = .undecided then
    let s1 := takeSoc i d (modFp i (fun f => { f with
      acquisition := none, category := some (categoryFor volume), firstP := some d.pressure, firstT := some d.temperature,
      mode := .communication }) s)
    if rc ≠ (s1.fp i).entry.pressureClass then endFill i .classMismatch s1
    else match d.command with
      | .abort => endFill i .linkAbort s1
      | .halt => modFp i (fun f => { f with vehicleHold := true }) s1
      | .run => leaveIfFree i s1
  else s

/-- The tests a reported frame makes in FILLING (R126): the reason they give, if any. -/
def State.frameTest (s : State) (i : FpId) (d : VehicleData) : Option Reason :=
  if Config.tankTempLimit ≤ d.temperature then some .tempLimit
  else if s.socTarget i ≤ ((s.fp i).presentSoc).getD 0 then some .targetSoc
  else none

/-- A frame reported in UP (R146, R147). -/
def frameReport (i : FpId) (d : VehicleData) (s : State) : State :=
  if (s.fp i).mode = .communication then
    match (s.fp i).fill with
    | .linkWait | .precoolWait | .leakCheck => vehicleAct i d.command (takeSoc i d s)
    | .filling =>
      let s1 := takeSoc i d s
      match s1.frameTest i d with
      | some r => endFill i r s1
      | none => vehicleAct i d.command s1
    | .idle | .settling | .venting | .complete | .fault => s
  else s

/-- A report of loss, or of implausibility, switches the fill to NON_COMMUNICATION mode (R151). -/
def switchMode (i : FpId) (loss : Bool) (s : State) : State :=
  let f := s.fp i
  if f.fill.running ∧ f.mode = .communication then
    let was := s.levelHold i
    let s1 := modFp i (fun f => { f with mode := .nonCommunication, vehicleHold := false })
      (setFlags i (fun g => if loss then { g with linkLost := true } else { g with implausible := true }) s)
    let e := (f.active.map (·.endPressure)).getD 0
    if f.entry.commRequired then endFill i .linkAbsent s1
    else if f.fill = .filling ∧ e = 0 then endFill i .linkAbsent s1
    else if f.fill = .filling ∧ e ≤ f.nozzle then endFill i .targetPressure s1
    else holdsChanged i was s1
  else s

/-- A valid frame in UP (R146, R149). -/
def frameInUp (i : FpId) (d : VehicleData) (s : State) : State :=
  let f := s.fp i
  let n := implausAfter (s.link i).implausCount (f.fill == .filling && f.sub == some .flow) d.pressure f.nozzle
    s.site.params.plausMargin
  if n = 3 then
    switchMode i false (modLink i (fun v => { v with state := .implausible, loss := none, implausCount := 3 }) s)
  else
    frameReport i d (modLink i (fun v => { v with loss := some s.site.params.linkLoss, implausCount := n, last := some d }) s)

/-- A frame is handed to a receiver (R143 to R150). -/
def takeFrame (i : FpId) (bytes : List Byte) (s : State) : State :=
  match (s.link i).state, checkFrame bytes with
  | .idle, _ => s
  | .listening, .valid v rc d => linkUpReport i v rc d (modLink i (fun l => l.up v rc d s.site.params.linkLoss) s)
  | .up, .valid _ _ d => frameInUp i d s
  | .lost, .valid _ _ _ => modLink i (fun l => { l with ignored := countUp l.ignored }) s
  | .implausible, .valid _ _ _ => modLink i (fun l => { l with ignored := countUp l.ignored }) s
  | _, e => modLink i (fun l => l.countError e) s

/-! ### Segment boundary and swap (R131, R132) -/

/-- The swap of the pending entry (R132). -/
def swap (i : FpId) (p : RampEntry) (s : State) : State :=
  let f := s.fp i
  if p.rate = 0 then endFill i .tempLimit s
  else if f.mode = .nonCommunication ∧ p.endPressure = 0 then endFill i .linkAbsent s
  else
    let s1 := rederive i (rebase i (modFp i (fun f => { f with active := some p, pendingEntry := none, switchPending := false }) s))
    if f.active.map (·.cls) = some p.cls then s1
    else
      coldSwap i p.cls (modFp i (fun f => { f with grace := none })
        (modTxn i (fun t => { t with finalClass := some p.cls, flags := { t.flags with downgraded := true } }) s1))

/-- A segment boundary (R131): the segment counter returns to 0, a pending swap is made, a synchronous hold ends. -/
def boundary (i : FpId) (s : State) : State :=
  let s0 := modFp i (fun f => { f with segment := 0 }) s
  let f := s0.fp i
  let s1 := match f.switchPending, f.pendingEntry with
    | true, some p => swap i p s0
    | _, _ => s0
  if (s1.fp i).fill = .filling ∧ (s1.fp i).sync then
    let s2 := modFp i (fun f => { f with sync := false }) s1
    if f.switchPending ∧ f.pendingEntry.isSome then rederive i s2
    else if s2.levelHold i then rederive i s2
    else rederive i (rebase i s2)
  else s1

/-! ### Resets and site entries (R115 to R118) -/

/-- Every timer cancelled, holds cleared, mode UNDECIDED, IDLE (R115). The segment counter and the watch mark are kept (DESIGN
CHOICE, notes/assumptions/46.md). -/
def Fps.toIdle (f : Fps) : Fps :=
  { f with hostHold := false, vehicleHold := false, ventFail := false, mode := .undecided, acquisition := none,
           bankWait := none, leakPulse := none, leakHold := none, maxFill := none, settle := none, vent := none,
           grace := none, lowFlow := none, link := .unlinked }

/-- A running or settling fill is wound up at once, its record loaded; `r` is taken where the fill still runs (R115, R117,
R118). Nothing is sent to PCM. -/
def windUp (i : FpId) (r : Reason) (saved : Bool) (s : State) : State :=
  match (s.fp i).fill with
  | .linkWait | .precoolWait =>
    handOver i r saved (endLink i (modFp i (fun f => { f with acquisition := none }) (takeReason i r s)))
  | .leakCheck | .filling => handOver i r saved (stopFill i r s)
  | .settling => handOver i ((s.fp i).reason.getD r) saved (modFp i (fun f => { f with settle := none }) s)
  | .venting => modFp i (fun f => { f with vent := none }) s
  | .idle | .complete | .fault => s

/-- FP_COMMAND RESET (R115). PCM takes a withdrawal or a release, whichever the record calls for (R88). -/
def resetFp (i : FpId) (s : State) : State :=
  let s1 := setFill i .idle (modFp i Fps.toIdle (windUp i .reset false s))
  releaseReservation i (if (s.fp i).fill = .idle then cancelAuthorization i s1 else s1)

/-- One fuelling point at SOFT_RESET (R118): as RESET, with nothing sent to BKA or PCM; its samples are HELD. -/
def softResetFp (i : FpId) (s : State) : State :=
  setFill i .idle (modFp i (fun f => { f.toIdle with nozzleGood := false, gasGood := false, band := .a5 })
    (windUp i .reset false s))

/-- One fuelling point as the site enters SHUTDOWN (R116). -/
def shutdownFp (i : FpId) (s : State) : State :=
  match (s.fp i).fill with
  | .linkWait | .precoolWait | .leakCheck | .filling => endFill i .esd s
  | .venting => setFill i .fault (modFp i (fun f => { f with vent := none }) s)
  | .idle | .settling | .complete | .fault => s

/-- One fuelling point as the site enters POWERDOWN (R117). -/
def powerdownFp (i : FpId) (s : State) : State :=
  match (s.fp i).fill with
  | .idle | .complete | .fault => s
  | .linkWait | .precoolWait | .leakCheck | .filling | .settling | .venting =>
    releaseReservation i (setFill i .fault (windUp i .powerFail true s))

end Sys2Proof.Machine
end

