-- ==== Sys2Proof/Machine/Compressors.lean ====
section
/-!
DEFINITION. The compressor sequencers (chapter 4): targets and the notices they send, need and permission, starting, the seek
for a bank, stopping, trips, and the site's transitions.
-/
namespace Sys2Proof.Machine

/-! ### Targets (R60) -/

/-- The target becomes `t`; a change is a notice to the other compressor (R60), taken as an event of its own. -/
def setTarget (k : CompId) (t : Option BankId) (s : State) : State :=
  if (s.comp k).target = t then s
  else
    let s1 := modComp k (fun c => { c with target := t }) s
    { s1 with csInbox := s1.csInbox ++ [.otherTarget (otherComp k)] }

/-- The bank qualifies for the compressor (R60). -/
def State.qualifies (s : State) (k : CompId) (b : BankId) : Bool :=
  s.refill.contains b && (s.comp (otherComp k)).target != some b &&
  decide ((s.bank b).entry.rated ≤ (s.comp k).entry.maxDischarge)

/-- The first qualifying bank in refill-list order, a bank just left excluded (R60, R66, R67). -/
def State.chooseBank (s : State) (k : CompId) (excl : Option BankId) : Option BankId :=
  s.refill.find? (fun b => s.qualifies k b && excl != some b)

/-! ### Need and permission (R61 to R65) -/

/-- A start is permitted (R62). -/
def State.permitted (s : State) (k : CompId) : Bool :=
  let c := s.comp k
  s.site.state == .operating && (c.minOff == none) && decide (c.history.length < c.entry.startLimit) &&
  c.supplyGood && decide (s.site.params.supplyMin ≤ c.supply) &&
  c.dischargeGood && decide (c.discharge ≤ c.entry.dischargeLimit) && !s.combined .compressorTrip k.val

/-- STARTING is entered with this target (R63, R65). -/
def enterStarting (k : CompId) (b : BankId) (s : State) : State :=
  setTarget k (some b) (setCompState k .starting (modComp k (fun c => { c with
    history := if c.history.contains s.site.clock then c.history else c.history ++ [s.site.clock]
    minOff := none, start := some c.entry.startTime }) s))

/-- The need is evaluated, and with it permission (R61). -/
def evalNeed (k : CompId) (s : State) : State :=
  match (s.comp k).state, s.chooseBank k none with
  | .off, some b => if s.permitted k then enterStarting k b s else setCompState k .startDeferred s
  | .startDeferred, some b => if s.permitted k then enterStarting k b s else s
  | .startDeferred, none => setCompState k .off s
  | _, _ => s

/-- Permission is evaluated at an event that can change it: in START_DEFERRED alone (R62). -/
def evalPermission (k : CompId) (s : State) : State :=
  match (s.comp k).state with
  | .startDeferred => evalNeed k s
  | .disabled | .off | .starting | .recirc | .filling | .stopping | .tripped => s

/-- The timers of a machine at rest (R69, R71, R73). -/
def Compressor.timersOff (c : Compressor) : Compressor :=
  { c with minOff := none, start := none, minRun := none, bankWait := none, runDown := none }

/-- OFF is entered: the minimum-off timer starts, then the need is evaluated (R64). -/
def enterOff (k : CompId) (s : State) : State :=
  evalNeed k (setTarget k none (setCompState k .off (modComp k (fun c =>
    { c.timersOff with minOff := some c.entry.minOff, disablePending := false, tripCause := none }) s)))

/-- DISABLED is entered (R59, R69). -/
def enterDisabled (k : CompId) (s : State) : State :=
  setTarget k none (setCompState k .disabled (modComp k (fun c =>
    { c.timersOff with disablePending := false, tripCause := none }) s))

/-! ### Letting go, stopping, tripping (R69 to R71) -/

/-- The compressor lets go of its target at BKA, where it has one (R69, R71). -/
def letGoOfTarget (k : CompId) (t : Option BankId) (s : State) : State :=
  match t with
  | some b => letGo (csReq k) b s
  | none => s

/-- STOPPING is entered (R69). -/
def enterStopping (k : CompId) (s : State) : State :=
  letGoOfTarget k (s.comp k).target (setTarget k none (setCompState k .stopping (modComp k (fun c =>
    { c with start := none, minRun := none, bankWait := none, runDown := some c.entry.runDown }) s)))

/-- TRIPPED is entered (R71). -/
def enterTripped (k : CompId) (cause : TripCause) (s : State) : State :=
  letGoOfTarget k (s.comp k).target (setTarget k none (setCompState k .tripped (modComp k (fun c =>
    { c.timersOff with tripCause := some cause, disablePending := false }) s)))

/-- A discharge cause trips a running compressor (R71). -/
def tripIfRunning (k : CompId) (cause : TripCause) (s : State) : State :=
  if (s.comp k).state.running then enterTripped k cause s else s

/-- A COMPRESSOR_TRIP field event (R71). -/
def tripInput (k : CompId) (s : State) : State :=
  match (s.comp k).state with
  | .off | .startDeferred | .starting | .recirc | .filling | .stopping => enterTripped k .tripInput s
  | .disabled | .tripped => s

/-! ### The seek for a bank in RECIRC (R66, R68) -/

/-- Becoming idle in RECIRC: STOPPING at once where the minimum run has expired (R68). -/
def becomeIdle (k : CompId) (s : State) : State :=
  let s1 := setTarget k none s
  if (s1.comp k).minRun = none then enterStopping k s1 else s1

/-- The compressor requests its target; a rejection makes it choose again, the rejected bank excluded (R66). The rounds
are bounded by twice the number of banks; a list member is never rejected, so one round suffices (notes/assumptions/9.md). -/
def requestTarget : Nat → CompId → BankId → State → State
  | 0, k, _, s => becomeIdle k s
  | n + 1, k, b, s =>
    let t := requestBank (csReq k) b s
    match t.2 with
    | .granted => setCompState k .filling t.1
    | .stacked => modComp k (fun c => { c with bankWait := some s.site.params.bankWait }) t.1
    | .rejected =>
      match t.1.chooseBank k (some b) with
      | some b' => requestTarget n k b' (setTarget k (some b') t.1)
      | none => becomeIdle k t.1

/-- The compressor chooses in RECIRC and requests its choice, or becomes idle (R66, R68). -/
def seek (k : CompId) (excl : Option BankId) (s : State) : State :=
  match s.chooseBank k excl with
  | some b => requestTarget 16 k b (setTarget k (some b) s)
  | none => becomeIdle k s

/-- An idle compressor in RECIRC looks for a bank (R68). -/
def seekIdle (k : CompId) (s : State) : State :=
  match s.chooseBank k none with
  | some b => requestTarget 16 k b (setTarget k (some b) s)
  | none => s

/-! ### What STM and BKA tell a compressor (R66, R67) -/

/-- The filling of its bank ends: RECIRC, the target let go, and the next choice (R67). -/
def endFilling (k : CompId) (b : BankId) (s : State) : State :=
  seek k (some b) (letGo (csReq k) b (setTarget k none (setCompState k .recirc s)))

/-- The refill-off notice (R46, R67). -/
def refillOff (k : CompId) (b : BankId) (s : State) : State :=
  if (s.comp k).state = .filling ∧ (s.comp k).target = some b then endFilling k b s else s

/-- A pressure sample of the granted bank: the maximum-discharge end (R67). -/
def csBankSample (k : CompId) (b : BankId) (s : State) : State :=
  if (s.comp k).state = .filling ∧ (s.comp k).target = some b ∧ (s.comp k).entry.maxDischarge ≤ (s.bank b).pressure then
    endFilling k b s
  else s

/-- withdrawn(b), forced by STM (R67). -/
def csWithdrawn (k : CompId) (b : BankId) (s : State) : State :=
  if (s.comp k).state = .filling ∧ (s.comp k).target = some b then
    seek k (some b) (setTarget k none (setCompState k .recirc s))
  else s

/-- rejected(b), forced by STM (R66). -/
def csRejected (k : CompId) (b : BankId) (s : State) : State :=
  if (s.comp k).waitsFor b then seek k (some b) (setTarget k none (modComp k (fun c => { c with bankWait := none }) s)) else s

/-! ### Notices (R47, R60, R61, R65, R66, R68) -/

/-- STARTING: a target that has left the refill list is chosen again (R65). -/
def recheckStarting (k : CompId) (s : State) : State :=
  match (s.comp k).target with
  | some b => if s.refill.contains b then s else setTarget k (s.chooseBank k none) s
  | none => s

/-- RECIRC: a waiting compressor whose target has left the list withdraws and chooses again; an idle one chooses (R66, R68). -/
def recheckRecirc (k : CompId) (s : State) : State :=
  match (s.comp k).target with
  | some b =>
    if s.refill.contains b then s
    else seek k none (setTarget k none (withdrawBank (csReq k) b (modComp k (fun c => { c with bankWait := none }) s)))
  | none => seekIdle k s

/-- A change of the refill list, or of the other compressor's target, reaches the sequencer. -/
def csNotice (k : CompId) (s : State) : State :=
  match (s.comp k).state with
  | .off | .startDeferred => evalNeed k s
  | .starting => recheckStarting k s
  | .recirc => recheckRecirc k s
  | .disabled | .filling | .stopping | .tripped => s

def CsNotice.unit : CsNotice → CompId
  | .refillList k => k
  | .otherTarget k => k

/-- The waiting notices are taken, each an event of its own, in an order left free (R47, R60). -/
def settleFor : Nat → State → State
  | 0, s => s
  | n + 1, s =>
    match s.csInbox with
    | [] => s
    | [c] => settleFor n (csNotice c.unit { s with csInbox := [] })
    | c :: rest =>
      let f := freeChoice (rest.length + 1) s
      let c' := (c :: rest)[f.1]?.getD c
      settleFor n (csNotice c'.unit { f.2 with csInbox := (c :: rest).eraseIdx f.1 })

/-- The notices of an event are taken before the next command (notes/assumptions/9.md: at most 64 of them). -/
def settle (s : State) : State := settleFor 64 s

/-- A change of the refill list is told to both sequencers (R47). -/
def tellRefill (s : State) : State := { s with csInbox := s.csInbox ++ [.refillList 0, .refillList 1] }

/-! ### Deliveries (R62, R70, R71) -/

/-- The states a low supply stops (R70). -/
def CompState.stoppable : CompState → Bool
  | .starting | .recirc | .filling => true
  | .disabled | .off | .startDeferred | .stopping | .tripped => false

def supplySample (v : Nat) (k : CompId) (s : State) : State :=
  let s1 := modComp k (fun c => { c with supply := v, supplyGood := true }) s
  if (s1.comp k).state.stoppable ∧ v < s.site.params.supplyMin then enterStopping k s1 else evalPermission k s1

def supplyHeld (v : Nat) (k : CompId) (s : State) : State :=
  let s1 := modComp k (fun c => { c with supply := v, supplyGood := false }) s
  if (s1.comp k).state.stoppable then enterStopping k s1 else s1

def dischargeSample (v : Nat) (k : CompId) (s : State) : State :=
  let s1 := modComp k (fun c => { c with discharge := v, dischargeGood := true }) s
  if (s1.comp k).entry.dischargeLimit < v then tripIfRunning k .dischargeTemp (evalPermission k s1) else evalPermission k s1

def dischargeHeld (v : Nat) (k : CompId) (s : State) : State :=
  tripIfRunning k .dischargeSensor (modComp k (fun c => { c with discharge := v, dischargeGood := false }) s)

/-! ### Site transitions and soft reset (R73, R74) -/

/-- START_DEFERRED goes to OFF without restarting the minimum-off timer; the need is evaluated on entering OFF (R73). -/
def deferredToOff (k : CompId) (s : State) : State := evalNeed k (setCompState k .off s)

/-- One compressor as the site enters SHUTDOWN or POWERDOWN (R73). -/
def csShutdown (k : CompId) (s : State) : State :=
  match (s.comp k).state with
  | .starting | .recirc | .filling | .stopping => enterOff k s
  | .startDeferred => deferredToOff k s
  | .disabled | .off | .tripped => s

/-- One compressor at DECOMMISSION (R73). -/
def csDecommission (k : CompId) (s : State) : State :=
  match (s.comp k).state with
  | .startDeferred => deferredToOff k s
  | .disabled | .off | .starting | .recirc | .filling | .stopping | .tripped => s

/-- One compressor at SOFT_RESET (R74): OFF with its minimum-off timer afresh, or DISABLED or TRIPPED as it was. -/
def csSoftReset (k : CompId) (s : State) : State :=
  let s1 := modComp k (fun c => { c with supplyGood := false, dischargeGood := false }) s
  match (s1.comp k).state with
  | .disabled | .tripped => s1
  | .off | .startDeferred | .starting | .recirc | .filling | .stopping => enterOff k s1

end Sys2Proof.Machine
end

