-- ==== Sys2Proof/Machine/Storage.lean ====
section
/-!
DEFINITION. The Storage Manager (chapter 3): forced withdrawals and rejections, faults, the refill list, deliveries, the
protection trip and the loading of a bank entry.
-/
namespace Sys2Proof.Machine

/-! ### Forcing BKA (R54) -/

/-- withdrawn(b) reaches the holder that lost its grant. -/
def tellWithdrawn (r : Requester) (b : BankId) (s : State) : State :=
  match reqUnit r with
  | .inl i => fpsWithdrawn i b s
  | .inr k => csWithdrawn k b s

/-- rejected(b) reaches a requester turned out of the stacked set. -/
def tellRejected (b : BankId) (r : Requester) (s : State) : State :=
  match reqUnit r with
  | .inl i => fpsRejected i b s
  | .inr k => csRejected k b s

/-- A forced withdrawal (R54). -/
def withdrawGrant (b : BankId) (s : State) : State :=
  match s.holderOf b with
  | some r => tellWithdrawn r b (setHolder b none s)
  | none => s

/-- A forced rejection of the members that satisfy `p` (R54); which is told first is left free. -/
def rejectStacked (b : BankId) (p : Requester → Bool) (s : State) : State :=
  inAnyOrder (((s.stackedAt b).filter p).map (tellRejected b))
    (setStacked b ((s.stackedAt b).filter (fun r => !p r)) s)

/-- The requester is a compressor. -/
def isCs (r : Requester) : Bool := decide (4 ≤ r.val)

/-- The withdrawal where it is due, then the rejections, then the competition (R54). -/
def forceOff (b : BankId) (loses : Bool) (p : Requester → Bool) (s : State) : State :=
  compete b (rejectStacked b p (if loses then withdrawGrant b s else s))

/-! ### The refill list (R46, R47) -/

/-- `a` stands before `b` on the list (R46). -/
def State.refillBefore (s : State) (a b : BankId) : Bool :=
  decide ((s.bank a).entry.priority < (s.bank b).entry.priority) ||
  ((s.bank a).entry.priority == (s.bank b).entry.priority && decide (a.val < b.val))

/-- A bank joins at the place its priority and number give it. -/
def State.refillInsert (s : State) (b : BankId) : List BankId → List BankId
  | [] => [b]
  | x :: rest => if s.refillBefore b x then b :: x :: rest else x :: s.refillInsert b rest

/-- Whether the bank is on the list after a refill evaluation (R46). -/
def State.refillStays (s : State) (b : BankId) : Bool :=
  let k := s.bank b
  k.usableFill && (if s.refill.contains b then decide (k.pressure < k.entry.refillOff) else decide (k.pressure < k.entry.refillOn))

/-- The list is replaced; a change is told to both sequencers (R47). -/
def setRefill (l : List BankId) (s : State) : State := if s.refill = l then s else tellRefill { s with refill := l }

/-- The compressor that holds the bank, if one does. -/
def State.fillingCs (s : State) (b : BankId) : Option CompId :=
  match s.holderOf b with
  | some r => match reqUnit r with
    | .inr k => some k
    | .inl _ => none
  | none => none

/-- The refill evaluation with the bank's latest pressure (R46, R47). A member that stays is put at the place of its
priority; one that leaves on reaching refill-off while a compressor fills it is a notice to that compressor. -/
def refillEval (b : BankId) (s : State) : State :=
  let rest := s.refill.erase b
  if s.refillStays b then setRefill (s.refillInsert b rest) s
  else
    let s1 := setRefill rest s
    match s.fillingCs b with
    | some k => if s.refill.contains b && (s.bank b).usableFill then refillOff k b s1 else s1
    | none => s1

/-! ### Faults (R41 to R43) -/

/-- A valid bank takes SENSOR (R41). -/
def takeSensor (b : BankId) (s : State) : State :=
  let s1 := forceOff b true (fun _ => true) s
  post flagBank (setRefill (s1.refill.erase b) s1)

/-- A quantity of the bank has become HELD in `s'`, the state before being `s`: SENSOR is taken where it did not stand. -/
def sensorIfNew (b : BankId) (s s' : State) : State :=
  if (s'.bank b).fault = .sensor ∧ (s.bank b).fault ≠ .sensor then takeSensor b s' else s'

def bankPressureHeld (b : BankId) (v : Nat) (s : State) : State :=
  sensorIfNew b s (modBank b (fun k => { k with pressure := v, pressureGood := false }) s)
def bankTemperatureHeld (b : BankId) (v : Nat) (s : State) : State :=
  sensorIfNew b s (modBank b (fun k => { k with temperature := v, temperatureGood := false }) s)

/-- The inventory is recomputed where both quantities are GOOD (R39). -/
def recomputeInventory (b : BankId) (s : State) : State :=
  let k := s.bank b
  if k.pressureGood && k.temperatureGood then
    let l := s.lookup k.pressure k.temperature
    modBank b (fun k => { k with inventory := massOf l.density k.entry.volume, indication := l.indication }) s
  else s

/-- BANK is posted where the reported fault has changed from that of `s` (R45). -/
def postFault (b : BankId) (s s' : State) : State := postIf ((s.bank b).fault != (s'.bank b).fault) flagBank s'

/-- A protection trip (R43). -/
def protectionTrip (b : BankId) (s : State) : State :=
  let s1 := post flagBank (modBank b (fun k => { k with protect := true, reload := false }) s)
  let s2 := withdrawGrant b s1
  let s3 := setRefill (s2.refill.erase b) s2
  compete b (rejectStacked b isCs s3)

/-- The delivery is passed to the bank's holder (R38 step 5). -/
def passSample (b : BankId) (s : State) : State :=
  match s.holderOf b with
  | some r => match reqUnit r with
    | .inl i => fpsBankSample i b s
    | .inr k => csBankSample k b s
  | none => s

/-- Steps 1 and 2 of R38: the fault, the inventory. -/
def afterDelivery (b : BankId) (s s' : State) : State := recomputeInventory b (postFault b s s')

/-- A delivery of BANK_P(b) (R38). -/
def bankPressureSample (b : BankId) (v : Nat) (s : State) : State :=
  let s1 := afterDelivery b s (modBank b (fun k => { k with pressure := v, pressureGood := true }) s)
  let s2 :=
    if (s1.fillingCs b).isSome && decide ((s1.bank b).entry.rated ≤ v) then protectionTrip b s1 else s1
  passSample b (refillEval b s2)

/-- A delivery of BANK_T(b) (R38, R42). -/
def bankTemperatureSample (b : BankId) (v : Nat) (s : State) : State :=
  let s1 := modBank b (fun k => { k with temperature := v, temperatureGood := true }) s
  let s2 := afterDelivery b s s1
  if (s.bank b).fault = .sensor ∧ (s1.bank b).fault ≠ .sensor then refillEval b s2 else s2

/-! ### Loading an entry, clearing a fault (R36, R37, R44) -/

/-- The entry does not permit requester `r` (R37). -/
def BankEntry.turnsAway (e : BankEntry) (r : Requester) : Bool :=
  !e.valid || (if isCs r then !e.fillPermit else !e.drawPermit)

/-- The holder loses its grant under the new entry (R37). -/
def State.holderLoses (s : State) (b : BankId) (e : BankEntry) : Bool :=
  match s.holderOf b with
  | some r => e.turnsAway r
  | none => false

/-- The effects of an accepted LOAD_BANK, in the order of R37. -/
def installBank (b : BankId) (e : BankEntry) (s : State) : State :=
  let s1 := modBank b (fun k => { k with entry := e }) s
  let s2 := forceOff b (s.holderLoses b e) e.turnsAway s1
  let s3 :=
    if (s1.bank b).fault = .sensor ∧ (s.bank b).fault ≠ .sensor then takeSensor b s2 else postFault b s s2
  modBank b (fun k => { k with reload := k.reload || k.protect }) (refillEval b s3)

/-- Check 4 of R36: outside UNCONFIGURED, the FILL roles the new entry needs are mapped. -/
def State.fillMapped (s : State) (b : BankId) (e : BankEntry) : Bool :=
  s.site.state == .unconfigured ||
  (modBank b (fun k => { k with entry := e }) s).mappedFor (fun r => match r with
    | .fill _ b' => b' == b
    | .draw _ _ | .shutoff _ | .vent _ | .recirc _ => false)

/-- The effects of CLEAR_FAULT (R44). -/
def clearBankFault (b : BankId) (s : State) : State :=
  refillEval b (post flagBank (modBank b (fun k => { k with protect := false, reload := false }) s))

/-- STM at SOFT_RESET (R49). -/
def stmSoftReset (s : State) : State :=
  { s with banks := s.banks.map (fun k => { k with pressureGood := false, temperatureGood := false }), refill := [] }

/-- The site inventory (R27, R39). -/
def State.siteInventory (s : State) : Nat := (allBanks.map (fun b => if (s.bank b).entry.valid then (s.bank b).inventory else 0)).sum

end Sys2Proof.Machine
end

