-- ==== Sys2Proof/Machine/Channels.lean ====
section
/-!
DEFINITION. The Channel Unit (1.1): scaling, the plausibility test, and what a delivery or a becoming-HELD notice does at each
consumer (R3 to R6).
-/
namespace Sys2Proof.Machine

/-- The scaled value of a raw sample (R3). -/
def Channel.scaled (c : Channel) (raw : Nat) : Nat := c.scaleLow + roundDiv ((c.scaleHigh - c.scaleLow) * raw) 65535

/-- Plausible from limit to limit inclusive (R4). -/
def Channel.plausible (c : Channel) (v : Nat) : Bool := inRange c.plausLow c.plausHigh v

/-- The channel after a plausible sample, after an implausible one, and as a sample arrives at all (R3, R4, R5). -/
def Channel.arrived (c : Channel) (now : Clock) : Channel := { c with lastSample := now, staleTimer := some Config.staleness }
def Channel.accept (c : Channel) (v : Nat) : Channel := { c with value := v, failCount := 0, status := .good }
def Channel.reject (c : Channel) : Channel :=
  { c with failCount := min 3 (c.failCount + 1), status := if 3 ≤ c.failCount + 1 then .failed else c.status }

/-- A plausible sample is delivered to the quantity's consumers (R6). -/
def deliver (bd : Binding) (v : Nat) (s : State) : State :=
  match bd with
  | .nozzleP i => nozzleSample i v s
  | .gasT i => gasSample i v s
  | .bankP b => bankPressureSample b v s
  | .bankT b => bankTemperatureSample b v s
  | .coldStoreT => coldStoreSample v s
  | .ambientT => pcmBand (bandFor v) (allFps.foldl (fun s i => fpsBand i (bandFor v) s) s)
  | .dischargeT k => dischargeSample v k s
  | .supplyP => inAnyOrder (allComps.map (supplySample v)) s
  | .unused => s

/-- The quantity has become HELD, with the held value (R6). -/
def tellHeld (bd : Binding) (v : Nat) (s : State) : State :=
  match bd with
  | .nozzleP i => nozzleHeld i v s
  | .gasT i => gasHeld i v s
  | .bankP b => bankPressureHeld b v s
  | .bankT b => bankTemperatureHeld b v s
  | .coldStoreT => coldStoreHeld v s
  | .ambientT => pcmBand .a5 (allFps.foldl (fun s i => fpsBand i .a5 s) s)
  | .dischargeT k => dischargeHeld v k s
  | .supplyP => inAnyOrder (allComps.map (supplyHeld v)) s
  | .unused => s

/-- A channel's status has changed from that of `c`: CHANNEL_FAIL for a fall, and the notice where it was GOOD (R6, R7). -/
def fallFrom (i : ChanId) (c : Channel) (s : State) : State :=
  let c' := s.chan i
  let s1 := postIf ((c.status == .good && c'.status != .good) || (c.status == .stale && c'.status == .failed)) flagChannelFail s
  if c.status = .good ∧ c'.status ≠ .good then tellHeld c'.binding c'.value s1 else s1

/-- A sample arrives on a channel (R3, R4). -/
def takeSample (i : ChanId) (raw : Nat) (s : State) : State :=
  let c := s.chan i
  if c.binding = .unused then s
  else
    let v := c.scaled raw
    let s1 := modChan i (fun c => c.arrived s.site.clock) s
    if c.plausible v then deliver c.binding v (modChan i (fun c => c.accept v) s1)
    else fallFrom i c (modChan i Channel.reject s1)

/-- The staleness timer expires (R5). -/
def goStale (i : ChanId) (s : State) : State :=
  fallFrom i (s.chan i) (modChan i (fun c => { c with status := .stale, staleTimer := none }) s)

/-- CHU at SOFT_RESET (R8). -/
def chuSoftReset (s : State) : State :=
  { s with chans := s.chans.map (fun c => { c with status := .stale, failCount := 0, staleTimer := none }) }

end Sys2Proof.Machine
end

