-- ==== Sys2Proof/Machine/SiteControl.lean ====
section
/-!
DEFINITION. The Site Controller (chapter 11): the landing choice, the entries into the site states with what each block does at
them, the commissioning checks and the soft reset.
-/
namespace Sys2Proof.Machine

/-! ### Entries (R192 to R195) -/

/-- Every line in FORCE_OPEN returns to AUTO as the site leaves MAINTENANCE (R18). -/
def closeForced (s : State) : State :=
  if s.site.state = .maintenance then { s with lineModes := s.lineModes.map (fun m => if m = .forceOpen then .auto else m) } else s

/-- What BKA, PCM and MTU do on an entry into SHUTDOWN or POWERDOWN (R55, R84, R93, R160). DESIGN CHOICE
(notes/assumptions/40.md): the manual lets the blocks take the entry in any order; these three take it first. -/
def haltBlocks (s : State) : State :=
  allFps.foldl (fun s i => cancelAuthorization i s) (chillerHeldIdle (emptyWaitList (emptyArbiter s)))

/-- Both compressors act on the entry (R73), after every other block (DESIGN CHOICE, notes/assumptions/40.md). -/
def haltCompressors (s : State) : State := inAnyOrder (allComps.map csShutdown) s

/-- The site enters SHUTDOWN with a cause (R192). The order of the blocks is that of notes/assumptions/40.md. -/
def enterShutdown (cause : ShutCause) (s : State) : State :=
  haltCompressors (inAnyOrder (allFps.map shutdownFp) (haltBlocks (setSite .shutdown false cause (closeForced s))))

/-- The site enters POWERDOWN; the shutdown cause is kept (R183, R186, R194). BKA, PCM and MTU take the entry first, then CQR
and the sequencers in an order left free (R183), the compressors last (DESIGN CHOICE, notes/assumptions/40.md). -/
def enterPowerdown (s : State) : State :=
  haltCompressors (inAnyOrder (markChange :: allFps.map powerdownFp)
    (haltBlocks (setSite .powerdown false s.site.cause (closeForced s))))

/-- The site enters OPERATING, the forecourt CLOSED (R62, R73, R84). -/
def enterOperating (s : State) : State :=
  evalChiller (inAnyOrder (allComps.map evalPermission) (setSite .operating false .noCause (closeForced s)))

/-- The site enters UNCONFIGURED (R73, R84, R190). -/
def enterUnconfigured (s : State) : State :=
  inAnyOrder (allComps.map csDecommission) (chillerHeldIdle (setSite .unconfigured false .noCause (closeForced s)))

/-! ### The landing choice (R188) -/

/-- The first of the three functions whose combined level is asserted (R188). -/
def State.alarm (s : State) : Option ShutCause :=
  if s.combined .esd then some .esd
  else if s.combined .gasAlarm then some .gasAlarm
  else if s.combined .fireAlarm then some .fireAlarm
  else none

/-- The landing state, with the cause it gives a SHUTDOWN (R188). -/
def State.landing (s : State) : SiteState × ShutCause :=
  if !s.site.commissioned then (.unconfigured, .noCause)
  else if s.inputAsserted .powerFail then (.powerdown, s.site.cause)
  else match s.alarm with
    | some c => (.shutdown, c)
    | none => (.operating, .noCause)

/-- The site takes its landing state (R188). -/
def land (s : State) : State :=
  match s.landing with
  | (.unconfigured, _) => enterUnconfigured s
  | (.operating, _) => enterOperating s
  | (.shutdown, c) => enterShutdown c s
  | (.powerdown, _) => enterPowerdown s
  | (.maintenance, _) => s

/-! ### Safety inputs (R192, R194) -/

/-- A shutdown cause reaches SC (R192). -/
def shutdownEvent (cause : ShutCause) (s : State) : State :=
  match s.site.state with
  | .operating | .maintenance => enterShutdown cause s
  | .unconfigured | .shutdown | .powerdown => s

/-- A POWER_FAIL field event reaches SC (R194). -/
def powerFailEvent (s : State) : State :=
  match s.site.state with
  | .operating | .maintenance | .shutdown => enterPowerdown s
  | .unconfigured | .powerdown => s

/-! ### Commissioning (R189), decommissioning and maintenance (R190, R191) -/

/-- The quantities the configuration uses each have a channel (R189 check 7). -/
def State.channelsBound (s : State) : Bool :=
  allFps.all (fun i => !(s.fp i).loaded || (s.bound (.nozzleP i) && s.bound (.gasT i))) &&
  allBanks.all (fun b => !(s.bank b).entry.valid || (s.bound (.bankP b) && s.bound (.bankT b))) &&
  s.bound .coldStoreT && s.bound .ambientT &&
  allComps.all (fun k => !(s.comp k).loaded || (s.bound (.dischargeT k) && s.bound .supplyP))

/-- The first failing check of COMMISSION (R189). -/
def State.commissionFault (s : State) : Option RefusalCode :=
  if !s.site.paramsLoaded then some .notConfigured
  else if !(s.tableComplete && s.tableOrdered) then some .tableOrder
  else if !s.ramp.toList.all (·.loaded) then some .notConfigured
  else if !s.pcm.loaded then some .notConfigured
  else if !allFps.any (fun i => (s.fp i).loaded) then some .notConfigured
  else if !allFps.all (fun i => !(s.fp i).loaded || (s.fp i).entry.cascade.all (fun b => (s.bank b).entry.valid)) then
    some .notConfigured
  else if !s.channelsBound then some .notConfigured
  else if !s.mapped then some .unmapped
  else none

/-- No fill runs and no authorization is PENDING (R190, R191). -/
def State.quiet (s : State) : Bool := allFps.all (fun i => (s.fp i).fill.none && (s.meter i).auth.state != .pending)

/-- Neither compressor is in a running state (R190). -/
def State.compressorsStopped (s : State) : Bool := allComps.all (fun k => !(s.comp k).state.running)

/-- Each compressor is OFF, DISABLED or TRIPPED (R191). -/
def State.compressorsAtRest (s : State) : Bool :=
  allComps.all (fun k => match (s.comp k).state with
    | .off | .disabled | .tripped => true
    | .startDeferred | .starting | .recirc | .filling | .stopping => false)

/-! ### SOFT_RESET (R195) -/

/-- PCM at SOFT_RESET (R78, R84, R86). -/
def pcmSoftReset (s : State) : State :=
  chillerHeldIdle (modPcm (fun p => { p with tcsGood := false, band := .a5, records := Vector.replicate 4 Reservation.empty,
                                             waitList := [] }) s)

/-- MTU's counts and windows at SOFT_RESET (R166, R171). -/
def mtuSoftReset (s : State) : State :=
  { s with mtu := s.mtu.map (fun m => { m with window := false, flow := [], pulses := [] }) }

/-- The receivers at SOFT_RESET (R154). -/
def linksSoftReset (s : State) : State := { s with vlr := s.vlr.map Vlr.ended }

/-- The blocks restart (R195): BKA and PCM are emptied, the fills wound up in an order left free, the authorizations
cancelled, the channels, banks, receivers and line modes reset, the compressors restarted, the image marked changed. DESIGN CHOICE
(notes/assumptions/39.md): the reset's own mark comes after the loads of the fills it ends (R185 gives no order). -/
def restartBlocks (s : State) : State :=
  let s1 := inAnyOrder (allFps.map softResetFp) (pcmSoftReset (emptyArbiter s))
  let s2 := mtuSoftReset (allFps.foldl (fun s i => cancelAuthorization i s) s1)
  let s3 := linksSoftReset (chuSoftReset (stmSoftReset { s2 with lineModes := Vector.replicate 64 .auto }))
  markChange (inAnyOrder (allComps.map csSoftReset) s3)

/-- The site takes its landing state after a reset. Where it stood in that state already this is no entry: the record is
set and no block acts again (notes/assumptions/12.md). -/
def landAfterReset (s : State) : State :=
  if s.landing.1 = s.site.state then evalChiller (setSite s.landing.1 false s.landing.2 s) else land s

/-- SOFT_RESET (R195): the summary is emptied last, so nothing of the reset stays posted (R206). -/
def softResetAll (s : State) : State := modSli (fun l => { l with summary := 0 }) (settle (landAfterReset (restartBlocks s)))

end Sys2Proof.Machine
end

