-- ==== Sys2Proof/Machine/FieldEvents.lean ====
section
/-!
DEFINITION. The Input Event Unit's events (1.2): what a level field event, an edge event and a nozzle event do at their
targets, and the changes of a line that bring them (R10 to R14).
-/
namespace Sys2Proof.Machine

/-- The event is for the fuelling point, or the compressor, the line's target names. -/
def atFp (target : Nat) (f : FpId → State → State) (s : State) : State :=
  match unitOf 4 target with
  | some i => f i s
  | none => s
def atComp (target : Nat) (f : CompId → State → State) (s : State) : State :=
  match unitOf 2 target with
  | some k => f k s
  | none => s

/-- SITE_HOLD's combined level has changed since `old`: an event of its own at each sequencer (R12, R106, R133). -/
def siteHoldLevel (old s : State) : State := inAnyOrder (allFps.map (fun i => holdsChanged i (old.levelHold i))) s

/-- A level field event (R12); `old` is the state before the change. -/
def levelEvent (fn : LineFn) (target : Nat) (asserted : Bool) (old s : State) : State :=
  match fn with
  | .esd => if asserted then shutdownEvent .esd s else s
  | .gasAlarm => if asserted then shutdownEvent .gasAlarm s else s
  | .fireAlarm => if asserted then shutdownEvent .fireAlarm s else s
  | .powerFail => if asserted then powerFailEvent s else s
  | .siteHold => siteHoldLevel old s
  | .chillerTrip => if asserted then chillerTrip s else s
  | .breakaway => if asserted then atFp target (fun i => endFill i .breakaway) s else s
  | .meterError => if asserted then atFp target (fun i => endFill i .meterFail) s else s
  | .compressorTrip => if asserted then atComp target tripInput s else atComp target evalPermission s
  | .nozzleHolster | .nozzleConnect | .start | .stop | .noFn => s

/-- An edge event (R11, R12). -/
def edgeEvent (fn : LineFn) (target : Nat) (s : State) : State :=
  match fn with
  | .esd => shutdownEvent .esd s
  | .gasAlarm => shutdownEvent .gasAlarm s
  | .fireAlarm => shutdownEvent .fireAlarm s
  | .powerFail => powerFailEvent s
  | .siteHold => inAnyOrder (allFps.map syncHold) s
  | .chillerTrip => chillerTrip s
  | .start => atFp target tryStart s
  | .stop => atFp target (fun i => endFill i .customerStop) s
  | .breakaway => atFp target (fun i => endFill i .breakaway) s
  | .meterError => atFp target (fun i => endFill i .meterFail) s
  | .compressorTrip => atComp target tripInput s
  | .nozzleHolster | .nozzleConnect | .noFn => s

/-- A nozzle field event (R13, R98, R107, R113). -/
def nozzleEvent (i : FpId) (c : NozzleCondition) (s : State) : State :=
  match c with
  | .connected => if (s.fp i).entry.autoStart ∧ (s.meter i).auth.state = .pending then tryStart i s else s
  | .lifted => endFill i .nozzleDisconnect s
  | .holstered => if (s.fp i).fill = .complete then setFill i .idle s else endFill i .nozzleDisconnect s

/-- The function is one of the two nozzle functions. -/
def LineFn.isNozzle (f : LineFn) : Bool := f == .nozzleHolster || f == .nozzleConnect

/-- The nozzle condition is derived anew and handed on where it moved from that of `old` (R13). -/
def nozzleMoved (i : FpId) (old s : State) : State :=
  if old.nozzleCondition i = s.nozzleCondition i then s else nozzleEvent i (s.nozzleCondition i) s

/-- The combined level of a function has moved from that of `old`: a level field event (R12). -/
def levelMoved (fn : LineFn) (target : Nat) (old s : State) : State :=
  if old.combined fn target = s.combined fn target then s else levelEvent fn target (s.combined fn target) old s

/-- The mode makes an edge event of this change (R11). -/
def DetectMode.edge (m : DetectMode) (assertion : Bool) : Bool :=
  match m with
  | .level => false
  | .rising => assertion
  | .falling => !assertion
  | .any => true

/-- A line change passes to detection (R11 to R13); `old` is the state before the filtered level moved. -/
def lineChanged (line : LineId) (old s : State) : State :=
  let l := s.line line
  if l.fn.isNozzle then atFp l.target (fun i => nozzleMoved i old) s
  else if l.mode = .level then levelMoved l.fn l.target old s
  else if l.mode.edge l.effective then edgeEvent l.fn l.target s
  else s

/-- A line's raw level moves (R10). -/
def rawChange (line : LineId) (level : Bool) (s : State) : State :=
  modLine line (fun l => { l with raw := level, filterRunning := level != l.filtered }) s

/-- The filter timer expires with the raw level still away (R10). -/
def filterDone (line : LineId) (s : State) : State :=
  if (s.line line).filterRunning then
    lineChanged line s (modLine line (fun l => { l with filtered := l.raw, filterRunning := false }) s)
  else s

/-! ### Loading a line (R14) -/

/-- The views the load concerns, with the old function's line taken away: first the release, then the assertion (R14). -/
def installLine (line : LineId) (fn : LineFn) (target : Nat) (pol : Polarity) (mode : DetectMode) (s : State) : State :=
  let o := s.line line
  let without := modLine line (fun l => { l with fn := .noFn }) s
  let s1 := modLine line (fun l => { l with fn := fn, target := target, polarity := pol, mode := mode }) s
  let moved (f : LineFn) (t : Nat) (old new st : State) : State :=
    if old.combined f t = new.combined f t then st else levelEvent f t (new.combined f t) old st
  let s2 := if o.fn.isNozzle || o.fn == .noFn then s1 else moved o.fn o.target s without s1
  let s3 := if fn.isNozzle || fn == .noFn then s2 else moved fn target without s1 s2
  allFps.foldl (fun st i =>
    if (o.fn.isNozzle && o.target == i.val) || (fn.isNozzle && target == i.val) then
      if s.nozzleCondition i = s1.nozzleCondition i then st else nozzleEvent i (s1.nozzleCondition i) st
    else st) s3

end Sys2Proof.Machine
end

