-- ==== Sys2Proof/Machine/Replies.lean ====
section
/-!
DEFINITION. The reply data of the accepted requests, in the order of each owner's rule and at the sizes of R205 (R7, R48, R75,
R94, R119, R140, R154, R171, R177 to R179, R186, R207, R208). Where R205 leaves a layout open the choice is that of
notes/assumptions/13.md.
-/
namespace Sys2Proof.Machine

/-- GOOD or HELD, by position. -/
def heldMark (good : Bool) : List Byte := u8 (if good then 0 else 1)

/-- The remaining time of a timer, or none. -/
def timerBytes (t : Timer) : List Byte := opt 2 t

def optCode {α : Type} (f : α → Nat) (o : Option α) : List Byte := opt 1 (o.map f)

/-! ### READ_CHANNEL (R7) -/

/-- Whether a quantity is a temperature, carried in 2 bytes, or not, carried in the 4 bytes of a pressure (R205). DESIGN CHOICE
(notes/assumptions/13.md): an UNUSED channel's value, which is neither, takes 4. -/
def Binding.valueSize : Binding → Nat
  | .gasT _ => 2
  | .bankT _ => 2
  | .coldStoreT => 2
  | .ambientT => 2
  | .dischargeT _ => 2
  | .nozzleP _ => 4
  | .bankP _ => 4
  | .supplyP => 4
  | .unused => 4

def channelBytes (c : Channel) : List Byte :=
  u8 c.binding.code ++ u8 c.binding.index ++ u32 c.scaleLow ++ u32 c.scaleHigh ++ u32 c.plausLow ++ u32 c.plausHigh ++
  be c.binding.valueSize c.value ++ u8 c.status.code ++ u8 c.failCount ++ u32 c.lastSample.toNat

/-! ### READ_BANKS (R48) -/

/-- OPEN or CLOSED, by position, open first (R16, R164, R205; DEDUCED, notes/assumptions/13.md). -/
def openMark (isOpen : Bool) : List Byte := u8 (if isOpen then 0 else 1)

def bankEntryBytes (e : BankEntry) : List Byte :=
  flag8 e.valid ++ u16 e.volume ++ u32 e.rated ++ u32 e.floor ++ u32 e.refillOn ++ u32 e.refillOff ++ flag8 e.drawPermit ++
  flag8 e.fillPermit ++ u8 e.priority

def bankBytes (s : State) (b : BankId) : List Byte :=
  let k := s.bank b
  bankEntryBytes k.entry ++ u32 k.pressure ++ heldMark k.pressureGood ++ u16 k.temperature ++ heldMark k.temperatureGood ++
  u32 k.inventory ++ u8 k.indication.code ++ u8 k.fault.code ++ flag8 k.protect ++ flag8 k.reload ++
  optCode Fin.val (s.holderOf b) ++ counted (fun r => u8 r.val) (s.stackedAt b)

def banksReply (s : State) : List Byte :=
  allBanks.flatMap (bankBytes s) ++ u32 s.siteInventory ++ counted (fun b => u8 b.val) s.refill

/-! ### READ_COMPRESSOR (R75) -/

def compressorEntryBytes (e : CompressorFields) : List Byte :=
  u32 e.maxDischarge ++ u16 e.startTime ++ u16 e.runDown ++ u16 e.minRun ++ u16 e.minOff ++ u8 e.startLimit ++
  u16 e.dischargeLimit ++ u8 e.priority

/-- How a compressor stands to its target: neither, granted, stacked. -/
def State.targetLink (s : State) (k : CompId) : Nat :=
  match (s.comp k).target with
  | some b => if s.holderOf b = some (csReq k) then 1 else if (s.stackedAt b).contains (csReq k) then 2 else 0
  | none => 0

/-- READ_COMPRESSOR's data (R75); the RECIRC(k) command goes as openMark says. -/
def compressorReply (s : State) (k : CompId) : List Byte :=
  let c := s.comp k
  compressorEntryBytes c.entry ++ flag8 c.loaded ++ u8 c.state.code ++ flag8 c.disablePending ++
  opt 1 (if c.state = .recirc then some (if c.target.isSome then 0 else 1) else none) ++
  optCode Fin.val c.target ++ u8 (s.targetLink k) ++
  flag8 c.state.motor ++ openMark c.state.recircOpen ++ flag8 c.state.fillDemand ++
  counted (fun t => u32 t.toNat) c.history ++
  timerBytes c.minOff ++ timerBytes c.start ++ timerBytes c.minRun ++ timerBytes c.bankWait ++ timerBytes c.runDown ++
  optCode TripCause.code c.tripCause ++ u16 c.discharge ++ heldMark c.dischargeGood ++ u32 c.supply ++ heldMark c.supplyGood

/-! ### READ_PRECOOL (R94) -/

def classBytes (f : ClassFields) : List Byte := u16 f.ceiling ++ u16 f.q ++ u16 f.window ++ u16 f.grace

def reservationBytes (r : Reservation) : List Byte :=
  u8 r.state.code ++ u32 r.estimate ++ optCode Category.code r.category ++ optCode PrecoolClass.code r.cls ++
  optCode Band.code r.band ++ u32 r.g ++ u32 r.c0 ++ u32 r.m0 ++ u32 r.c ++ u32 r.outstanding

def precoolReply (s : State) : List Byte :=
  let p := s.pcm
  u16 p.entry.cs ++ u16 p.entry.setpoint ++ u16 p.entry.differential ++ u16 p.entry.waitLimit ++ classBytes p.entry.t40 ++
  classBytes p.entry.t30 ++ classBytes p.entry.t20 ++ flag8 p.loaded ++ u8 p.chiller.code ++ flag8 p.chiller.runs ++
  u16 p.tcs ++ heldMark p.tcsGood ++ u8 p.band.code ++
  [PrecoolClass.t40, .t30, .t20].flatMap (fun c => u32 (s.avail c) ++ u32 (s.free c)) ++ u32 s.outstandingSum ++
  allFps.flatMap (fun i => reservationBytes (s.reservation i)) ++
  counted (fun i => u8 i.val ++ u16 ((s.reservation i).waitTimer.getD 0)) p.waitList

/-! ### READ_FP (R119, R140, R154, R171) -/

/-- The allowed classes as a subset byte (R205). -/
def allowedBits (l : List PrecoolClass) : Nat := (classOrder.map (fun c => if l.contains c then 2 ^ c.code else 0)).sum

/-- A fuelling point's entry; the cascade list is a count and its members, the fixed form being LOAD_FP's alone (R205). -/
def fpEntryBytes (e : FpEntry) : List Byte :=
  u8 e.pressureClass.code ++ u8 (allowedBits e.allowed) ++ counted (fun b => u8 b.val) e.cascade ++
  u8 e.category.code ++ u32 e.defaultEstimate ++ u32 e.maxMass ++ flag8 e.commRequired ++ flag8 e.autoStart ++
  u16 e.authTimeout ++ u16 e.maxFillTime ++ u8 e.priority ++ u16 e.mgPerPulse ++ u16 e.maxPulseRate ++ u32 e.creepLimit ++
  u16 e.defaultSoc

def rampEntryBytes (o : Option RampEntry) : List Byte :=
  match o with
  | some e => u8 1 ++ u8 e.cls.code ++ u8 e.band.code ++ u8 e.category.code ++ u16 e.rate ++ u32 e.endPressure
  | none => List.replicate 10 0#8

def BankLink.code : BankLink → Nat
  | .unlinked => 0 | .granted => 1 | .stacked => 2

def rampStateBytes (s : State) (i : FpId) : List Byte :=
  let f := s.fp i
  rampEntryBytes f.active ++ rampEntryBytes f.pendingEntry ++ flag8 f.switchPending ++ u32 f.pstart ++ u16 f.clock ++
  u16 f.segment ++ u32 (s.pt i) ++ flag8 f.pause ++ flag8 f.sync ++ flag8 f.watchOpen ++ u8 f.band.code ++
  timerBytes f.bankWait ++ timerBytes f.grace ++ timerBytes f.lowFlow

def linkBytes (v : Vlr) : List Byte :=
  u8 v.state.code ++ opt 2 v.volume ++ optCode PressureClass.code v.receptacle ++
  opt 4 (v.last.map (·.pressure)) ++ opt 2 (v.last.map (·.temperature)) ++ optCode VehicleCommand.code (v.last.map (·.command)) ++
  timerBytes v.loss ++ u8 v.implausCount ++ u16 v.crcErrors ++ u16 v.formatErrors ++ u16 v.rangeErrors ++ u16 v.ignored

/-- An authorization record (R155, R171). DESIGN CHOICE (notes/assumptions/13.md): the kind, the value and the price of a record
in NONE, whose fields are empty, go as zeros with no presence mark; the state before them says that they are empty. -/
def authBytes (a : Auth) : List Byte :=
  u8 a.state.code ++ u8 a.kind.code ++ u32 a.value ++ opt 2 a.soc ++ u32 a.price ++ flag8 a.clampMass ++ flag8 a.clampAmount ++
  flag8 a.clampSoc ++ timerBytes a.timer

/-- A draw-list entry with its open or closed mark (R164, R171; DEDUCED, notes/assumptions/13.md: the mark's code is its place
in R164's open or closed, as openMark says). -/
def drawBytes (e : DrawEntry) : List Byte :=
  u8 e.bank.val ++ u32 e.mass ++ u32 e.openP ++ opt 4 e.closeP ++ openMark e.closeP.isNone

def txnBytes (t : Txn) : List Byte :=
  u32 t.price ++ u32 t.mass ++ u32 t.amount ++ counted drawBytes t.draw ++ optCode PrecoolClass.code t.startClass ++
  optCode PrecoolClass.code t.finalClass ++ opt 4 t.p0 ++ opt 2 t.finalSoc ++ u8 t.flags.code ++ u32 t.startTime ++
  opt 4 t.endTime ++ optCode Reason.code t.reason

def meterBytes (s : State) (i : FpId) : List Byte :=
  let m := s.meter i
  authBytes m.auth ++
  (match m.txn with
   | some t => u8 1 ++ txnBytes t
   | none => u8 0 ++ txnBytes (openTxn Auth.empty 0)) ++
  flag8 m.window ++ u32 m.figure ++ u16 (m.rate s.site.clock) ++ u32 m.creep ++ flag8 m.creepBlock

def fpReply (s : State) (i : FpId) : List Byte :=
  let f := s.fp i
  fpEntryBytes f.entry ++ flag8 f.loaded ++ u8 f.fill.code ++ optCode Substate.code f.sub ++ optCode Reason.code f.reason ++
  u8 f.mode.code ++ flag8 f.hostHold ++ flag8 f.vehicleHold ++ flag8 f.ventFail ++ u8 (s.nozzleCondition i).code ++
  u32 f.nozzle ++ heldMark f.nozzleGood ++ u16 f.gas ++ heldMark f.gasGood ++
  opt 4 f.estimate ++ optCode Category.code f.category ++ opt 2 (s.link i).volume ++ opt 2 f.presentSoc ++
  u16 (s.socTarget i) ++ optCode PrecoolClass.code f.admClass ++ optCode Band.code f.admBand ++ opt 4 f.p0 ++
  optCode Fin.val f.cascadePos ++ u8 f.link.code ++ rampStateBytes s i ++
  timerBytes f.acquisition ++ timerBytes f.bankWait ++ timerBytes f.leakPulse ++ timerBytes f.leakHold ++
  timerBytes f.maxFill ++ timerBytes f.settle ++ timerBytes f.vent ++
  linkBytes (s.link i) ++ meterBytes s i

/-! ### READ_STATUS (R186, R207) and the site record -/

def siteRecordBytes (s : State) : List Byte :=
  u8 s.site.state.code ++ u8 (if s.site.forecourtOpen then 0 else 1) ++ flag8 s.site.commissioned ++ u8 s.site.cause.code ++
  flag8 s.site.paramsLoaded

/-- A class's prices (R161). DESIGN CHOICE (notes/assumptions/13.md): the pending price and its activation time stand or fall
together and share one presence mark. -/
def priceBytes (p : Price) : List Byte :=
  u32 p.active ++ (match p.pending with
    | some (v, t) => u8 1 ++ u32 v ++ u32 t
    | none => u8 0 ++ u32 0 ++ u32 0)

/-- The functions whose views READ_STATUS carries (R186). -/
def statusFunctions : List LineFn := [.esd, .gasAlarm, .fireAlarm, .powerFail, .siteHold]

def statusReply (s : State) : List Byte :=
  u16 s.sli.summary.toNat ++ u16 s.sli.errors ++ siteRecordBytes s ++
  statusFunctions.flatMap (fun f => flag8 (s.combined f)) ++ statusFunctions.flatMap (fun f => flag8 (s.inputAsserted f)) ++
  u32 s.site.clock.toNat ++ u32 s.site.calendar ++ flag8 s.site.calendarSet ++
  s.lines.toList.flatMap (fun l => flag8 l.effective) ++
  (List.finRange 64).flatMap (fun o => u8 (sel s.lineModes o).code ++ u8 (s.drive o).code) ++
  (List.finRange 8).flatMap (fun e => flag8 (s.eventActive e)) ++
  priceBytes (s.price .h70) ++ priceBytes (s.price .h35)

/-! ### CQR (R177 to R179, R208) -/

def completionReply (c : Cqr) : List Byte :=
  match c.queue with
  | [] => u8 0 ++ u32 c.nextNumber
  | r :: _ => u8 c.queue.length ++ r.bytes

def totalsReply (c : Cqr) : List Byte :=
  c.totals.toList.flatMap Totals.bytes ++ u8 c.queue.length ++ u8 c.slots ++ u32 c.nextNumber ++ flag8 c.write.isSome ++
  flag8 c.pendingChange ++ flag8 c.fault ++ flag8 c.lost

/-- The reply to AUTHORIZE (R157). -/
def authorizeReply (a : Auth) : List Byte :=
  u8 a.kind.code ++ u32 a.value ++ opt 2 a.soc ++ u32 a.price ++ flag8 a.clampMass ++ flag8 a.clampAmount ++ flag8 a.clampSoc

end Sys2Proof.Machine
end

