-- ==== Sys2Proof/Machine/ReadCommands.lean ====
section
/-!
DEFINITION. The requests that read the part's state, and REMOVE_COMPLETION (R7, R48, R75, R94, R119, R177 to R179, R207).
-/
namespace Sys2Proof.Machine

/-- Forming the reply removes from the summary exactly the flags it carries (R207). -/
def ownReadStatus (s : State) : State × Answer :=
  (modSli (fun l => { l with summary := l.summary &&& ~~~ s.sli.summary }) s, .accepted (statusReply s))

def execReadStatus (s : State) : Out := request .readStatus ownReadStatus s

/-- A read of one unit: refused with BAD_FIELD where the unit does not exist; it changes no state. -/
def readUnit (n : Nat) (unit : Nat) (reply : State → Fin n → List Byte) (s : State) : State × Answer :=
  match unitOf n unit with
  | some i => (s, .accepted (reply s i))
  | none => refuse s .badField

/-- A read of a whole block. -/
def readAll (reply : State → List Byte) (s : State) : State × Answer := (s, .accepted (reply s))

def execReadFp (fp : Nat) (s : State) : Out := request (.readFp fp) (readUnit 4 fp fpReply) s
def execReadBanks (s : State) : Out := request .readBanks (readAll banksReply) s
def execReadCompressor (k : Nat) (s : State) : Out := request (.readCompressor k) (readUnit 2 k compressorReply) s
def execReadPrecool (s : State) : Out := request .readPrecool (readAll precoolReply) s
def execReadChannel (ch : Nat) (s : State) : Out :=
  request (.readChannel ch) (readUnit 48 ch (fun s i => channelBytes (s.chan i))) s
def execReadCompletion (s : State) : Out := request .readCompletion (readAll (fun s => completionReply s.cqr)) s
def execReadTotals (s : State) : Out := request .readTotals (readAll (fun s => totalsReply s.cqr)) s

/-- REMOVE_COMPLETION takes the head, and only by its number (R178). -/
def ownRemoveCompletion (number : Nat) (s : State) : State × Answer :=
  if number = 0 then refuse s .badField
  else match s.cqr.queue with
    | [] => refuse s .mismatch
    | r :: rest =>
      if r.number = number then
        (markChange (releaseSlot (modCqr (fun c => { c with queue := rest }) s)), .accepted (u32 number ++ u8 rest.length))
      else refuse s .mismatch

def execRemoveCompletion (number : Nat) (s : State) : Out := request (.removeCompletion number) (ownRemoveCompletion number) s

end Sys2Proof.Machine
end

