-- ==== Sys2Proof/Machine/LoadCommands.lean ====
section
/-!
DEFINITION. The requests that load tables (R1, R9, R15, R20, R22, R36, R56, R76, R95, R120, R187). Where a rule states a
refusal for the site state and others for fields without an order, the site state is looked at first
(notes/assumptions/14.md).
-/
namespace Sys2Proof.Machine

/-- A load taken only in UNCONFIGURED and MAINTENANCE. -/
def load (body : State → State × Answer) (s : State) : State × Answer := if loadsTaken s then body s else refuse s .badState

/-! ### LOAD_SITE (R187) -/

def ownLoadSite (f : SiteFields) (s : State) : State × Answer :=
  load (fun s => if siteInRange f then accept (modSite (fun r => { r with params := f, paramsLoaded := true }) s)
    else refuse s .badField) s
def execLoadSite (f : SiteFields) (s : State) : Out := request (.loadSite f) (ownLoadSite f) s

/-! ### LOAD_DENSITY_ROW (R22) -/

/-- Non-decreasing along pressure (R22). -/
def nonDecreasing : List Nat → Bool
  | [] => true
  | x :: rest => (match rest with
    | [] => true
    | y :: _ => decide (x ≤ y)) && nonDecreasing rest

/-- The row fits between its neighbours as they stand (R22). -/
def State.fitsNeighbours (s : State) (row : Fin 17) (v : Vector Nat 19) : Bool :=
  (List.finRange 19).all (fun i =>
    (row.val == 0 || decide (sel v i ≤ s.entryAt (row.val - 1) i.val)) &&
    (row.val == 16 || decide (s.entryAt (row.val + 1) i.val ≤ sel v i)))

def ownLoadDensityRow (row : Nat) (entries : List Nat) (s : State) : State × Answer :=
  if h : entries.toArray.size = 19 then
    let v : Vector Nat 19 := ⟨entries.toArray, h⟩
    load (fun s => match unitOf 17 row with
      | none => refuse s .badField
      | some j =>
        if !nonDecreasing entries then refuse s .tableOrder
        else if s.site.state == .maintenance && !s.fitsNeighbours j v then refuse s .tableOrder
        else accept { s with density := upd s.density j { entries := v, loaded := true } }) s
  else refuse s .badLength
def execLoadDensityRow (row : Nat) (entries : List Nat) (s : State) : Out :=
  request (.loadDensityRow row entries) (ownLoadDensityRow row entries) s

/-! ### LOAD_RAMP_ENTRY (R120) -/

def ownLoadRampEntry (f : RampFields) (s : State) : State × Answer :=
  load (fun s => match rampKeysOf f with
    | some r =>
      if f.rate ≤ 60000 ∧ f.endPressure ≤ 100000 then
        accept { s with ramp := upd s.ramp r { rate := f.rate, endPressure := f.endPressure, loaded := true } }
      else refuse s .badField
    | none => refuse s .badField) s
def execLoadRampEntry (f : RampFields) (s : State) : Out := request (.loadRampEntry f) (ownLoadRampEntry f) s

/-! ### LOAD_PRECOOL (R76, R77) -/

def ownLoadPrecool (f : PrecoolFields) (s : State) : State × Answer :=
  load (fun s => if precoolInRange f then accept (evalChiller (modPcm (fun p => { p with entry := f, loaded := true }) s))
    else refuse s .badField) s
def execLoadPrecool (f : PrecoolFields) (s : State) : Out := request (.loadPrecool f) (ownLoadPrecool f) s

/-! ### LOAD_BANK (R36, R37) -/

def ownLoadBank (b : Nat) (f : BankFields) (s : State) : State × Answer :=
  match unitOf 8 b, bankEntryOf f with
  | some b, some e => if s.fillMapped b e then accept (settle (installBank b e s)) else refuse s .unmapped
  | _, _ => refuse s .badField
def execLoadBank (b : Nat) (f : BankFields) (s : State) : Out := request (.loadBank b f) (ownLoadBank b f) s

/-! ### LOAD_COMPRESSOR (R56, R57) -/

def installCompressor (k : CompId) (f : CompressorFields) (s : State) : State :=
  modComp k (fun c => { c with entry := f, loaded := true }) s

/-- RECIRC(k) and the FILL roles of compressor k. -/
def Role.ofComp (k : CompId) : Role → Bool
  | .recirc k' => k' == k
  | .fill k' _ => k' == k
  | .draw _ _ | .shutoff _ | .vent _ => false

def ownLoadCompressor (k : Nat) (f : CompressorFields) (s : State) : State × Answer :=
  load (fun s => match unitOf 2 k with
    | some k =>
      if !compressorInRange f then refuse s .badField
      else if s.site.state == .maintenance && !(installCompressor k f s).mappedFor (Role.ofComp k) then refuse s .unmapped
      else accept (settle (evalNeed k (installCompressor k f s)))
    | none => refuse s .badField) s
def execLoadCompressor (k : Nat) (f : CompressorFields) (s : State) : Out :=
  request (.loadCompressor k f) (ownLoadCompressor k f) s

/-! ### LOAD_FP (R95, R96) -/

def installFp (i : FpId) (e : FpEntry) (s : State) : State := modFp i (fun f => { f with entry := e, loaded := true }) s

/-- SHUTOFF, VENT and the DRAW roles of fuelling point i. -/
def Role.ofFp (i : FpId) : Role → Bool
  | .draw j _ => j == i
  | .shutoff j => j == i
  | .vent j => j == i
  | .fill _ _ | .recirc _ => false

def ownLoadFp (fp : Nat) (f : FpFields) (s : State) : State × Answer :=
  load (fun s => match unitOf 4 fp, fpEntryOf f with
    | some i, some e =>
      if s.site.state == .maintenance && !(installFp i e s).mappedFor (Role.ofFp i) then refuse s .unmapped
      else accept (installFp i e s)
    | _, _ => refuse s .badField) s
def execLoadFp (fp : Nat) (f : FpFields) (s : State) : Out := request (.loadFp fp f) (ownLoadFp fp f) s

/-! ### LOAD_CHANNEL (R1, R2) -/

/-- Another channel holds the binding (R1). -/
def State.heldElsewhere (s : State) (i : ChanId) (bd : Binding) : Bool :=
  bd != .unused && allChans.any (fun j => j != i && (s.chan j).binding == bd)

/-- The entry is replaced and the live state restarted (R2). -/
def Channel.restarted (c : Channel) (bd : Binding) (f : ChannelFields) : Channel :=
  { c with binding := bd, scaleLow := f.scaleLow, scaleHigh := f.scaleHigh, plausLow := f.plausLow, plausHigh := f.plausHigh,
           value := 0, status := .stale, failCount := 0, staleTimer := none }

def ownLoadChannel (ch : Nat) (f : ChannelFields) (s : State) : State × Answer :=
  load (fun s => match unitOf 48 ch, bindingOf f.binding f.index with
    | some i, some bd =>
      if s.heldElsewhere i bd || !scaleInRange bd f then refuse s .badField
      else
        let c := s.chan i
        let s1 := modChan i (fun c => c.restarted bd f) s
        accept (settle (if c.binding ≠ .unused ∧ c.status = .good then tellHeld c.binding 0 s1 else s1))
    | _, _ => refuse s .badField) s
def execLoadChannel (ch : Nat) (f : ChannelFields) (s : State) : Out := request (.loadChannel ch f) (ownLoadChannel ch f) s

/-! ### LOAD_INPUT (R9, R14) -/

/-- Another line has this nozzle function for the same fuelling point (R9). -/
def State.nozzleTaken (s : State) (line : LineId) (fn : LineFn) (target : Nat) : Bool :=
  fn.isNozzle && allLines.any (fun j => j != line && (s.line j).fn == fn && (s.line j).target == target)

def ownLoadInput (line : Nat) (f : LineFields) (s : State) : State × Answer :=
  load (fun s => match unitOf 32 line, lineFnOf f.function, polarityOf f.polarity, detectModeOf f.mode with
    | some j, some fn, some pol, some m =>
      if (fn.targets != 0 && decide (fn.targets ≤ f.target)) || !fn.permits m || s.nozzleTaken j fn f.target then
        refuse s .badField
      else accept (settle (installLine j fn f.target pol m s))
    | _, _, _, _ => refuse s .badField) s
def execLoadInput (line : Nat) (f : LineFields) (s : State) : Out := request (.loadInput line f) (ownLoadInput line f) s

/-! ### LOAD_VALVE_MAP (R15) -/

/-- The pairs with roles and lines that exist. -/
def pairsOf (l : List (Nat × Nat)) : Option (List (Fin 58 × Option (Fin 64))) :=
  l.mapM (fun p => match unitOf 58 p.1, mapLineOf p.2 with
    | some r, some o => some (r, o)
    | _, _ => none)

/-- The map after every pair. -/
def applyPairs (m : Vector (Option (Fin 64)) 58) (l : List (Fin 58 × Option (Fin 64))) : Vector (Option (Fin 64)) 58 :=
  l.foldl (fun m p => upd m p.1 p.2) m

/-- No two roles on one line. -/
def mapDistinct (m : Vector (Option (Fin 64)) 58) : Bool := decide (m.toList.filterMap id).Nodup

def ownLoadValveMap (pairs : List (Nat × Nat)) (s : State) : State × Answer :=
  if pairs.length = 0 ∨ 58 < pairs.length then refuse s .badField
  else load (fun s => match pairsOf pairs with
    | none => refuse s .badField
    | some l =>
      let m := applyPairs s.roleMap l
      if !decide (l.map (·.1)).Nodup || !mapDistinct m then refuse s .badField
      else if s.site.state == .maintenance && !({ s with roleMap := m } : State).mapped then refuse s .unmapped
      else accept { s with roleMap := m }) s
def execLoadValveMap (pairs : List (Nat × Nat)) (s : State) : Out := request (.loadValveMap pairs) (ownLoadValveMap pairs) s

/-! ### LOAD_EVENT_OUTPUT (R20) -/

def ownLoadEventOutput (line condition index polarity : Nat) (s : State) : State × Answer :=
  load (fun s => match unitOf 8 line, conditionOf condition index, polarityOf polarity with
    | some e, some c, some p => accept { s with events := upd s.events e { condition := c, polarity := p } }
    | _, _, _ => refuse s .badField) s
def execLoadEventOutput (line condition index polarity : Nat) (s : State) : Out :=
  request (.loadEventOutput line condition index polarity) (ownLoadEventOutput line condition index polarity) s

end Sys2Proof.Machine
end

