-- ==== Sys2Proof/Machine/SaleCommands.lean ====
section
/-!
DEFINITION. Prices, the calendar, authorizations and the creep counter (R156, R157, R159, R161, R170, R198).
-/
namespace Sys2Proof.Machine

/-! ### SET_PRICE (R161) and SET_TIME (R198) -/

def installPrice (c : PressureClass) (price time : Nat) (s : State) : State :=
  if time ≤ s.site.calendar then post flagPrice (setPriceEntry c { active := price, pending := none } s)
  else setPriceEntry c { active := (s.price c).active, pending := some (price, time) } s

def ownSetPrice (pressureClass price time : Nat) (s : State) : State × Answer :=
  match pressureClassOf pressureClass with
  | some c =>
    if price ≤ 99999 then
      let s1 := installPrice c price time s
      (s1, .accepted (priceBytes (s1.price c)))
    else refuse s .badField
  | none => refuse s .badField
def execSetPrice (pressureClass price time : Nat) (s : State) : Out :=
  request (.setPrice pressureClass price time) (ownSetPrice pressureClass price time) s

def ownSetTime (value : Nat) (s : State) : State × Answer :=
  if value = 0 then refuse s .badField
  else (activatePrices (modSite (fun r => { r with calendar := value, calendarSet := true, secondCount := 0 }) s),
        .accepted (u32 value))
def execSetTime (value : Nat) (s : State) : Out := request (.setTime value) (ownSetTime value) s

/-! ### AUTHORIZE (R156, R157) -/

/-- The SOC target field: absent, its bytes not read, present with a value, or a bad presence mark, which R205 refuses; that this
stands among the first checks of R156 is DEDUCED (notes/assumptions/31.md). -/
def socField (presence target : Nat) : Option (Option Nat) := (onOff presence).map (fun p => if p then some target else none)

/-- Check 3 of R156: the states in which a sale cannot be authorized. -/
def State.cannotAuthorize (s : State) (i : FpId) : Bool :=
  s.site.state != .operating || !s.site.forecourtOpen || (s.fp i).fill != .idle || (s.meter i).auth.state != .noAuth ||
  (s.meter i).creepBlock || s.cqr.fault

/-- The authorization record of an accepted AUTHORIZE (R157 steps 2 to 4). -/
def newAuth (e : FpEntry) (price : Nat) (kind : PresetKind) (value : Nat) (soc : Option Nat) : Auth :=
  let top := if kind = .mass then e.maxMass * 1000 else 99999999
  { state := .pending, kind := kind, value := if kind = .noPreset then 0 else min top value,
    soc := soc.map (clampTo 500 1000), price := price,
    clampMass := kind == .mass && decide (top < value), clampAmount := kind == .amount && decide (top < value),
    clampSoc := match soc with
      | some x => decide (x < 500) || decide (1000 < x)
      | none => false
    timer := some e.authTimeout }

/-- An accepted AUTHORIZE (R157). -/
def installAuth (i : FpId) (a : Auth) (s : State) : State :=
  let s1 := modMeter i (fun m => { m with auth := a }) (reserveSlot s)
  if (s1.fp i).entry.autoStart ∧ s1.nozzleCondition i = .connected then tryStart i s1 else s1

def ownAuthorize (fp kind value presence soc : Nat) (s : State) : State × Answer :=
  match unitOf 4 fp, presetKindOf kind, socField presence soc with
  | some i, some k, some t =>
    if k ≠ .noPreset ∧ value = 0 then refuse s .badField
    else if !(s.fp i).loaded then refuse s .notConfigured
    else if s.cannotAuthorize i then refuse s .badState
    else if Config.slots ≤ s.cqr.slots then refuse s .noSlot
    else
      let a := newAuth (s.fp i).entry (s.price (s.fp i).entry.pressureClass).active k value t
      (installAuth i a s, .accepted (authorizeReply a))
  | _, _, _ => refuse s .badField
def execAuthorize (fp kind value presence soc : Nat) (s : State) : Out :=
  request (.authorize fp kind value presence soc) (ownAuthorize fp kind value presence soc) s

/-! ### CANCEL_AUTH (R159), CLEAR_CREEP (R170) -/

def ownCancelAuth (fp : Nat) (s : State) : State × Answer :=
  match unitOf 4 fp with
  | some i => if (s.meter i).auth.state = .pending then accept (cancelAuthorization i s) else refuse s .badState
  | none => refuse s .badField
def execCancelAuth (fp : Nat) (s : State) : Out := request (.cancelAuth fp) (ownCancelAuth fp) s

def ownClearCreep (fp : Nat) (s : State) : State × Answer :=
  match unitOf 4 fp with
  | some i => (modMeter i (fun m => { m with creep := 0, creepBlock := false }) s,
               .accepted (u32 (s.meter i).creep ++ flag8 (s.meter i).creepBlock))
  | none => refuse s .badField
def execClearCreep (fp : Nat) (s : State) : Out := request (.clearCreep fp) (ownClearCreep fp) s

end Sys2Proof.Machine
end

