-- ==== Sys2Proof/Machine/SiteCommands.lean ====
section
/-!
DEFINITION. SITE_COMMAND (R188 to R195). The accepted reply carries the site record as it stands after the command.
-/
namespace Sys2Proof.Machine

/-- A site command accepted with this effect. -/
def siteAccept (s : State) : State × Answer := (s, .accepted (siteRecordBytes s))

/-- COMMISSION (R189): the mark is set and the site takes its landing state. -/
def ownCommission (s : State) : State × Answer :=
  if s.site.state ≠ .unconfigured then refuse s .badState
  else match s.commissionFault with
    | some r => refuse s r
    | none => siteAccept (settle (land (modSite (fun r => { r with commissioned := true }) s)))
def execCommission (s : State) : Out := request .commission ownCommission s

/-- DECOMMISSION (R190). -/
def ownDecommission (s : State) : State × Answer :=
  if s.site.state = .operating ∧ s.quiet ∧ s.compressorsStopped then
    siteAccept (settle (enterUnconfigured (modSite (fun r => { r with commissioned := false }) s)))
  else refuse s .badState
def execDecommission (s : State) : Out := request .decommission ownDecommission s

/-- OPEN and CLOSE (R190). -/
def ownForecourt (op : Bool) (s : State) : State × Answer :=
  if s.site.state = .operating then siteAccept (setSite .operating op s.site.cause s) else refuse s .badState
def execOpenForecourt (s : State) : Out := request .openForecourt (ownForecourt true) s
def execCloseForecourt (s : State) : Out := request .closeForecourt (ownForecourt false) s

/-- ENTER_MAINT (R191). -/
def ownEnterMaint (s : State) : State × Answer :=
  if s.site.state = .operating ∧ s.quiet ∧ s.compressorsAtRest then siteAccept (setSite .maintenance false s.site.cause s)
  else refuse s .badState
def execEnterMaint (s : State) : Out := request .enterMaint ownEnterMaint s

/-- LEAVE_MAINT (R191, R18). -/
def ownLeaveMaint (s : State) : State × Answer :=
  if s.site.state = .maintenance then siteAccept (settle (enterOperating s)) else refuse s .badState
def execLeaveMaint (s : State) : Out := request .leaveMaint ownLeaveMaint s

/-- SHUTDOWN, with cause HOST (R192). -/
def ownShutdown (s : State) : State × Answer :=
  match s.site.state with
  | .operating | .maintenance => siteAccept (settle (enterShutdown .host s))
  | .unconfigured | .shutdown | .powerdown => refuse s .badState
def execShutdownCommand (s : State) : Out := request .shutdownCommand ownShutdown s

/-- RESUME (R193). -/
def ownResume (s : State) : State × Answer :=
  match s.site.state with
  | .shutdown => if s.alarm.isNone then siteAccept (settle (enterOperating s)) else refuse s .badState
  | .powerdown => if s.inputAsserted .powerFail then refuse s .badState else siteAccept (settle (land s))
  | .unconfigured | .operating | .maintenance => refuse s .badState
def execResume (s : State) : Out := request .resume ownResume s

/-- SOFT_RESET (R195). -/
def ownSoftReset (s : State) : State × Answer := siteAccept (softResetAll s)
def execSoftReset (s : State) : Out := request .softReset ownSoftReset s

end Sys2Proof.Machine
end

