-- ==== Sys2Proof/Machine/UnitCommands.lean ====
section
/-!
DEFINITION. FP_COMMAND (R114), BANK_COMMAND (R44), COMPRESSOR_COMMAND (R59, R72), CHILLER_COMMAND (R82, R83) and VALVE_MODE
(R17).
-/
namespace Sys2Proof.Machine

/-! ### FP_COMMAND (R113 to R115) -/

/-- The checks common to the commands of R114. -/
def fpCommand (fp : Nat) (body : FpId → State → State × Answer) (s : State) : State × Answer :=
  match unitOf 4 fp with
  | some i => if (s.fp i).loaded then body i s else refuse s .notConfigured
  | none => refuse s .badField

def ownFpStart (i : FpId) (s : State) : State × Answer := if s.mayStart i then accept (startFill i s) else refuse s .badState
def execFpStart (fp : Nat) (s : State) : Out := request (.fpStart fp) (fpCommand fp ownFpStart) s

def ownFpStop (i : FpId) (s : State) : State × Answer :=
  if (s.fp i).fill.running then accept (endFill i .customerStop s) else refuse s .badState
def execFpStop (fp : Nat) (s : State) : Out := request (.fpStop fp) (fpCommand fp ownFpStop) s

def ownFpHold (i : FpId) (s : State) : State × Answer :=
  if (s.fp i).fill.running ∧ (s.fp i).hostHold = false then
    accept (holdsChanged i (s.levelHold i) (modFp i (fun f => { f with hostHold := true }) s))
  else refuse s .badState
def execFpHold (fp : Nat) (s : State) : Out := request (.fpHold fp) (fpCommand fp ownFpHold) s

def ownFpReleaseHold (i : FpId) (s : State) : State × Answer :=
  if (s.fp i).hostHold then
    accept (holdsChanged i (s.levelHold i) (modFp i (fun f => { f with hostHold := false }) s))
  else refuse s .badState
def execFpReleaseHold (fp : Nat) (s : State) : Out := request (.fpReleaseHold fp) (fpCommand fp ownFpReleaseHold) s

def ownFpClearFault (i : FpId) (s : State) : State × Answer :=
  if (s.fp i).fill = .fault ∧ s.nozzleCondition i = .holstered then
    accept (setFill i .idle (modFp i (fun f => { f with ventFail := false }) s))
  else refuse s .badState
def execFpClearFault (fp : Nat) (s : State) : Out := request (.fpClearFault fp) (fpCommand fp ownFpClearFault) s

def ownFpReset (i : FpId) (s : State) : State × Answer := accept (resetFp i s)
def execFpReset (fp : Nat) (s : State) : Out := request (.fpReset fp) (fpCommand fp ownFpReset) s

/-! ### BANK_COMMAND CLEAR_FAULT (R44) -/

def ownBankClearFault (b : Nat) (s : State) : State × Answer :=
  match unitOf 8 b with
  | some b =>
    if (s.bank b).protect ∧ (s.bank b).reload then accept (settle (clearBankFault b s)) else refuse s .badState
  | none => refuse s .badField
def execBankClearFault (b : Nat) (s : State) : Out := request (.bankClearFault b) (ownBankClearFault b) s

/-! ### COMPRESSOR_COMMAND (R59, R72) -/

def compCommand (k : Nat) (body : CompId → State → State × Answer) (s : State) : State × Answer :=
  match unitOf 2 k with
  | some k => body k s
  | none => refuse s .badField

def ownCompressorEnable (k : CompId) (s : State) : State × Answer :=
  match (s.comp k).state with
  | .disabled => if (s.comp k).loaded then accept (settle (enterOff k s)) else refuse s .notConfigured
  | .off | .startDeferred | .starting | .recirc | .filling | .stopping | .tripped => refuse s .badState
def execCompressorEnable (k : Nat) (s : State) : Out := request (.compressorEnable k) (compCommand k ownCompressorEnable) s

def ownCompressorDisable (k : CompId) (s : State) : State × Answer :=
  match (s.comp k).state with
  | .off | .startDeferred | .tripped => accept (settle (enterDisabled k s))
  | .starting | .recirc | .filling =>
    accept (settle (enterStopping k (modComp k (fun c => { c with disablePending := true }) s)))
  | .stopping => accept (modComp k (fun c => { c with disablePending := true }) s)
  | .disabled => refuse s .badState
def execCompressorDisable (k : Nat) (s : State) : Out := request (.compressorDisable k) (compCommand k ownCompressorDisable) s

/-- CLEAR_TRIP (R72). -/
def ownCompressorClearTrip (k : CompId) (s : State) : State × Answer :=
  let c := s.comp k
  if c.state = .tripped ∧ s.inputAsserted .compressorTrip k.val = false ∧ c.dischargeGood ∧
     c.discharge ≤ c.entry.dischargeLimit then
    accept (settle (enterOff k s))
  else refuse s .badState
def execCompressorClearTrip (k : Nat) (s : State) : Out :=
  request (.compressorClearTrip k) (compCommand k ownCompressorClearTrip) s

/-! ### CHILLER_COMMAND (R82, R83) -/

def ownChillerEnable (s : State) : State × Answer :=
  match s.pcm.chiller with
  | .disabled =>
    if s.pcm.loaded then accept (evalHead (evalChiller (setChiller .idle s))) else refuse s .notConfigured
  | .idle | .running | .tripped => refuse s .badState
def execChillerEnable (s : State) : Out := request .chillerEnable ownChillerEnable s

def ownChillerDisable (s : State) : State × Answer :=
  match s.pcm.chiller with
  | .idle | .tripped => accept (setChiller .disabled s)
  | .running => if s.outstandingSum = 0 then accept (setChiller .disabled s) else refuse s .badState
  | .disabled => refuse s .badState
def execChillerDisable (s : State) : Out := request .chillerDisable ownChillerDisable s

def ownChillerClearTrip (s : State) : State × Answer :=
  match s.pcm.chiller with
  | .tripped =>
    if s.inputAsserted .chillerTrip then refuse s .badState
    else accept (evalHead (evalChiller (setChiller .idle s)))
  | .disabled | .idle | .running => refuse s .badState
def execChillerClearTrip (s : State) : Out := request .chillerClearTrip ownChillerClearTrip s

/-! ### VALVE_MODE (R17) -/

def ownValveMode (line mode : Nat) (s : State) : State × Answer :=
  match unitOf 64 line, lineModeOf mode with
  | some o, some m =>
    if m = .forceOpen ∧ s.site.state ≠ .maintenance then refuse s .notPermitted
    else accept { s with lineModes := upd s.lineModes o m }
  | _, _ => refuse s .badField
def execValveMode (line mode : Nat) (s : State) : Out := request (.valveMode line mode) (ownValveMode line mode) s

end Sys2Proof.Machine
end

