-- ==== Sys2Proof/Machine/FieldInputs.lean ====
section
/-!
DEFINITION. The field side's events: samples, lines, vehicle frames, meter pulses, and the expiries of the Channel Unit's, the
receivers' and the meters' own times (R3, R5, R10, R143, R148, R165, R166).
-/
namespace Sys2Proof.Machine

def execSampleArrival (ch : ChanId) (raw : BitVec 16) (s : State) : Out := .next (settle (takeSample ch raw.toNat s))

def execStalenessExpiry (ch : ChanId) (s : State) : Out :=
  .next (if due (s.chan ch).staleTimer then settle (goStale ch s) else s)

def execRawLineChange (line : LineId) (level : Bool) (s : State) : Out := .next (rawChange line level s)

def execFilterExpiry (line : LineId) (s : State) : Out := .next (settle (filterDone line s))

def execVehicleFrame (fp : FpId) (frame : List Byte) (s : State) : Out := .next (takeFrame fp frame s)

/-- The loss timer expires in UP (R148). -/
def execLinkLossExpiry (fp : FpId) (s : State) : Out :=
  .next (if due (s.link fp).loss ∧ (s.link fp).state = .up then
    switchMode fp true (modLink fp (fun v => { v with state := .lost, loss := none }) s) else s)

/-- A mass update is handed to the sequencer and to PCM, each an event of its own (R165), then the flow update. -/
def massUpdate (i : FpId) (s : State) : State := flowUpdate i (inAnyOrder [presetTests i, coldUpdate i] s)

/-- The pulse's mass is placed (R165). -/
def placePulse (i : FpId) (s : State) : State :=
  let mg := (s.fp i).entry.mgPerPulse
  if (s.meter i).counts then massUpdate i (pulseToTxn i mg s) else pulseToCreep i mg s

/-- The pulse-rate test (R166). -/
def rateTest (i : FpId) (s : State) : State :=
  if (s.fp i).entry.maxPulseRate < (s.meter i).rate s.site.clock then endFill i .meterFail s else s

/-- A meter pulse (R165). -/
def execMeterPulse (fp : FpId) (s : State) : Out :=
  .next (if (s.fp fp).loaded then placePulse fp (rateTest fp (notePulse fp s)) else s)

/-- A pulse has reached the age of the flow window (R166). -/
def State.flowAged (s : State) (i : FpId) : Bool :=
  match (s.meter i).flow with
  | (t, _) :: _ => decide (Config.flowWindow ≤ age s.site.clock t)
  | [] => false

def execFlowAgeing (fp : FpId) (s : State) : Out :=
  .next (if s.flowAged fp then flowUpdate fp (modMeter fp (fun m => { m with flow := m.flow.drop 1 }) s) else s)

end Sys2Proof.Machine
end

