-- ==== Sys2Proof/Machine/TimerEvents.lean ====
section
/-!
DEFINITION. The expiries of the sequencers' timers, the boundaries of the ramp clock, the retained-store reports and the
calendar. An expiry acts where its timer's duration has elapsed, and changes nothing otherwise (notes/assumptions/3.md).
-/
namespace Sys2Proof.Machine

/-! ### Compressors (R62 to R69) -/

def execMinOffExpiry (k : CompId) (s : State) : Out :=
  .next (if due (s.comp k).minOff then settle (evalPermission k (modComp k (fun c => { c with minOff := none }) s)) else s)

/-- The oldest entry of the start history has reached its age (R63). -/
def State.historyAged (s : State) (k : CompId) : Bool :=
  match (s.comp k).history with
  | t :: _ => decide (Config.historyWindow ≤ age s.site.clock t)
  | [] => false

def execStartHistoryAgeing (k : CompId) (s : State) : Out :=
  .next (if s.historyAged k then
    settle (evalPermission k (modComp k (fun c => { c with history := c.history.drop 1 }) s)) else s)

/-- The start ends: RECIRC, the minimum run, the request of the target (R66). -/
def endStart (k : CompId) (s : State) : State :=
  let s1 := setCompState k .recirc (modComp k (fun c => { c with start := none, minRun := some c.entry.minRun }) s)
  match (s1.comp k).target with
  | some b => requestTarget 16 k b s1
  | none => becomeIdle k s1

def execStartTimerExpiry (k : CompId) (s : State) : Out :=
  .next (if due (s.comp k).start ∧ (s.comp k).state = .starting then settle (endStart k s) else s)

/-- The bank wait expires: withdraw, and the next choice excludes that bank (R66). -/
def csBankWaitEnd (k : CompId) (b : BankId) (s : State) : State :=
  seek k (some b) (setTarget k none (withdrawBank (csReq k) b (modComp k (fun c => { c with bankWait := none }) s)))

def execCsBankWaitExpiry (k : CompId) (s : State) : Out :=
  .next (match (s.comp k).target with
    | some b => if due (s.comp k).bankWait ∧ (s.comp k).state = .recirc then settle (csBankWaitEnd k b s) else s
    | none => s)

/-- The minimum run expires; an idle compressor stops (R68). -/
def execMinRunExpiry (k : CompId) (s : State) : Out :=
  .next (if due (s.comp k).minRun then
    let s1 := modComp k (fun c => { c with minRun := none }) s
    if (s.comp k).state = .recirc ∧ (s.comp k).target = none then settle (enterStopping k s1) else s1
  else s)

/-- The run-down ends: DISABLED where a disable is pending, OFF otherwise (R69). -/
def execRunDownExpiry (k : CompId) (s : State) : Out :=
  .next (if due (s.comp k).runDown ∧ (s.comp k).state = .stopping then
    settle (if (s.comp k).disablePending then enterDisabled k s else enterOff k s) else s)

/-! ### Waiting fills (R93, R100, R158) -/

/-- A member's wait limit expires: it leaves the list, its fill ends, and a new head is evaluated (R93, R101). -/
def waitEnd (i : FpId) (s : State) : State :=
  let s1 := endFill i .precoolTimeout (leaveWaitList i s)
  if s.isHead i then evalHead s1 else s1

def execWaitLimitExpiry (fp : FpId) (s : State) : Out :=
  .next (if due (s.reservation fp).waitTimer ∧ (s.reservation fp).state = .waiting then waitEnd fp s else s)

def execAuthExpired (fp : FpId) (s : State) : Out :=
  .next (if due (s.meter fp).auth.timer ∧ (s.meter fp).auth.state = .pending then
    post flagAuthExpired (cancelAuthorization fp s) else s)

/-- The mode is decided without a link (R100, R150). -/
def goWithoutLink (i : FpId) (s : State) : State :=
  leaveIfFree i (setFlags i (fun g => { g with noncomm := true }) (modLink i (fun v => { v with state := .lost })
    (modFp i (fun f => { f with mode := .nonCommunication, category := some f.entry.category }) s)))

def execLinkAcquisitionExpiry (fp : FpId) (s : State) : Out :=
  .next (if due (s.fp fp).acquisition ∧ (s.fp fp).fill = .linkWait then
    let s1 := modFp fp (fun f => { f with acquisition := none }) s
    if (s.fp fp).entry.commRequired then endFill fp .linkAbsent s1 else goWithoutLink fp s1
  else s)

/-! ### LEAK_CHECK (R103 to R105) -/

/-- The bank wait of a fill expires: withdraw, and the choice goes on from the next bank (R103, R138). -/
def fpsBankWaitEnd (i : FpId) (s : State) : State :=
  match (s.fp i).cascadePos with
  | some b => tryAfter i .bankTimeout (withdrawBank (fpReq i) b (unlink i s))
  | none => s

def execFpsBankWaitExpiry (fp : FpId) (s : State) : Out :=
  .next (if due (s.fp fp).bankWait ∧ (s.fp fp).link = .stacked ∧ ((s.fp fp).fill = .leakCheck ∨ (s.fp fp).fill = .filling) then
    fpsBankWaitEnd fp s else s)

/-- The leak pulse ends: P0 is taken and tested (R104). -/
def pulseEnd (i : FpId) (s : State) : State :=
  let p := (s.fp i).nozzle
  let s1 := modTxn i (fun t => { t with p0 := some p }) (modFp i (fun f => { f with leakPulse := none, p0 := some p }) s)
  if p < minStartOf s.site.params (s.fp i).entry.pressureClass then closeFill i .startPressure s1
  else if limitOf s.site.params (s.fp i).entry.pressureClass ≤ p then closeFill i .pressureLimit s1
  else modFp i (fun f => { f with leakHold := some s.site.params.leakHold }) s1

def execLeakPulseExpiry (fp : FpId) (s : State) : Out :=
  .next (if due (s.fp fp).leakPulse ∧ (s.fp fp).fill = .leakCheck then pulseEnd fp s else s)

def execLeakHoldExpiry (fp : FpId) (s : State) : Out :=
  .next (if due (s.fp fp).leakHold ∧ (s.fp fp).fill = .leakCheck then
    enterFilling fp (modFp fp (fun f => { f with leakHold := none }) s) else s)

/-- The maximum fill time ends a fill in LEAK_CHECK or FILLING (R107). -/
def execMaxFillTimeExpiry (fp : FpId) (s : State) : Out :=
  .next (if due (s.fp fp).maxFill ∧ ((s.fp fp).fill = .leakCheck ∨ (s.fp fp).fill = .filling) then
    endFill fp .timeLimit (modFp fp (fun f => { f with maxFill := none }) s) else s)

/-! ### SETTLING and VENTING (R111, R112) -/

/-- VENTING is entered, or passed at once where the nozzle already stands at the vent pressure (R111 step 4). -/
def enterVenting (i : FpId) (s : State) : State :=
  let s1 := setFill i .venting (modFp i (fun f => { f with vent := some s.site.params.ventTimeout }) s)
  if (s1.fp i).nozzle ≤ s.site.params.ventPressure then ventDone i s1 else s1

/-- The settle timer expires (R111). -/
def settleEnd (i : FpId) (s : State) : State :=
  let s1 := releaseReservation i (handOver i ((s.fp i).reason.getD .reset) false (modFp i (fun f => { f with settle := none }) s))
  if s.site.state = .shutdown then setFill i .fault s1 else enterVenting i s1

def execSettleExpiry (fp : FpId) (s : State) : Out :=
  .next (if due (s.fp fp).settle ∧ (s.fp fp).fill = .settling then settleEnd fp s else s)

/-- The vent has failed (R112). -/
def execVentTimeout (fp : FpId) (s : State) : Out :=
  .next (if due (s.fp fp).vent ∧ (s.fp fp).fill = .venting then
    setFill fp .fault (modFp fp (fun f => { f with vent := none, ventFail := true }) s) else s)

/-! ### FILLING (R127, R128, R131, R136) -/

/-- The segment counter has reached the segment length with the clock running (R123). A boundary that a stop of the clock has
overtaken is due at once when the clock runs again (DESIGN CHOICE, notes/assumptions/45.md). -/
def State.atBoundary (s : State) (i : FpId) : Bool :=
  s.clockRuns i && decide (s.site.params.segment ≤ (s.fp i).segment)

def execSegmentBoundary (fp : FpId) (s : State) : Out := .next (if s.atBoundary fp then boundary fp s else s)

/-- The watch opens once the clock has run its delay (R127). -/
def State.watchDue (s : State) (i : FpId) : Bool :=
  (s.fp i).fill == .filling && !(s.fp i).watchOpen && decide (Config.watchDelay ≤ (s.fp i).watchCount)

def execDowngradeWatchOpen (fp : FpId) (s : State) : Out :=
  .next (if s.watchDue fp then modFp fp (fun f => { f with watchOpen := true }) s else s)

def execDowngradeGraceExpiry (fp : FpId) (s : State) : Out :=
  .next (if due (s.fp fp).grace ∧ (s.fp fp).fill = .filling then
    downgrade fp (modFp fp (fun f => { f with grace := none }) s) else s)

def execLowFlowExpiry (fp : FpId) (s : State) : Out :=
  .next (if due (s.fp fp).lowFlow ∧ (s.fp fp).fill = .filling ∧ (s.fp fp).sub = some .flow then
    cascadeStep fp (modFp fp (fun f => { f with lowFlow := none }) s) else s)

/-! ### The retained store (R181, R182) -/

/-- A report acts on the write it names, while that write is in flight. -/
def execWriteComplete (id : Nat) (s : State) : Out :=
  .next (match s.cqr.write with
    | some w => if w.id = id then writeDone w s else s
    | none => s)

def execWriteError (id : Nat) (s : State) : Out :=
  .next (match s.cqr.write with
    | some w => if w.id = id then writeFailed w s else s
    | none => s)

def execWriteTimerExpiry (s : State) : Out :=
  .next (match s.cqr.write with
    | some w => if due w.timer then writeFailed w s else s
    | none => s)

/-! ### The calendar (R162, R198) -/

/-- One second of the calendar has been counted (R198). -/
def State.secondDue (s : State) : Bool := s.site.calendarSet && decide (Config.secondTicks ≤ s.site.secondCount)

def execCalendarTick (s : State) : Out :=
  .next (if s.secondDue then
    activatePrices (modSite (fun r => { r with calendar := min 4294967295 (r.calendar + 1), secondCount := 0 }) s) else s)

end Sys2Proof.Machine
end

