-- ==== Sys2Proof/Machine/LinkEvents.lean ====
section
/-!
DEFINITION. The Station Link Interface's receiver and dispatch (R199 to R203), and power-on reset (R196).
-/
namespace Sys2Proof.Machine

/-- The link error counter stops at 65,535 (R201). -/
def linkError (l : Sli) : Sli := { l with errors := min 65535 (l.errors + 1) }

/-- The header of a good frame: tag and unit are 0 where the payload holds none (R203, R204). `buf` is the frame from its
length field on. -/
def headerOf (buf : List Byte) (payload : List Byte) : Header :=
  if payload.length < 2 then { tag := 0, unit := 0, kind := buf.getD 2 0 }
  else { tag := payload.getD 0 0, unit := payload.getD 1 0, kind := buf.getD 2 0 }

/-- A good frame is dispatched (R202): refused by SLI with its reply formed at once, or handed to its owner, whose event
is still to come. -/
def dispatchFrame (buf : List Byte) (l : Sli) : Sli :=
  let payload := (buf.drop 3).take (num buf 0 2)
  let h := headerOf buf payload
  match decodeRequest h.kind.toNat payload with
  | .error r =>
    { l with rx := .held, heldRun := false, driving := false, answer := some (.refused r), reply := replyFrame h (.refused r) }
  | .ok c => { l with rx := .held, heldRun := false, driving := false, dispatched := some c, awaiting := some (h, c) }

/-- A byte of a frame in RECEIVE (R200): the length check, the frame check, or one more byte. -/
def receiveByte (b : Byte) (l : Sli) : Sli :=
  let buf := l.buffer ++ [b]
  if buf.length = 2 ∧ Config.maxPayload < num buf 0 2 then linkError { l with rx := .skip, buffer := [] }
  else if 3 ≤ buf.length ∧ buf.length = num buf 0 2 + 5 then
    if num buf (num buf 0 2 + 3) 2 = (crc16 (buf.take (num buf 0 2 + 3))).toNat then dispatchFrame buf { l with buffer := buf }
    else linkError { l with rx := .hunt, buffer := [] }
  else { l with buffer := buf }

/-- A received byte, by the receiver's state (R200, R201): while the reply is driven the receiver does not listen. -/
def takeByte (b : Byte) (l : Sli) : Sli :=
  match l.rx with
  | .hunt => if b = 0xA5#8 then { l with rx := .receive, buffer := [] } else l
  | .receive => receiveByte b l
  | .skip => l
  | .held => if l.driving || l.heldRun then l else linkError { l with heldRun := true }

/-- A gap of more than 5 ms (R200, R201): none is taken while the reply is driven. -/
def takeGap (l : Sli) : Sli :=
  match l.rx with
  | .hunt => l
  | .receive => linkError { l with rx := .hunt, buffer := [] }
  | .skip => { l with rx := .hunt }
  | .held => if l.driving then l else { l with heldRun := false }

/-- The last byte of the reply has been sent (R201). A reply not yet formed has not been sent. Where no idle step let the reply
begin, it went out whole before this report (notes/assumptions/8.md). -/
def replyDone (l : Sli) : Sli :=
  match l.rx, l.awaiting with
  | .held, none => { l with rx := if l.heldRun then .skip else .hunt, heldRun := false, driving := false, buffer := [] }
  | _, _ => l

def execLinkByteReceived (b : Byte) (s : State) : Out := .next (modSli (takeByte b) s)
def execLinkGap (s : State) : Out := .next (modSli takeGap s)
def execReplySent (s : State) : Out := .next (modSli replyDone s)

/-- Power-on reset (R196): every block at its reset values, each filtered level at its line's raw level, the retained image
read, `readError` saying that the memory reports an error. What the memory holds, the count of writes it has been sent,
the model's count of free choices and the queue of waiting commands pass through the reset. -/
def powerOn (levels : BitVec 32) (readError : Bool) (s : State) : State :=
  let c := freeChoiceOfStore s
  let q := s.cqr.restored readError c.1
  { State.reset with
    lines := Vector.ofFn (fun i => InLine.reset (levels.getLsbD i.val))
    cqr := q
    sli := { Sli.reset with summary := if q.lost then BitVec.twoPow 15 flagRetained else 0 }
    orderCount := c.2
    pending := s.pending }
where
  /-- The free value of the read, and the count after it. -/
  freeChoiceOfStore (s : State) : Nat × Nat := (Config.storeFinds s.orderCount, s.orderCount + 1)

def execPowerOnReset (levels : BitVec 32) (readError : Bool) (s : State) : Out := .next (powerOn levels readError s)

end Sys2Proof.Machine
end

