-- ==== Sys2Proof/Machine/Dispatch.lean ====
section
/-!
DEFINITION. One arm per command: the meaning of each row of spec/opcode_table.json.
-/
namespace Sys2Proof.Machine

def exec (i : Instr) (s : State) : Host.Outcome State Fault Refusal :=
  match i with
  | .readStatus => Sys2Proof.Machine.execReadStatus s
  | .readFp fp => Sys2Proof.Machine.execReadFp fp s
  | .readBanks => Sys2Proof.Machine.execReadBanks s
  | .readCompressor kk => Sys2Proof.Machine.execReadCompressor kk s
  | .readPrecool => Sys2Proof.Machine.execReadPrecool s
  | .readChannel ch => Sys2Proof.Machine.execReadChannel ch s
  | .readCompletion => Sys2Proof.Machine.execReadCompletion s
  | .removeCompletion number => Sys2Proof.Machine.execRemoveCompletion number s
  | .readTotals => Sys2Proof.Machine.execReadTotals s
  | .loadSite ff => Sys2Proof.Machine.execLoadSite ff s
  | .loadDensityRow row entries => Sys2Proof.Machine.execLoadDensityRow row entries s
  | .loadRampEntry ff => Sys2Proof.Machine.execLoadRampEntry ff s
  | .loadPrecool ff => Sys2Proof.Machine.execLoadPrecool ff s
  | .loadBank bb ff => Sys2Proof.Machine.execLoadBank bb ff s
  | .loadCompressor kk ff => Sys2Proof.Machine.execLoadCompressor kk ff s
  | .loadFp fp ff => Sys2Proof.Machine.execLoadFp fp ff s
  | .loadChannel ch ff => Sys2Proof.Machine.execLoadChannel ch ff s
  | .loadInput line ff => Sys2Proof.Machine.execLoadInput line ff s
  | .loadValveMap pairs => Sys2Proof.Machine.execLoadValveMap pairs s
  | .loadEventOutput line condition index polarity => Sys2Proof.Machine.execLoadEventOutput line condition index polarity s
  | .setPrice pressureClass price time => Sys2Proof.Machine.execSetPrice pressureClass price time s
  | .setTime value => Sys2Proof.Machine.execSetTime value s
  | .commission => Sys2Proof.Machine.execCommission s
  | .decommission => Sys2Proof.Machine.execDecommission s
  | .openForecourt => Sys2Proof.Machine.execOpenForecourt s
  | .closeForecourt => Sys2Proof.Machine.execCloseForecourt s
  | .enterMaint => Sys2Proof.Machine.execEnterMaint s
  | .leaveMaint => Sys2Proof.Machine.execLeaveMaint s
  | .shutdownCommand => Sys2Proof.Machine.execShutdownCommand s
  | .resume => Sys2Proof.Machine.execResume s
  | .softReset => Sys2Proof.Machine.execSoftReset s
  | .authorize fp kind value socPresence socTarget => Sys2Proof.Machine.execAuthorize fp kind value socPresence socTarget s
  | .cancelAuth fp => Sys2Proof.Machine.execCancelAuth fp s
  | .fpStart fp => Sys2Proof.Machine.execFpStart fp s
  | .fpStop fp => Sys2Proof.Machine.execFpStop fp s
  | .fpHold fp => Sys2Proof.Machine.execFpHold fp s
  | .fpReleaseHold fp => Sys2Proof.Machine.execFpReleaseHold fp s
  | .fpClearFault fp => Sys2Proof.Machine.execFpClearFault fp s
  | .fpReset fp => Sys2Proof.Machine.execFpReset fp s
  | .bankClearFault bb => Sys2Proof.Machine.execBankClearFault bb s
  | .compressorEnable kk => Sys2Proof.Machine.execCompressorEnable kk s
  | .compressorDisable kk => Sys2Proof.Machine.execCompressorDisable kk s
  | .compressorClearTrip kk => Sys2Proof.Machine.execCompressorClearTrip kk s
  | .chillerEnable => Sys2Proof.Machine.execChillerEnable s
  | .chillerDisable => Sys2Proof.Machine.execChillerDisable s
  | .chillerClearTrip => Sys2Proof.Machine.execChillerClearTrip s
  | .valveMode line mode => Sys2Proof.Machine.execValveMode line mode s
  | .clearCreep fp => Sys2Proof.Machine.execClearCreep fp s
  | .linkByteReceived bb => Sys2Proof.Machine.execLinkByteReceived bb s
  | .linkGap => Sys2Proof.Machine.execLinkGap s
  | .replySent => Sys2Proof.Machine.execReplySent s
  | .powerOnReset levels readError => Sys2Proof.Machine.execPowerOnReset levels readError s
  | .sampleArrival ch raw => Sys2Proof.Machine.execSampleArrival ch raw s
  | .stalenessExpiry ch => Sys2Proof.Machine.execStalenessExpiry ch s
  | .rawLineChange line level => Sys2Proof.Machine.execRawLineChange line level s
  | .filterExpiry line => Sys2Proof.Machine.execFilterExpiry line s
  | .minOffExpiry kk => Sys2Proof.Machine.execMinOffExpiry kk s
  | .startHistoryAgeing kk => Sys2Proof.Machine.execStartHistoryAgeing kk s
  | .startTimerExpiry kk => Sys2Proof.Machine.execStartTimerExpiry kk s
  | .csBankWaitExpiry kk => Sys2Proof.Machine.execCsBankWaitExpiry kk s
  | .minRunExpiry kk => Sys2Proof.Machine.execMinRunExpiry kk s
  | .runDownExpiry kk => Sys2Proof.Machine.execRunDownExpiry kk s
  | .waitLimitExpiry fp => Sys2Proof.Machine.execWaitLimitExpiry fp s
  | .authExpired fp => Sys2Proof.Machine.execAuthExpired fp s
  | .linkAcquisitionExpiry fp => Sys2Proof.Machine.execLinkAcquisitionExpiry fp s
  | .fpsBankWaitExpiry fp => Sys2Proof.Machine.execFpsBankWaitExpiry fp s
  | .leakPulseExpiry fp => Sys2Proof.Machine.execLeakPulseExpiry fp s
  | .leakHoldExpiry fp => Sys2Proof.Machine.execLeakHoldExpiry fp s
  | .maxFillTimeExpiry fp => Sys2Proof.Machine.execMaxFillTimeExpiry fp s
  | .settleExpiry fp => Sys2Proof.Machine.execSettleExpiry fp s
  | .ventTimeout fp => Sys2Proof.Machine.execVentTimeout fp s
  | .segmentBoundary fp => Sys2Proof.Machine.execSegmentBoundary fp s
  | .downgradeWatchOpen fp => Sys2Proof.Machine.execDowngradeWatchOpen fp s
  | .downgradeGraceExpiry fp => Sys2Proof.Machine.execDowngradeGraceExpiry fp s
  | .lowFlowExpiry fp => Sys2Proof.Machine.execLowFlowExpiry fp s
  | .vehicleFrame fp frame => Sys2Proof.Machine.execVehicleFrame fp frame s
  | .linkLossExpiry fp => Sys2Proof.Machine.execLinkLossExpiry fp s
  | .meterPulse fp => Sys2Proof.Machine.execMeterPulse fp s
  | .flowAgeing fp => Sys2Proof.Machine.execFlowAgeing fp s
  | .writeComplete id => Sys2Proof.Machine.execWriteComplete id s
  | .writeError id => Sys2Proof.Machine.execWriteError id s
  | .writeTimerExpiry => Sys2Proof.Machine.execWriteTimerExpiry s
  | .calendarTick => Sys2Proof.Machine.execCalendarTick s

end Sys2Proof.Machine
end

