-- ==== Sys2Proof/Machine/Step.lean ====
section
/-!
DEFINITION. The step of the part: it takes the command at the front of its queue; with an empty queue it puts there one of the
events whose time has come, lets a formed reply begin, or lets one tenth of a second pass (notes/assumptions/3.md).
-/
namespace Sys2Proof.Machine

/-- A command for each `a` that satisfies `p`. -/
def dueOf {α : Type} (l : List α) (p : α → Bool) (c : α → Instr) : List Instr := (l.filter p).map c

/-- The commands whose time has come: expired timers, boundaries, ageings, the calendar, and a request dispatched by SLI
that its owner has not taken yet. -/
def State.dueCommands (s : State) : List Instr :=
  s.sli.dispatched.toList ++
  dueOf allChans (fun i => due (s.chan i).staleTimer) .stalenessExpiry ++
  dueOf allComps (fun k => due (s.comp k).minOff) .minOffExpiry ++
  dueOf allComps s.historyAged .startHistoryAgeing ++
  dueOf allComps (fun k => due (s.comp k).start) .startTimerExpiry ++
  dueOf allComps (fun k => due (s.comp k).bankWait) .csBankWaitExpiry ++
  dueOf allComps (fun k => due (s.comp k).minRun) .minRunExpiry ++
  dueOf allComps (fun k => due (s.comp k).runDown) .runDownExpiry ++
  dueOf allFps (fun i => due (s.reservation i).waitTimer) .waitLimitExpiry ++
  dueOf allFps (fun i => due (s.meter i).auth.timer) .authExpired ++
  dueOf allFps (fun i => due (s.fp i).acquisition) .linkAcquisitionExpiry ++
  dueOf allFps (fun i => due (s.fp i).bankWait) .fpsBankWaitExpiry ++
  dueOf allFps (fun i => due (s.fp i).leakPulse) .leakPulseExpiry ++
  dueOf allFps (fun i => due (s.fp i).leakHold) .leakHoldExpiry ++
  dueOf allFps (fun i => due (s.fp i).maxFill) .maxFillTimeExpiry ++
  dueOf allFps (fun i => due (s.fp i).settle) .settleExpiry ++
  dueOf allFps (fun i => due (s.fp i).vent) .ventTimeout ++
  dueOf allFps s.atBoundary .segmentBoundary ++
  dueOf allFps s.watchDue .downgradeWatchOpen ++
  dueOf allFps (fun i => due (s.fp i).grace) .downgradeGraceExpiry ++
  dueOf allFps (fun i => due (s.fp i).lowFlow) .lowFlowExpiry ++
  dueOf allFps (fun i => due (s.link i).loss) .linkLossExpiry ++
  dueOf allFps s.flowAged .flowAgeing ++
  (match s.cqr.write with
   | some w => if due w.timer then [.writeTimerExpiry] else []
   | none => []) ++
  (if s.secondDue then [.calendarTick] else [])

/-- The timers of each block one tenth of a second on. -/
def Channel.tick (c : Channel) : Channel := { c with staleTimer := tickTimer c.staleTimer }
def Compressor.tick (c : Compressor) : Compressor :=
  { c with minOff := tickTimer c.minOff, start := tickTimer c.start, minRun := tickTimer c.minRun,
           bankWait := tickTimer c.bankWait, runDown := tickTimer c.runDown }
def Reservation.tick (r : Reservation) : Reservation := { r with waitTimer := tickTimer r.waitTimer }
def Vlr.tick (v : Vlr) : Vlr := { v with loss := tickTimer v.loss }
/-- A pulse leaves the pulse-rate count as it reaches the age of the window (R166). -/
def Meter.tick (now : Clock) (m : Meter) : Meter :=
  { m with auth := { m.auth with timer := tickTimer m.auth.timer }
           pulses := m.pulses.filter (fun t => decide (age now t < Config.flowWindow)) }
/-- A fuelling point's timers, and, where its ramp clock runs, the clock, the segment and the watch count (R123, R127). The
segment counter stands at the segment length until its boundary is taken (DESIGN CHOICE, notes/assumptions/45.md). -/
def Fps.tick (runs : Bool) (segLen : Nat) (f : Fps) : Fps :=
  let g := { f with acquisition := tickTimer f.acquisition, bankWait := tickTimer f.bankWait,
                    leakPulse := tickTimer f.leakPulse, leakHold := tickTimer f.leakHold, maxFill := tickTimer f.maxFill,
                    settle := tickTimer f.settle, vent := tickTimer f.vent, grace := tickTimer f.grace,
                    lowFlow := tickTimer f.lowFlow }
  if runs then { g with clock := f.clock + 1, segment := min segLen (f.segment + 1), watchCount := f.watchCount + 1 } else g

/-- One tenth of a second passes: the site clock, every timer, the ramp clocks that run, the pulse-rate counts, the one-second
count (R123, R127, R166, R197, R198). -/
def tick (s : State) : State :=
  { s with
    chans := s.chans.map Channel.tick
    cs := s.cs.map Compressor.tick
    pcm := { s.pcm with records := s.pcm.records.map Reservation.tick }
    fps := Vector.ofFn (fun i => (s.fp i).tick (s.clockRuns i) s.site.params.segment)
    vlr := s.vlr.map Vlr.tick
    mtu := s.mtu.map (Meter.tick (s.site.clock + 1))
    cqr := { s.cqr with write := s.cqr.write.map (fun w => { w with timer := tickTimer w.timer }) }
    site := { s.site with clock := s.site.clock + 1,
                          secondCount := if s.site.calendarSet then s.site.secondCount + 1 else s.site.secondCount } }

/-- The reply to the request held is formed and its first byte has not gone out (R201, R203). -/
def Sli.replyReady (l : Sli) : Bool := decide (l.rx = .held) && l.awaiting.isNone && !l.driving

/-- With no command waiting: one of the events whose time has come joins the queue, which one being left free; where there
is none, a formed reply begins to go out, which takes no time (notes/assumptions/8.md); else time passes. A dispatched request
leaves SLI's hand as it joins. -/
def idle (s : State) : State :=
  match s.dueCommands with
  | [] => if s.sli.replyReady then modSli (fun l => { l with driving := true }) s else tick s
  | c :: rest =>
    let f := freeChoice (rest.length + 1) s
    let c' := (c :: rest)[f.1]?.getD c
    modSli (fun l => { l with dispatched := if l.dispatched = some c' then none else l.dispatched }) { f.2 with pending := [c'] }

/-- The step: the command at the front of the queue, on the state with the queue's rest; or an idle step. -/
def step (s : State) : Host.Outcome State Fault Refusal :=
  match s.pending with
  | c :: rest => exec c { s with pending := rest }
  | [] => .next (idle s)

/-- The command a word of the table spells is put at the front of the queue. -/
def State.withFetchWord (s : State) (nbits w : Nat) : State :=
  match Sys2Proof.decodeTableWord nbits w with
  | some c => { s with pending := c :: s.pending }
  | none => s

end Sys2Proof.Machine
end

