-- ==== Sys2Proof/Safety.lean ====
section
/-!
DEFINITION. The terms in which claims about the part are made: what a request leaves unchanged apart from its answer, the
tables that only the host's loads change, and the invariants of the arbiter (R50), the completion queue (R176), the wait
list (R93), the site record (R186, R17, R198) and the channels (R4, R5); the ends of fills, the halted part, deliveries and falls.
-/
namespace Sys2Proof.Machine

/-! ### Apart from the answer -/

/-- The state without what SLI keeps of the answer to a request: the answer, the header that waits for its reply, the reply
buffer. -/
def State.unanswered (s : State) : State :=
  { s with sli := { s.sli with answer := none, awaiting := none, reply := [] } }

/-- The command completes with this answer, and apart from the answer the part then stands as in `u`. -/
def Answers (c : Instr) (s : State) (a : Answer) (u : State) : Prop :=
  ∃ t, exec c s = .next t ∧ t.sli.answer = some a ∧ t.unanswered = u.unanswered

/-- The command is refused with this reason, and changes nothing (R202). -/
def Refuses (c : Instr) (s : State) (r : RefusalCode) : Prop := Answers c s (.refused r) s

/-- The site takes configuration loads: it is UNCONFIGURED or in MAINTENANCE (R1, R9, R15, R20, R22, R56, R76, R95, R120,
R187). -/
def State.TakesLoads (s : State) : Prop := s.site.state = .unconfigured ∨ s.site.state = .maintenance

/-! ### The loaded tables -/

/-- A channel's entry, its live state blanked (1.1.1). -/
def Channel.entryOnly (c : Channel) : Channel :=
  { c with value := 0, status := .stale, failCount := 0, staleTimer := none, lastSample := 0 }

/-- A line's entry, its levels blanked (1.2.1). -/
def InLine.entryOnly (l : InLine) : InLine := { l with raw := false, filtered := false, filterRunning := false }

/-- Every table and entry that the host loads, with its loaded marks. -/
structure Tables where
  channels : Vector Channel 48
  lines : Vector InLine 32
  roleMap : Vector (Option (Fin 64)) 58
  events : Vector EventEntry 8
  density : Vector DensityRow 17
  ramp : Vector RampRow 120
  banks : Vector BankEntry 8
  compressors : Vector (CompressorFields × Bool) 2
  fps : Vector (FpEntry × Bool) 4
  precool : PrecoolFields × Bool
  params : SiteFields × Bool
  deriving DecidableEq, Repr

def State.tables (s : State) : Tables :=
  { channels := s.chans.map Channel.entryOnly, lines := s.lines.map InLine.entryOnly, roleMap := s.roleMap,
    events := s.events, density := s.density, ramp := s.ramp, banks := s.banks.map (·.entry),
    compressors := s.cs.map (fun c => (c.entry, c.loaded)), fps := s.fps.map (fun f => (f.entry, f.loaded)),
    precool := (s.pcm.entry, s.pcm.loaded), params := (s.site.params, s.site.paramsLoaded) }

/-- The command is one that loads a table, or power-on reset. -/
def Loads : Instr → Bool
  | .loadSite _ | .loadDensityRow _ _ | .loadRampEntry _ | .loadPrecool _ | .loadBank _ _ | .loadCompressor _ _
  | .loadFp _ _ | .loadChannel _ _ | .loadInput _ _ | .loadValveMap _ | .loadEventOutput _ _ _ _ | .powerOnReset _ _ => true
  | _ => false

/-! ### What the running of the blocks leaves alone -/

/-- What only the host's loads, the site controller, the lines, CHU and SLI move: every table and entry, the channels and lines
with their live state, the prices, the site record with its clocks, the commands that wait, and SLI but for its summary. -/
structure Fixed where
  chans : Vector Channel 48
  lines : Vector InLine 32
  roleMap : Vector (Option (Fin 64)) 58
  lineModes : Vector LineMode 64
  events : Vector EventEntry 8
  density : Vector DensityRow 17
  ramp : Vector RampRow 120
  prices : Vector Price 2
  site : Site
  pending : List Instr
  banks : Vector BankEntry 8
  compressors : Vector (CompressorFields × Bool) 2
  fps : Vector (FpEntry × Bool) 4
  precool : PrecoolFields × Bool
  sli : Sli

def State.fixed (s : State) : Fixed :=
  { chans := s.chans, lines := s.lines, roleMap := s.roleMap, lineModes := s.lineModes, events := s.events,
    density := s.density, ramp := s.ramp, prices := s.prices, site := s.site, pending := s.pending,
    banks := s.banks.map (·.entry), compressors := s.cs.map (fun c => (c.entry, c.loaded)),
    fps := s.fps.map (fun f => (f.entry, f.loaded)), precool := (s.pcm.entry, s.pcm.loaded),
    sli := { s.sli with summary := 0 } }

/-! ### The end of a fill -/

/-- From `s` to `t` the fill of `i` in LEAK_CHECK or FILLING was closed with reason `r` (R106, R108, R110, R152, R153): it
settles, its timers, host hold and draw list are closed, its bank is let go, its receiver is idle, and PCM, CQR and every
table, bank and site figure are as they were. -/
structure State.ClosedBy (s t : State) (i : FpId) (r : Reason) : Prop where
  settling : (t.fp i).fill = .settling
  reason : (t.fp i).reason = some r
  settle : (t.fp i).settle = some s.site.params.settleWindow
  timers : (t.fp i).maxFill = none ∧ (t.fp i).leakPulse = none ∧ (t.fp i).leakHold = none ∧ (t.fp i).bankWait = none ∧
    (t.fp i).grace = none ∧ (t.fp i).lowFlow = none
  hold : (t.fp i).hostHold = false
  bank : (t.fp i).link = .unlinked ∧ ∀ b, (s.fp i).cascadePos = some b → t.holderOf b ≠ some (fpReq i)
  receiver : (t.link i).state = .idle
  draw : ∀ x, (t.meter i).txn = some x → ∀ e ∈ x.draw, e.closeP ≠ none
  soc : (s.fp i).mode = .communication → ∀ x, (t.meter i).txn = some x → x.finalSoc = (s.fp i).presentSoc
  rest : t.fixed = s.fixed ∧ t.banks = s.banks ∧ t.refill = s.refill ∧ t.cqr = s.cqr ∧ t.pcm = s.pcm

/-- From `s` to `t` the fill of `i` in LINK_WAIT or PRECOOL_WAIT was ended with reason `r` (R108, R109, R113, R168, R174): its
record is loaded, its authorization is gone, it stands in no wait list, and it is COMPLETE, IDLE where the nozzle is already
HOLSTERED, or in FAULT. -/
structure State.EndedEarly (s t : State) (i : FpId) (r : Reason) : Prop where
  state : (t.fp i).fill =
    if r.normal then (if s.nozzleCondition i = .holstered then .idle else .complete) else .fault
  reason : (t.fp i).reason = some r
  timers : (t.fp i).acquisition = none
  hold : (t.fp i).hostHold = false
  receiver : (t.link i).state = .idle
  waits : i ∉ t.pcm.waitList
  record : ∀ x, (s.meter i).txn = some x → (t.meter i).auth = Auth.empty ∧ ∃ q : Record,
    t.cqr.queue = s.cqr.queue ++ [q] ∧ q.number = s.cqr.nextNumber ∧ q.fp = i ∧ q.reason = r ∧ q.price = x.price ∧
      q.mass = x.mass ∧ q.amount = amountOf x.mass x.price ∧ q.endTime = s.site.calendar ∧
      ((s.fp i).mode = .communication → q.finalSoc = (s.fp i).presentSoc)
  rest : t.fixed = s.fixed ∧ t.banks = s.banks ∧ t.refill = s.refill

/-- Bank `x` qualifies for the fill of `i`: usable for draw, its pressure at least the step differential above the nozzle's, and in
FILLING above its floor (R102, R137). -/
def State.Serves (s : State) (i : FpId) (x : BankId) : Prop :=
  (s.bank x).usableDraw = true ∧ (s.fp i).nozzle + s.site.params.stepDiff ≤ (s.bank x).pressure ∧
    ((s.fp i).fill = .filling → (s.bank x).entry.floor < (s.bank x).pressure)

/-- From `s` to `t` the fill of `i` lets go of bank `b` and goes on to the first later bank of its cascade list
that qualifies, which it takes where it is free and waits for where it is not; with none it ends with reason `why` (R102,
R103, R137, R138). -/
structure State.GoesOn (s t : State) (i : FpId) (b : BankId) (why : Reason) : Prop where
  letsGo : t.holderOf b ≠ some (fpReq i) ∧ fpReq i ∉ t.stackedAt b
  ends : (∀ x ∈ afterBank b (s.fp i).entry.cascade, ¬ s.Serves i x) → s.ClosedBy t i why
  finds : ∀ before x later, afterBank b (s.fp i).entry.cascade = before ++ x :: later → (∀ y ∈ before, ¬ s.Serves i y) →
    s.Serves i x → (t.fp i).fill = (s.fp i).fill ∧ (t.fp i).cascadePos = some x ∧
      (s.holderOf x = none → s.stackedAt x = [] → t.holderOf x = some (fpReq i) ∧ (t.fp i).link = .granted ∧
        (t.fp i).bankWait = none) ∧
      (s.holderOf x ≠ none ∨ s.stackedAt x ≠ [] → fpReq i ∈ t.stackedAt x ∧ (t.fp i).link = .stacked ∧
        (t.fp i).bankWait = some s.site.params.bankWait)

/-! ### The halted part -/

/-- The part stands halted (R17, R55, R73, R84, R93, R160): every valve line closed, no grant, no request, nobody waiting for
cold, no compressor and no chiller running, no authorization PENDING. -/
structure State.Halted (t : State) : Prop where
  valves : ∀ o, t.drive o = .drivenClosed
  banks : ∀ b, t.holderOf b = none ∧ t.stackedAt b = []
  waits : t.pcm.waitList = []
  chiller : t.pcm.chiller ≠ .running
  compressors : ∀ k, (t.comp k).state = .off ∨ (t.comp k).state = .startDeferred ∨ (t.comp k).state = .disabled ∨
    (t.comp k).state = .tripped
  sales : ∀ i, (t.meter i).auth.state ≠ .pending

/-- From `s` to `t` the part was shut down (R116, R192): it stands halted, and every running fill ends with ESD. -/
structure State.ShutDown (s t : State) : Prop where
  halted : t.Halted
  closed : ∀ i, (s.fp i).fill = .leakCheck ∨ (s.fp i).fill = .filling →
    (t.fp i).fill = .settling ∧ (t.fp i).reason = some .esd
  ended : ∀ i, (s.fp i).fill = .linkWait ∨ (s.fp i).fill = .precoolWait → (t.fp i).fill = .fault ∧ (t.fp i).reason = some .esd
  venting : ∀ i, (s.fp i).fill = .venting → (t.fp i).fill = .fault
  rest : ∀ i, (s.fp i).fill = .idle ∨ (s.fp i).fill = .settling ∨ (s.fp i).fill = .complete ∨ (s.fp i).fill = .fault →
    (t.fp i).fill = (s.fp i).fill

/-- From `s` to `t` the part lost its supply (R117, R160, R183, R194): it stands halted, every fill that runs or settles is in FAULT
with its record loaded and POWER_SAVED set, its reason POWER_FAIL or the one it had taken, and a change of the retained image
is marked. -/
structure State.PoweredDown (s t : State) : Prop where
  halted : t.Halted
  ended : ∀ i, (s.fp i).fill.running = true → (t.fp i).fill = .fault ∧ (t.fp i).reason = some .powerFail
  settled : ∀ i, (s.fp i).fill = .settling → (t.fp i).fill = .fault ∧ (t.fp i).reason = (s.fp i).reason
  venting : ∀ i, (s.fp i).fill = .venting → (t.fp i).fill = .fault ∧ (t.fp i).vent = none
  rest : ∀ i, (s.fp i).fill = .idle ∨ (s.fp i).fill = .complete ∨ (s.fp i).fill = .fault → (t.fp i).fill = (s.fp i).fill
  saved : ∀ i x, (s.fp i).fill.running = true ∨ (s.fp i).fill = .settling → (s.meter i).txn = some x →
    (t.meter i).auth = Auth.empty ∧ (t.meter i).window = false ∧ (t.reservation i).state = .noRecord ∧
    ∃ q ∈ t.cqr.queue, q.fp = i ∧ q.flags.powerSaved = true ∧ q.price = x.price ∧ q.mass = x.mass ∧
      q.amount = amountOf x.mass x.price ∧ (∀ e ∈ q.draw, e.closeP ≠ none) ∧
      ((s.fp i).fill.running = true → q.reason = .powerFail) ∧
      (∀ r, (s.fp i).fill = .settling → (s.fp i).reason = some r → q.reason = r)
  kept : ∃ l, t.cqr.queue = s.cqr.queue ++ l
  marked : t.cqr.write ≠ none ∧ (s.cqr.write ≠ none → t.cqr.write = s.cqr.write ∧ t.cqr.pendingChange = true)

/-! ### Deliveries and falls (R3 to R6) -/

/-- The command `c` brings channel `ch`, bound to `bd`, a plausible sample of the value `v`, after which the channel is `x`. -/
structure State.Delivers (s : State) (ch : ChanId) (bd : Binding) (c : Instr) (v : Nat) (x : Channel) : Prop where
  sample : ∃ raw, c = .sampleArrival ch raw ∧ v = (s.chan ch).scaled raw.toNat
  binding : (s.chan ch).binding = bd
  plausible : (s.chan ch).plausible v = true
  channel : x = { s.chan ch with value := v, status := .good, failCount := 0, staleTimer := some 10, lastSample := s.site.clock }

/-- The command `c` makes the quantity `bd` of the GOOD channel `ch` HELD, after which the channel is `x`: its staleness timer has
run out, or the third implausible sample in a row arrives. -/
structure State.FallsHeld (s : State) (ch : ChanId) (bd : Binding) (c : Instr) (x : Channel) : Prop where
  binding : (s.chan ch).binding = bd
  good : (s.chan ch).status = .good
  fall : (c = .stalenessExpiry ch ∧ (s.chan ch).staleTimer = some 0 ∧
      x = { s.chan ch with status := .stale, staleTimer := none }) ∨
    ∃ raw, c = .sampleArrival ch raw ∧ (s.chan ch).plausible ((s.chan ch).scaled raw.toNat) = false ∧
      2 ≤ (s.chan ch).failCount ∧
      x = { s.chan ch with status := .failed, failCount := 3, staleTimer := some 10, lastSample := s.site.clock }

/-- The channel and its fall are noted: CHANNEL_FAIL is posted (R7). -/
def State.fallen (s : State) (ch : ChanId) (x : Channel) : State :=
  { s with chans := upd s.chans ch x, sli := { s.sli with summary := s.sli.summary ||| BitVec.twoPow 15 11 } }

/-! ### Invariants -/

/-- A bank has at most one holder, a requester holds at most one bank, stands in at most one stacked set and in it once,
and a holder stands in none (R50). -/
structure State.ArbiterOk (s : State) : Prop where
  oneGrant : ∀ r b c, s.holderOf b = some r → s.holderOf c = some r → b = c
  noHolderWaits : ∀ r b c, s.holderOf b = some r → r ∉ s.stackedAt c
  oneSet : ∀ r b c, r ∈ s.stackedAt b → r ∈ s.stackedAt c → b = c
  once : ∀ b, (s.stackedAt b).Nodup

/-- The records of the queue carry consecutive numbers from head to tail, and the next record number is one past the
tail's (R176). -/
def State.QueueOk (s : State) : Prop := consecutive s.cqr.queue s.cqr.nextNumber = true

/-- The wait list holds each fuelling point at most once, and those whose record is WAITING and no other (R86, R90, R93). -/
structure State.WaitOk (s : State) : Prop where
  once : s.pcm.waitList.Nodup
  members : ∀ i, i ∈ s.pcm.waitList ↔ (s.reservation i).state = .waiting

/-- Every transaction's draw list, and every queued record's, sums to its mass (R163, R175). -/
structure State.SumsOk (s : State) : Prop where
  txns : ∀ i t, (s.meter i).txn = some t → drawSum t.draw = t.mass
  records : ∀ r ∈ s.cqr.queue, drawSum r.draw = r.mass

/-- The site record and the line modes agree with the site state (R17, R18, R186, R198). -/
structure State.SiteOk (s : State) : Prop where
  forecourt : s.site.forecourtOpen = true → s.site.state = .operating
  commissioned : s.site.state = .unconfigured ↔ s.site.commissioned = false
  cause : s.site.cause ≠ .noCause → s.site.state = .shutdown ∨ s.site.state = .powerdown
  shutdown : s.site.state = .shutdown → s.site.cause ≠ .noCause
  forced : ∀ o, sel s.lineModes o = .forceOpen → s.site.state = .maintenance
  calendar : s.site.calendarSet = false → s.site.calendar = 0

/-- A channel's failure count stays within 3, a FAILED channel's stands at 3, a GOOD one's below 3, and an UNUSED channel has
no staleness timer and is STALE (R2, R4, R5, R8). -/
structure Channel.Ok (c : Channel) : Prop where
  count : c.failCount ≤ 3
  failed : c.status = .failed → c.failCount = 3
  good : c.status = .good → c.failCount < 3
  unused : c.binding = .unused → c.status = .stale ∧ c.staleTimer = none

def State.ChannelsOk (s : State) : Prop := ∀ i, (s.chan i).Ok

end Sys2Proof.Machine
end

