-- ==== Sys2Proof/WellFormed.lean ====
section
/-!
DEFINITION. Well-formed commands: every field of a host request fits the size at which R205 carries it on the link, and a
list has the length its request carries. A command that is not well formed cannot come off the link.
-/
namespace Sys2Proof

/-- The number fits `n` bytes (R205). -/
def fitsBytes (n : Nat) (x : Nat) : Bool := x < 256 ^ n

def SiteFields.wf (f : SiteFields) : Bool :=
  [f.limitH70, f.limitH35, f.minStartH70, f.minStartH35, f.upperBand, f.overshootBand, f.stepDiff, f.plausMargin,
    f.leakLimit, f.ventPressure, f.supplyMin].all (fitsBytes 4) &&
  [f.fullH70, f.fullH35, f.segment, f.stepFlow, f.stepDwell, f.bankWait, f.linkAcquisition, f.linkLoss, f.leakPulse,
    f.leakHold, f.settleWindow, f.ventTimeout].all (fitsBytes 2)

def RampFields.wf (f : RampFields) : Bool :=
  [f.precoolClass, f.pressureClass, f.band, f.category].all (fitsBytes 1) && fitsBytes 2 f.rate && fitsBytes 4 f.endPressure

def ClassFields.wf (f : ClassFields) : Bool := [f.ceiling, f.q, f.window, f.grace].all (fitsBytes 2)

def PrecoolFields.wf (f : PrecoolFields) : Bool :=
  [f.cs, f.setpoint, f.differential, f.waitLimit].all (fitsBytes 2) && f.t40.wf && f.t30.wf && f.t20.wf

def BankFields.wf (f : BankFields) : Bool :=
  [f.valid, f.drawPermit, f.fillPermit, f.priority].all (fitsBytes 1) && fitsBytes 2 f.volume &&
  [f.rated, f.floor, f.refillOn, f.refillOff].all (fitsBytes 4)

def CompressorFields.wf (f : CompressorFields) : Bool :=
  fitsBytes 4 f.maxDischarge && [f.startTime, f.runDown, f.minRun, f.minOff, f.dischargeLimit].all (fitsBytes 2) &&
  [f.startLimit, f.priority].all (fitsBytes 1)

def FpFields.wf (f : FpFields) : Bool :=
  [f.pressureClass, f.allowed, f.category, f.commRequired, f.autoStart, f.priority].all (fitsBytes 1) &&
  fitsBytes 1 f.cascade.length && f.cascade.all (fitsBytes 1) &&
  [f.defaultEstimate, f.maxMass, f.creepLimit].all (fitsBytes 4) &&
  [f.authTimeout, f.maxFillTime, f.mgPerPulse, f.maxPulseRate, f.defaultSoc].all (fitsBytes 2)

def ChannelFields.wf (f : ChannelFields) : Bool :=
  [f.binding, f.index].all (fitsBytes 1) && [f.scaleLow, f.scaleHigh, f.plausLow, f.plausHigh].all (fitsBytes 4)

def LineFields.wf (f : LineFields) : Bool := [f.function, f.target, f.polarity, f.mode].all (fitsBytes 1)

/-- The command's fields fit the link (R204, R205). Commands without fields of a request's kind are always well formed. -/
def Instr.wf : Instr → Bool
  | .readFp fp => fitsBytes 1 fp
  | .readCompressor k => fitsBytes 1 k
  | .readChannel ch => fitsBytes 1 ch
  | .removeCompletion n => fitsBytes 4 n
  | .loadSite f => f.wf
  | .loadDensityRow row entries => fitsBytes 1 row && entries.length == 19 && entries.all (fitsBytes 2)
  | .loadRampEntry f => f.wf
  | .loadPrecool f => f.wf
  | .loadBank b f => fitsBytes 1 b && f.wf
  | .loadCompressor k f => fitsBytes 1 k && f.wf
  | .loadFp fp f => fitsBytes 1 fp && f.wf
  | .loadChannel ch f => fitsBytes 1 ch && f.wf
  | .loadInput line f => fitsBytes 1 line && f.wf
  | .loadValveMap pairs => fitsBytes 1 pairs.length && pairs.all (fun p => fitsBytes 1 p.1 && fitsBytes 1 p.2)
  | .loadEventOutput line c n p => [line, c, n, p].all (fitsBytes 1)
  | .setPrice c p t => fitsBytes 1 c && fitsBytes 4 p && fitsBytes 4 t
  | .setTime v => fitsBytes 4 v
  | .authorize fp k v pr t => [fp, k, pr].all (fitsBytes 1) && fitsBytes 4 v && fitsBytes 2 t
  | .cancelAuth fp => fitsBytes 1 fp
  | .fpStart fp => fitsBytes 1 fp
  | .fpStop fp => fitsBytes 1 fp
  | .fpHold fp => fitsBytes 1 fp
  | .fpReleaseHold fp => fitsBytes 1 fp
  | .fpClearFault fp => fitsBytes 1 fp
  | .fpReset fp => fitsBytes 1 fp
  | .bankClearFault b => fitsBytes 1 b
  | .compressorEnable k => fitsBytes 1 k
  | .compressorDisable k => fitsBytes 1 k
  | .compressorClearTrip k => fitsBytes 1 k
  | .valveMode line m => fitsBytes 1 line && fitsBytes 1 m
  | .clearCreep fp => fitsBytes 1 fp
  | .readStatus => true
  | .readBanks => true
  | .readPrecool => true
  | .readCompletion => true
  | .readTotals => true
  | .commission => true
  | .decommission => true
  | .openForecourt => true
  | .closeForecourt => true
  | .enterMaint => true
  | .leaveMaint => true
  | .shutdownCommand => true
  | .resume => true
  | .softReset => true
  | .chillerEnable => true
  | .chillerDisable => true
  | .chillerClearTrip => true
  | .linkByteReceived _ => true
  | .linkGap => true
  | .replySent => true
  | .powerOnReset _ _ => true
  | .sampleArrival _ _ => true
  | .stalenessExpiry _ => true
  | .rawLineChange _ _ => true
  | .filterExpiry _ => true
  | .minOffExpiry _ => true
  | .startHistoryAgeing _ => true
  | .startTimerExpiry _ => true
  | .csBankWaitExpiry _ => true
  | .minRunExpiry _ => true
  | .runDownExpiry _ => true
  | .waitLimitExpiry _ => true
  | .authExpired _ => true
  | .linkAcquisitionExpiry _ => true
  | .fpsBankWaitExpiry _ => true
  | .leakPulseExpiry _ => true
  | .leakHoldExpiry _ => true
  | .maxFillTimeExpiry _ => true
  | .settleExpiry _ => true
  | .ventTimeout _ => true
  | .segmentBoundary _ => true
  | .downgradeWatchOpen _ => true
  | .downgradeGraceExpiry _ => true
  | .lowFlowExpiry _ => true
  | .vehicleFrame _ _ => true
  | .linkLossExpiry _ => true
  | .meterPulse _ => true
  | .flowAgeing _ => true
  | .writeComplete _ => true
  | .writeError _ => true
  | .writeTimerExpiry => true
  | .calendarTick => true

end Sys2Proof
end

