-- ==== Sys2Proof/Certificates/Slice0/Obligations.lean ====
section
/-!
DEFINITION. The statements for the provers, chapter by chapter of the spec. Answers, Refuses and the invariants are those of
Sys2Proof/Safety.lean.
-/
open Sys2Proof Sys2Proof.Machine

/-! ### The step, the link and its answers (chapter 12) -/

/-- MODEL'S OWN STEP: the command at the front of the queue is executed on the state with the queue's rest. -/
def Obligations.StepTakesFrontCommand : Prop :=
  ∀ (s : State) (c : Instr) (rest : List Instr), s.pending = c :: rest →
    step s = exec c { s with pending := rest }

/-- MODEL'S CHOICE (notes/assumptions/3.md and 8.md; 45.md for the segment counter at its length): with no command waiting, an event whose time has come joins the queue;
where none has, a formed reply not yet begun begins to go out; and where there is none either, one tenth of a second passes on
the site clock, on every timer, on the ramp clocks that run, on the pulse-rate counts and on the one-second count, and nothing
else changes. -/
def Obligations.EmptyQueueLetsTimePass : Prop :=
  ∀ s : State, s.pending = [] →
    (s.dueCommands ≠ [] → ∃ t c, step s = .next t ∧ c ∈ s.dueCommands ∧ t.pending = [c] ∧ t.tables = s.tables ∧
      t.site = s.site ∧ t.fps = s.fps ∧ t.cs = s.cs ∧ t.banks = s.banks ∧ t.pcm = s.pcm ∧ t.mtu = s.mtu ∧ t.cqr = s.cqr) ∧
    (s.dueCommands = [] → s.sli.rx = .held → s.sli.awaiting = none → s.sli.driving = false →
      step s = .next { s with sli := { s.sli with driving := true } }) ∧
    (s.dueCommands = [] → s.sli.rx ≠ .held ∨ s.sli.awaiting ≠ none ∨ s.sli.driving = true → ∃ t, step s = .next t ∧
      t = { s with chans := t.chans, cs := t.cs, pcm := { s.pcm with records := t.pcm.records }, fps := t.fps, vlr := t.vlr,
                   mtu := t.mtu, cqr := { s.cqr with write := t.cqr.write }, site := t.site } ∧
      t.site = { s.site with
        clock := s.site.clock + 1
        secondCount := if s.site.calendarSet = true then s.site.secondCount + 1 else s.site.secondCount } ∧
      (∀ i, t.chan i = { s.chan i with staleTimer := (s.chan i).staleTimer.map (· - 1) }) ∧
      (∀ k, t.comp k = { s.comp k with
        minOff := (s.comp k).minOff.map (· - 1), start := (s.comp k).start.map (· - 1)
        minRun := (s.comp k).minRun.map (· - 1), bankWait := (s.comp k).bankWait.map (· - 1)
        runDown := (s.comp k).runDown.map (· - 1) }) ∧
      (∀ i, t.reservation i = { s.reservation i with waitTimer := (s.reservation i).waitTimer.map (· - 1) }) ∧
      (∀ i, t.link i = { s.link i with loss := (s.link i).loss.map (· - 1) }) ∧
      (∀ i, t.meter i = { s.meter i with
        auth := { (s.meter i).auth with timer := (s.meter i).auth.timer.map (· - 1) }
        pulses := (s.meter i).pulses.filter (fun t => decide ((s.site.clock + 1 - t).toNat < 10)) }) ∧
      (∀ i, let f := s.fp i
        t.fp i = { f with
          acquisition := f.acquisition.map (· - 1), bankWait := f.bankWait.map (· - 1)
          leakPulse := f.leakPulse.map (· - 1), leakHold := f.leakHold.map (· - 1), maxFill := f.maxFill.map (· - 1)
          settle := f.settle.map (· - 1), vent := f.vent.map (· - 1), grace := f.grace.map (· - 1)
          lowFlow := f.lowFlow.map (· - 1)
          clock := if s.clockRuns i = true then f.clock + 1 else f.clock
          segment := if s.clockRuns i = true then min s.site.params.segment (f.segment + 1) else f.segment
          watchCount := if s.clockRuns i = true then f.watchCount + 1 else f.watchCount }) ∧
      t.cqr.write = s.cqr.write.map (fun w => { w with timer := w.timer.map (· - 1) }))

/-- Every request is answered exactly once: where its header waits for the reply, the reply to that header is formed with the
answer that the owner gave, and no header waits any longer. An accepted one is answered with its kind plus 0x80, its header
echoed before the data; a refused one with kind 0xFF, tag, unit, kind and the reason's code (R199, R203). -/
def Obligations.EveryRequestIsAnsweredOnce : Prop :=
  (∀ (c : Instr) (s : State) (h : Header), (encodeRequest 0 c).isSome → s.sli.awaiting = some (h, c) →
    ∃ t a, exec c s = .next t ∧ t.sli.answer = some a ∧ t.sli.reply = replyFrame h a ∧ t.sli.awaiting = none) ∧
  ∀ (h : Header),
    (∀ data, replyFrame h (.accepted data) = frame (h.kind + 0x80#8) (h.tag :: h.unit :: data)) ∧
    (∀ code n, (code, n) ∈ [(RefusalCode.unknownKind, 0), (.badLength, 1), (.badField, 2), (.badState, 3), (.noSlot, 4),
        (.notPermitted, 5), (.tableOrder, 6), (.unmapped, 7), (.notConfigured, 8), (.mismatch, 9)] →
      replyFrame h (.refused code) = frame 0xFF#8 [h.tag, h.unit, h.kind, BitVec.ofNat 8 n]) ∧
    (∀ kind p, frame kind p = 0xA5#8 :: (be 2 p.length ++ kind :: p) ++ be 2 (crc16 (be 2 p.length ++ kind :: p)).toNat)

/-- A refusal, by whatever owner and of whatever request, changes nothing in the part apart from the answer itself (R202). -/
def Obligations.RefusalChangesNothing : Prop :=
  ∀ (c : Instr) (s t : State) (r : RefusalCode), (encodeRequest 0 c).isSome →
    exec c s = .next t → t.sli.answer = some (.refused r) → t.unanswered = s.unanswered

/-- Every well-formed request is read back from the bytes that carry it, whatever its tag: no field of any request is
dropped or cut (R204, R205, section 12.4). -/
def Obligations.RequestsDecodeToThemselves : Prop :=
  ∀ (c : Instr) (tag : Byte) (kind : Nat) (p : List Byte), c.wf = true → c.listsFit = true →
    encodeRequest tag c = some (kind, p) → decodeRequest kind p = .ok c

/-- A kind outside the catalogue, a payload that is too short or of another length than its kind's, a pair count out of range
and an unknown command code are refused by SLI, in this order, each with its reason (R202, section 12.4). That SLI and not the
owner refuses the unknown command code, before the owner's own checks, is notes/assumptions/31.md. -/
def Obligations.BadFramesAreRefused : Prop :=
  ∀ (kind : Nat) (p : List Byte),
    let lengths := [(0x01, 0), (0x02, 0), (0x03, 0), (0x04, 0), (0x05, 0), (0x06, 0), (0x07, 0), (0x08, 4), (0x09, 0),
      (0x20, 68), (0x21, 38), (0x22, 10), (0x23, 32), (0x24, 22), (0x25, 16), (0x26, 37), (0x27, 18), (0x28, 4), (0x2A, 3),
      (0x30, 9), (0x31, 4), (0x40, 1), (0x41, 8), (0x42, 0), (0x43, 1), (0x44, 1), (0x45, 1), (0x46, 1), (0x47, 1), (0x48, 0)]
    (kind ≠ 0x29 → (∀ n, (kind, n) ∉ lengths) → decodeRequest kind p = .error .unknownKind) ∧
    (∀ n, (kind, n) ∈ lengths → p.length ≠ 2 + n → decodeRequest kind p = .error .badLength) ∧
    (p.length < 3 → decodeRequest 0x29 p = .error .badLength) ∧
    (3 ≤ p.length → num p 2 1 = 0 ∨ 58 < num p 2 1 → decodeRequest 0x29 p = .error .badField) ∧
    (3 ≤ p.length → 1 ≤ num p 2 1 → num p 2 1 ≤ 58 → p.length ≠ 3 + 2 * num p 2 1 →
      decodeRequest 0x29 p = .error .badLength) ∧
    (∀ first, (kind, first) ∈ [(0x40, 9), (0x43, 6), (0x44, 1), (0x45, 3), (0x46, 3)] → p.length = 3 → first ≤ num p 2 1 →
      decodeRequest kind p = .error .badField)

/-- Each received byte, a gap of more than 5 ms and the end of the reply move the receiver as the tables of R200 and R201 give;
while the part drives the line with its reply the receiver is deaf; errors are counted up to 65,535. The model's choices
(notes/assumptions/8.md): the reply begins at a step on the empty queue, so a byte or a gap taken in HELD before that step came
before the first reply byte; the end of a reply that is not yet formed changes nothing. -/
def Obligations.ReceiverMoves : Prop :=
  ∀ s : State,
    (∀ b : Byte, ∃ t, exec (.linkByteReceived b) s = .next t ∧ t = { s with sli := t.sli } ∧
      (s.sli.rx = .hunt → b = 0xA5#8 → t.sli = { s.sli with rx := .receive, buffer := [] }) ∧
      (s.sli.rx = .hunt → b ≠ 0xA5#8 → t.sli = s.sli) ∧
      (s.sli.rx = .skip → t.sli = s.sli) ∧
      (s.sli.rx = .held → s.sli.driving = true ∨ s.sli.heldRun = true → t.sli = s.sli) ∧
      (s.sli.rx = .held → s.sli.driving = false → s.sli.heldRun = false →
        t.sli = { s.sli with heldRun := true, errors := min 65535 (s.sli.errors + 1) }) ∧
      (s.sli.rx = .receive → s.sli.buffer.length = 1 → 1024 < num (s.sli.buffer ++ [b]) 0 2 →
        t.sli = { s.sli with rx := .skip, buffer := [], errors := min 65535 (s.sli.errors + 1) }) ∧
      (s.sli.rx = .receive → s.sli.buffer.length = 1 → num (s.sli.buffer ++ [b]) 0 2 ≤ 1024 →
        t.sli = { s.sli with buffer := s.sli.buffer ++ [b] }) ∧
      (s.sli.rx = .receive → s.sli.buffer.length ≠ 1 →
        (s.sli.buffer.length < 2 ∨ s.sli.buffer.length + 1 ≠ num (s.sli.buffer ++ [b]) 0 2 + 5) →
        t.sli = { s.sli with buffer := s.sli.buffer ++ [b] })) ∧
    (∃ t, exec .linkGap s = .next t ∧ t = { s with sli := t.sli } ∧
      (s.sli.rx = .hunt → t.sli = s.sli) ∧
      (s.sli.rx = .receive →
        t.sli = { s.sli with rx := .hunt, buffer := [], errors := min 65535 (s.sli.errors + 1) }) ∧
      (s.sli.rx = .skip → t.sli = { s.sli with rx := .hunt }) ∧
      (s.sli.rx = .held → s.sli.driving = true → t.sli = s.sli) ∧
      (s.sli.rx = .held → s.sli.driving = false → t.sli = { s.sli with heldRun := false })) ∧
    (∃ t, exec .replySent s = .next t ∧ t = { s with sli := t.sli } ∧
      (s.sli.rx = .held → s.sli.awaiting = none →
        t.sli = { s.sli with rx := if s.sli.heldRun then .skip else .hunt, heldRun := false,
                             driving := false, buffer := [] }) ∧
      (s.sli.rx ≠ .held ∨ s.sli.awaiting ≠ none → t.sli = s.sli))

/-- A frame whose check fails is counted and dropped; a whole good frame is held: one that carries a well-formed request is
handed on with its header, and one that SLI refuses is answered at once with the refusal, its tag and unit echoed, or 0 where the
payload holds no header (R200, R202, R203). -/
def Obligations.WholeFrameIsDispatched : Prop :=
  ∀ (s : State) (kind : Byte) (p body : List Byte) (lo hi : Byte), p.length ≤ 1024 →
    body = be 2 p.length ++ kind :: p → s.sli.rx = .receive → s.sli.buffer = body ++ [hi] →
    ∃ t, exec (.linkByteReceived lo) s = .next t ∧ t = { s with sli := t.sli } ∧
      (256 * hi.toNat + lo.toNat = (crc16 body).toNat →
        (∀ (c : Instr) (tag : Byte), c.wf = true → c.listsFit = true → encodeRequest tag c = some (kind.toNat, p) →
          t.sli.rx = .held ∧ t.sli.heldRun = false ∧ t.sli.driving = false ∧ t.sli.dispatched = some c ∧
          t.sli.errors = s.sli.errors ∧ t.sli.awaiting = some ({ tag := tag, unit := p.getD 1 0, kind := kind }, c)) ∧
        (∀ r, decodeRequest kind.toNat p = .error r →
          t.sli = { s.sli with
            rx := .held, buffer := body ++ [hi, lo], heldRun := false, driving := false, answer := some (.refused r)
            reply := replyFrame { tag := if p.length < 2 then 0 else p.getD 0 0, kind := kind
                                  unit := if p.length < 2 then 0 else p.getD 1 0 } (.refused r) })) ∧
      (256 * hi.toNat + lo.toNat ≠ (crc16 body).toNat →
        t.sli = { s.sli with rx := .hunt, buffer := [], errors := min 65535 (s.sli.errors + 1) })

/-! ### Reads and the change summary -/

/-- Each read but READ_STATUS is accepted in every state of the site with its owner's data and changes nothing; one that names a
unit the part does not have is refused with BAD_FIELD. READ_COMPLETION carries the head record in the layout of R208, or a count
of 0 and the next record number (R177, R208); READ_TOTALS carries the totals of each fuelling point, the counts and the health
of the store (R179, R205). What R205 leaves open in the layouts, such as the value 1 of a mark that is set, is the model's choice
(notes/assumptions/13.md). -/
def Obligations.ReadsAnswerAndChangeNothing : Prop :=
  ∀ (s : State) (n : Nat),
    let bit := fun b : Bool => if b then 1 else 0
    let cls := fun c : Option PrecoolClass => match c with
      | some .t30 => 1 | some .t20 => 2 | some .tamb => 3 | some .t40 => 0 | none => 0
    (∀ h : n < 4, Answers (.readFp n) s (.accepted (fpReply s ⟨n, h⟩)) s) ∧ (4 ≤ n → Refuses (.readFp n) s .badField) ∧
    Answers .readBanks s (.accepted (banksReply s)) s ∧
    (∀ h : n < 2, Answers (.readCompressor n) s (.accepted (compressorReply s ⟨n, h⟩)) s) ∧
    (2 ≤ n → Refuses (.readCompressor n) s .badField) ∧
    Answers .readPrecool s (.accepted (precoolReply s)) s ∧
    (∀ h : n < 48, Answers (.readChannel n) s (.accepted (channelBytes (s.chan ⟨n, h⟩))) s) ∧
    (48 ≤ n → Refuses (.readChannel n) s .badField) ∧
    (s.cqr.queue = [] → Answers .readCompletion s (.accepted (be 1 0 ++ be 4 s.cqr.nextNumber)) s) ∧
    (∀ r rest, s.cqr.queue = r :: rest → ∀ reason, (r.reason, reason) ∈
        [(Reason.targetSoc, 0), (.targetPressure, 1), (.pressureLimit, 2), (.presetMass, 3), (.presetAmount, 4),
         (.supplyExhausted, 5), (.bankTimeout, 6), (.customerStop, 7), (.precoolTimeout, 8), (.timeLimit, 9), (.linkAbort, 10),
         (.leak, 11), (.startPressure, 12), (.rampOvershoot, 13), (.tempLimit, 14), (.sensorFail, 15), (.meterFail, 16),
         (.nozzleDisconnect, 17), (.breakaway, 18), (.linkAbsent, 19), (.classMismatch, 20), (.esd, 21), (.reset, 22),
         (.powerFail, 23)] →
      Answers .readCompletion s (.accepted (be 1 (rest.length + 1) ++ be 4 r.number ++ be 1 r.fp.val ++ be 1 reason ++
        be 1 (bit r.flags.noncomm + 2 * bit r.flags.linkLost + 4 * bit r.flags.implausible + 8 * bit r.flags.downgraded +
              16 * bit r.flags.clamped + 32 * bit r.flags.powerSaved) ++
        be 1 (bit r.p0.isSome + 2 * bit r.finalSoc.isSome + 4 * bit r.startClass.isSome) ++
        be 4 r.price ++ be 4 r.mass ++ be 4 r.amount ++ be 4 r.startTime ++ be 4 r.endTime ++ be 4 (r.p0.getD 0) ++
        be 2 (r.finalSoc.getD 0) ++ be 1 (cls r.startClass) ++ be 1 (cls r.finalClass) ++ be 1 r.draw.length ++
        (r.draw.map (fun e => be 1 e.bank.val ++ be 4 e.mass ++ be 4 e.openP ++ be 4 (e.closeP.getD 0))).flatten)) s) ∧
    Answers .readTotals s (.accepted
      ((s.cqr.totals.toList.map (fun x => be 8 x.mass ++ be 8 x.amount ++ be 4 x.fills)).flatten ++
       be 1 s.cqr.queue.length ++ be 1 s.cqr.slots ++ be 4 s.cqr.nextNumber ++ be 1 (bit s.cqr.write.isSome) ++
       be 1 (bit s.cqr.pendingChange) ++ be 1 (bit s.cqr.fault) ++ be 1 (bit s.cqr.lost))) s

/-- READ_STATUS carries the change summary as it stands and removes exactly the flags it carries, so that ATTN is released;
nothing else changes (R206, R207). -/
def Obligations.ReadStatusTakesTheSummary : Prop :=
  ∀ s : State, ∃ t d, exec .readStatus s = .next t ∧
    t.sli.answer = some (.accepted (be 2 s.sli.summary.toNat ++ be 2 s.sli.errors ++ d)) ∧
    t.sli.summary = 0 ∧ t.attn = false ∧
    t.unanswered = { s.unanswered with sli := { s.unanswered.sli with summary := 0 } }

/-- REMOVE_COMPLETION takes only the head and only by its number: the slot count falls by one, a change of the retained
image is marked and nothing is posted; every other number is refused (R178). -/
def Obligations.RemoveCompletionTakesOnlyTheHead : Prop :=
  ∀ (s : State) (n : Nat),
    (n = 0 → Refuses (.removeCompletion n) s .badField) ∧
    (n ≠ 0 → s.cqr.queue = [] → Refuses (.removeCompletion n) s .mismatch) ∧
    (∀ r rest, n ≠ 0 → s.cqr.queue = r :: rest → r.number ≠ n → Refuses (.removeCompletion n) s .mismatch) ∧
    (∀ r rest, n ≠ 0 → s.cqr.queue = r :: rest → r.number = n →
      ∃ u : State, Answers (.removeCompletion n) s (.accepted (be 4 n ++ be 1 rest.length)) u ∧
        u = { s with cqr := u.cqr } ∧ u.cqr.queue = rest ∧ u.cqr.slots = s.cqr.slots - 1 ∧
        u.cqr.nextNumber = s.cqr.nextNumber ∧ u.cqr.totals = s.cqr.totals ∧ u.cqr.fault = s.cqr.fault ∧
        u.cqr.lost = s.cqr.lost ∧ (u.holds .queueNotEmpty = false ↔ rest = []) ∧
        (s.cqr.write.isSome → u.cqr.write = s.cqr.write ∧ u.cqr.pendingChange = true) ∧
        (s.cqr.write = none → u.cqr.pendingChange = s.cqr.pendingChange ∧
          ∃ w, u.cqr.write = some w ∧ w.timer = some 50 ∧ w.image.image.records = rest ∧
            w.image.image.nextNumber = s.cqr.nextNumber ∧ w.image.image.totals = s.cqr.totals))

/-! ### Loads (chapters 1 to 7 and 11) -/

/-- Every load but LOAD_BANK is refused with BAD_STATE, whatever its fields, while the site is OPERATING, in SHUTDOWN or in
POWERDOWN. MODEL'S CHOICE (notes/assumptions/14.md): the site state is looked at before the fields. Stated of the
rows of 19 entries and the valve maps of 1 to 58 pairs that the link lets through (R202). -/
def Obligations.LoadsAreRefusedInRunningSites : Prop :=
  ∀ s : State, s.site.state = .operating ∨ s.site.state = .shutdown ∨ s.site.state = .powerdown →
    (∀ f, Refuses (.loadSite f) s .badState) ∧
    (∀ row entries, entries.length = 19 → Refuses (.loadDensityRow row entries) s .badState) ∧
    (∀ f, Refuses (.loadRampEntry f) s .badState) ∧ (∀ f, Refuses (.loadPrecool f) s .badState) ∧
    (∀ k f, Refuses (.loadCompressor k f) s .badState) ∧ (∀ i f, Refuses (.loadFp i f) s .badState) ∧
    (∀ ch f, Refuses (.loadChannel ch f) s .badState) ∧ (∀ l f, Refuses (.loadInput l f) s .badState) ∧
    (∀ ps, 1 ≤ ps.length → ps.length ≤ 58 → Refuses (.loadValveMap ps) s .badState) ∧
    (∀ l c n p, Refuses (.loadEventOutput l c n p) s .badState)

/-- LOAD_SITE replaces the whole set and sets its mark where every parameter is in its range and the overshoot band is above
the upper band, and is refused with BAD_FIELD otherwise (R187). -/
def Obligations.LoadSiteReplacesTheSet : Prop :=
  ∀ (s : State) (f : SiteFields), s.TakesLoads →
    let ok := 50000 ≤ f.limitH70 ∧ f.limitH70 ≤ 95000 ∧ 25000 ≤ f.limitH35 ∧ f.limitH35 ≤ 50000 ∧
      1000 ≤ f.fullH70 ∧ f.fullH70 ≤ 6000 ∧ 1000 ≤ f.fullH35 ∧ f.fullH35 ≤ 6000 ∧
      500 ≤ f.minStartH70 ∧ f.minStartH70 ≤ 10000 ∧ 500 ≤ f.minStartH35 ∧ f.minStartH35 ≤ 10000 ∧
      20 ≤ f.segment ∧ f.segment ≤ 300 ∧ 100 ≤ f.upperBand ∧ f.upperBand ≤ 5000 ∧
      500 ≤ f.overshootBand ∧ f.overshootBand ≤ 10000 ∧ f.upperBand < f.overshootBand ∧
      500 ≤ f.stepDiff ∧ f.stepDiff ≤ 10000 ∧ 1 ≤ f.stepFlow ∧ f.stepFlow ≤ 100 ∧ 5 ≤ f.stepDwell ∧ f.stepDwell ≤ 100 ∧
      10 ≤ f.bankWait ∧ f.bankWait ≤ 600 ∧ 10 ≤ f.linkAcquisition ∧ f.linkAcquisition ≤ 200 ∧
      5 ≤ f.linkLoss ∧ f.linkLoss ≤ 30 ∧ 1000 ≤ f.plausMargin ∧ f.plausMargin ≤ 20000 ∧
      10 ≤ f.leakPulse ∧ f.leakPulse ≤ 50 ∧ 20 ≤ f.leakHold ∧ f.leakHold ≤ 200 ∧ 100 ≤ f.leakLimit ∧ f.leakLimit ≤ 2000 ∧
      5 ≤ f.settleWindow ∧ f.settleWindow ≤ 100 ∧ 100 ≤ f.ventPressure ∧ f.ventPressure ≤ 2000 ∧
      50 ≤ f.ventTimeout ∧ f.ventTimeout ≤ 600 ∧ 500 ≤ f.supplyMin ∧ f.supplyMin ≤ 20000
    (ok → Answers (.loadSite f) s (.accepted []) { s with site := { s.site with params := f, paramsLoaded := true } }) ∧
    (¬ ok → Refuses (.loadSite f) s .badField)

/-- LOAD_DENSITY_ROW: a row above 16 is refused with BAD_FIELD, one that falls along pressure with TABLE_ORDER, and in
MAINTENANCE one above its colder or below its warmer neighbour with TABLE_ORDER; any other row is replaced and is LOADED
(R22). -/
def Obligations.LoadDensityRowChecksOrder : Prop :=
  ∀ (s : State) (row : Nat) (entries : List Nat) (h : entries.toArray.size = 19), s.TakesLoads →
    let v : Vector Nat 19 := ⟨entries.toArray, h⟩
    let rising := ∀ i : Fin 18, sel v ⟨i.val, by omega⟩ ≤ sel v ⟨i.val + 1, by omega⟩
    let fits := ∀ i : Fin 19, (1 ≤ row → sel v i ≤ s.entryAt (row - 1) i.val) ∧ (row ≤ 15 → s.entryAt (row + 1) i.val ≤ sel v i)
    (17 ≤ row → Refuses (.loadDensityRow row entries) s .badField) ∧
    (∀ hr : row < 17,
      (¬ rising → Refuses (.loadDensityRow row entries) s .tableOrder) ∧
      (rising → s.site.state = .maintenance → ¬ fits → Refuses (.loadDensityRow row entries) s .tableOrder) ∧
      (rising → (s.site.state = .maintenance → fits) →
        Answers (.loadDensityRow row entries) s (.accepted [])
          { s with density := upd s.density ⟨row, hr⟩ { entries := v, loaded := true } }))

/-- LOAD_RAMP_ENTRY replaces the one row its four keys name, a rate of 0 included, and sets its mark; a key or a figure out of
range is refused with BAD_FIELD (R120). -/
def Obligations.LoadRampEntryReplacesOneRow : Prop :=
  ∀ (s : State) (f : RampFields), s.TakesLoads →
    (f.precoolClass ≤ 3 → f.pressureClass ≤ 1 → f.band ≤ 4 → f.category ≤ 2 → f.rate ≤ 60000 → f.endPressure ≤ 100000 →
      ∃ r : Fin 120, r.val = ((f.precoolClass * 2 + f.pressureClass) * 5 + f.band) * 3 + f.category ∧
        Answers (.loadRampEntry f) s (.accepted [])
          { s with ramp := upd s.ramp r { rate := f.rate, endPressure := f.endPressure, loaded := true } }) ∧
    (4 ≤ f.precoolClass ∨ 2 ≤ f.pressureClass ∨ 5 ≤ f.band ∨ 3 ≤ f.category ∨ 60000 < f.rate ∨ 100000 < f.endPressure →
      Refuses (.loadRampEntry f) s .badField)

/-- LOAD_PRECOOL replaces the precool entry, sets its mark and makes the chiller's evaluation where every field is in range
and the classes stand in order, and is refused with BAD_FIELD otherwise (R76, R77, R80). -/
def Obligations.LoadPrecoolReplacesTheEntry : Prop :=
  ∀ (s : State) (f : PrecoolFields), s.TakesLoads →
    let cls := fun c : ClassFields => 1000 ≤ c.ceiling ∧ c.ceiling ≤ 4500 ∧ 1 ≤ c.q ∧ c.q ≤ 2000 ∧ 1000 ≤ c.window ∧
      c.window ≤ 4500 ∧ 10 ≤ c.grace ∧ c.grace ≤ 600
    let ok := 100 ≤ f.cs ∧ f.cs ≤ 10000 ∧ 1100 ≤ f.setpoint ∧ f.setpoint ≤ 4400 ∧ 5 ≤ f.differential ∧ f.differential ≤ 50 ∧
      1000 ≤ f.setpoint - f.differential ∧ f.setpoint + f.differential ≤ 4500 ∧ 100 ≤ f.waitLimit ∧ f.waitLimit ≤ 6000 ∧
      cls f.t40 ∧ cls f.t30 ∧ cls f.t20 ∧ f.t40.ceiling < f.t30.ceiling ∧ f.t30.ceiling < f.t20.ceiling ∧
      f.t30.q < f.t40.q ∧ f.t20.q < f.t30.q ∧ f.t40.window < f.t30.window ∧ f.t30.window < f.t20.window
    (ok → Answers (.loadPrecool f) s (.accepted [])
      (evalChiller { s with pcm := { s.pcm with entry := f, loaded := true } })) ∧
    (¬ ok → Refuses (.loadPrecool f) s .badField)

/-- LOAD_BANK, in every site state: a number above 7, a field out of range, a bad mark or pressures out of order are refused
with BAD_FIELD, a bank that would leave a needed FILL role unmapped outside UNCONFIGURED with UNMAPPED; any other entry is
taken, the reload mark is set where the latch stands, and no other entry, table or channel changes (R36, R37). That 1 in a mark of
the request is on is the model's choice (notes/assumptions/13.md). -/
def Obligations.LoadBankReplacesTheEntry : Prop :=
  ∀ (s : State) (n : Nat) (f : BankFields),
    let ok := f.valid ≤ 1 ∧ f.drawPermit ≤ 1 ∧ f.fillPermit ≤ 1 ∧ 50 ≤ f.volume ∧ f.volume ≤ 20000 ∧ 10000 ≤ f.rated ∧
      f.rated ≤ 100000 ∧ f.priority ≤ 7 ∧ f.floor < f.refillOn ∧ f.refillOn < f.refillOff ∧ f.refillOff ≤ f.rated
    let needed := fun k : CompId => (s.comp k).loaded = true ∧ f.valid = 1 ∧ f.rated ≤ (s.comp k).entry.maxDischarge
    let unmapped := fun (b : BankId) => ∃ k, needed k ∧ sel s.roleMap (Role.fill k b).number = none
    (8 ≤ n ∨ ¬ ok → Refuses (.loadBank n f) s .badField) ∧
    (∀ h : n < 8, ok → s.site.state ≠ .unconfigured → unmapped ⟨n, h⟩ → Refuses (.loadBank n f) s .unmapped) ∧
    (∀ h : n < 8, ok → (s.site.state = .unconfigured ∨ ¬ unmapped ⟨n, h⟩) →
      ∃ u : State, Answers (.loadBank n f) s (.accepted []) u ∧
        (u.bank ⟨n, h⟩).entry =
          { valid := f.valid == 1, volume := f.volume, rated := f.rated, floor := f.floor, refillOn := f.refillOn,
            refillOff := f.refillOff, drawPermit := f.drawPermit == 1, fillPermit := f.fillPermit == 1,
            priority := f.priority } ∧
        (u.bank ⟨n, h⟩).protect = (s.bank ⟨n, h⟩).protect ∧
        (u.bank ⟨n, h⟩).reload = ((s.bank ⟨n, h⟩).reload || (s.bank ⟨n, h⟩).protect) ∧
        (u.bank ⟨n, h⟩).pressure = (s.bank ⟨n, h⟩).pressure ∧ (u.bank ⟨n, h⟩).inventory = (s.bank ⟨n, h⟩).inventory ∧
        (∀ c, c.val ≠ n → u.bank c = s.bank c) ∧
        u.fixed = { s.fixed with banks := upd s.fixed.banks ⟨n, h⟩ (u.bank ⟨n, h⟩).entry })

/-- LOAD_COMPRESSOR: out of range is refused with BAD_FIELD, a role left unmapped in MAINTENANCE with UNMAPPED; otherwise the
entry is replaced, its mark set, and no other entry, table, bank, channel, line or site state changes (R56, R57). -/
def Obligations.LoadCompressorReplacesTheEntry : Prop :=
  ∀ (s : State) (n : Nat) (f : CompressorFields), s.TakesLoads →
    let ok := 10000 ≤ f.maxDischarge ∧ f.maxDischarge ≤ 100000 ∧ 50 ≤ f.startTime ∧ f.startTime ≤ 600 ∧ 50 ≤ f.runDown ∧
      f.runDown ≤ 600 ∧ 600 ≤ f.minRun ∧ f.minRun ≤ 18000 ∧ 300 ≤ f.minOff ∧ f.minOff ≤ 18000 ∧ 1 ≤ f.startLimit ∧
      f.startLimit ≤ 12 ∧ 2730 ≤ f.dischargeLimit ∧ f.dischargeLimit ≤ 4500 ∧ f.priority ≤ 7
    let unmapped := fun k : CompId => sel s.roleMap (Role.recirc k).number = none ∨
      ∃ b, (s.bank b).entry.valid = true ∧ (s.bank b).entry.rated ≤ f.maxDischarge ∧
        sel s.roleMap (Role.fill k b).number = none
    (2 ≤ n ∨ ¬ ok → Refuses (.loadCompressor n f) s .badField) ∧
    (∀ h : n < 2, ok → s.site.state = .maintenance → unmapped ⟨n, h⟩ → Refuses (.loadCompressor n f) s .unmapped) ∧
    (∀ h : n < 2, ok → (s.site.state = .unconfigured ∨ ¬ unmapped ⟨n, h⟩) →
      ∃ u : State, Answers (.loadCompressor n f) s (.accepted []) u ∧
        (u.comp ⟨n, h⟩).entry = f ∧ (u.comp ⟨n, h⟩).loaded = true ∧ u.banks = s.banks ∧
        u.fixed = { s.fixed with compressors := upd s.fixed.compressors ⟨n, h⟩ (f, true) })

/-- LOAD_FP: a field out of range, a cascade list with a repeated or unknown bank, or an empty or unknown set of classes is
refused with BAD_FIELD, a role left unmapped in MAINTENANCE with UNMAPPED; otherwise the entry is replaced and its mark set,
and nothing else changes (R95, R96). That 1 in a mark of the request is on is the model's choice (notes/assumptions/13.md). -/
def Obligations.LoadFpReplacesTheEntry : Prop :=
  ∀ (s : State) (n : Nat) (f : FpFields), s.TakesLoads →
    let ok := f.pressureClass ≤ 1 ∧ 1 ≤ f.allowed ∧ f.allowed ≤ 15 ∧ 1 ≤ f.cascade.length ∧ f.cascade.length ≤ 8 ∧
      f.cascade.Nodup ∧ (∀ b ∈ f.cascade, b ≤ 7) ∧ f.category ≤ 2 ∧ f.commRequired ≤ 1 ∧ f.autoStart ≤ 1 ∧
      100 ≤ f.defaultEstimate ∧ f.defaultEstimate ≤ 120000 ∧ 1000 ≤ f.maxMass ∧ f.maxMass ≤ 120000 ∧
      100 ≤ f.authTimeout ∧ f.authTimeout ≤ 9000 ∧ 300 ≤ f.maxFillTime ∧ f.maxFillTime ≤ 36000 ∧ f.priority ≤ 7 ∧
      1 ≤ f.mgPerPulse ∧ f.mgPerPulse ≤ 10000 ∧ 1 ≤ f.maxPulseRate ∧ f.maxPulseRate ≤ 5000 ∧ 1 ≤ f.creepLimit ∧
      f.creepLimit ≤ 1000 ∧ 500 ≤ f.defaultSoc ∧ f.defaultSoc ≤ 1000
    let unmapped := fun i : FpId => sel s.roleMap (Role.shutoff i).number = none ∨ sel s.roleMap (Role.vent i).number = none ∨
      ∃ b : BankId, b.val ∈ f.cascade ∧ sel s.roleMap (Role.draw i b).number = none
    (4 ≤ n ∨ ¬ ok → Refuses (.loadFp n f) s .badField) ∧
    (∀ h : n < 4, ok → s.site.state = .maintenance → unmapped ⟨n, h⟩ → Refuses (.loadFp n f) s .unmapped) ∧
    (∀ h : n < 4, ok → (s.site.state = .unconfigured ∨ ¬ unmapped ⟨n, h⟩) →
      ∃ (u : State) (e : FpEntry), Answers (.loadFp n f) s (.accepted []) u ∧
        u = { s with fps := upd s.fps ⟨n, h⟩ { s.fp ⟨n, h⟩ with entry := e, loaded := true } } ∧
        e.pressureClass.code = f.pressureClass ∧ (∀ c, c ∈ e.allowed ↔ f.allowed.testBit c.code = true) ∧
        e.cascade.map Fin.val = f.cascade ∧ e.category.code = f.category ∧ e.commRequired = (f.commRequired == 1) ∧
        e.autoStart = (f.autoStart == 1) ∧ e.defaultEstimate = f.defaultEstimate ∧ e.maxMass = f.maxMass ∧
        e.authTimeout = f.authTimeout ∧ e.maxFillTime = f.maxFillTime ∧ e.priority = f.priority ∧
        e.mgPerPulse = f.mgPerPulse ∧ e.maxPulseRate = f.maxPulseRate ∧ e.creepLimit = f.creepLimit ∧
        e.defaultSoc = f.defaultSoc)

/-- LOAD_CHANNEL: a channel above 47, an unknown binding or unit, a binding held by another channel, or scales and limits out of range or out of order are
refused with BAD_FIELD; otherwise the entry is replaced and the live state restarted, the time of the last sample kept, and
where the channel was bound and GOOD its former consumer is told that the quantity has become HELD. UNUSED takes any scale and
limits (R1, R2). That the held value of the notice is 0 (notes/assumptions/17.md) and that the index of a binding without a unit is
not tested (18.md) are DEDUCED. -/
def Obligations.LoadChannelRestartsTheChannel : Prop :=
  ∀ (s : State) (n : Nat) (f : ChannelFields), s.TakesLoads →
    (8 < f.binding ∨ (f.binding ≤ 1 ∧ 3 < f.index) ∨ (f.binding ≤ 3 ∧ 7 < f.index) ∨ (f.binding = 6 ∧ 1 < f.index) →
      Refuses (.loadChannel n f) s .badField) ∧
    ∀ bd : Binding, bindingOf f.binding f.index = some bd →
    let top := if bd.isPressure then 100000 else 4500
    let low := if bd.isPressure then 0 else 1000
    let ok := bd = .unused ∨ low ≤ f.scaleLow ∧ f.scaleHigh ≤ top ∧ f.scaleLow < f.scaleHigh ∧ f.scaleLow ≤ f.plausLow ∧
      f.plausLow ≤ f.plausHigh ∧ f.plausHigh ≤ f.scaleHigh
    let taken := bd ≠ .unused ∧ ∃ j : ChanId, j.val ≠ n ∧ (s.chan j).binding = bd
    (48 ≤ n ∨ ¬ ok ∨ taken → Refuses (.loadChannel n f) s .badField) ∧
    (∀ h : n < 48, ok → ¬ taken →
      let c : Channel :=
        { binding := bd, scaleLow := f.scaleLow, scaleHigh := f.scaleHigh, plausLow := f.plausLow, plausHigh := f.plausHigh,
          value := 0, status := .stale, failCount := 0, staleTimer := none, lastSample := (s.chan ⟨n, h⟩).lastSample }
      let s1 : State := { s with chans := upd s.chans ⟨n, h⟩ c }
      let told := (s.chan ⟨n, h⟩).binding ≠ .unused ∧ (s.chan ⟨n, h⟩).status = .good
      ∃ u : State, Answers (.loadChannel n f) s (.accepted []) u ∧ u.chans = s1.chans ∧ u.site = s.site ∧
        (told → u = settle (tellHeld (s.chan ⟨n, h⟩).binding 0 s1)) ∧ (¬ told → s.csInbox = [] → u = s1))

/-- LOAD_INPUT: a line above 31, an unknown code, a target the function does not have, a mode the function does not permit or a
nozzle function another line already serves is refused with BAD_FIELD; otherwise the entry is replaced, the filtered and raw
levels and every other line are kept (R9, R14). -/
def Obligations.LoadInputReplacesTheLine : Prop :=
  ∀ (s : State) (n : Nat) (f : LineFields), s.TakesLoads →
    let nozzle := f.function = 6 ∨ f.function = 7
    let perFp := 6 ≤ f.function ∧ f.function ≤ 11
    let badTarget := (perFp ∧ 3 < f.target) ∨ (f.function = 12 ∧ 1 < f.target)
    let badMode := (nozzle ∧ f.mode ≠ 0) ∨ ((f.function = 8 ∨ f.function = 9) ∧ f.mode = 0) ∨
      (¬ nozzle ∧ f.function ≠ 8 ∧ f.function ≠ 9 ∧ f.function ≠ 3 ∧ f.function ≠ 13 ∧ 1 < f.mode)
    let taken := ∃ j : LineId, j.val ≠ n ∧ (s.line j).target = f.target ∧
      ((f.function = 6 ∧ (s.line j).fn = .nozzleHolster) ∨ (f.function = 7 ∧ (s.line j).fn = .nozzleConnect))
    let bad := 32 ≤ n ∨ 13 < f.function ∨ 1 < f.polarity ∨ 3 < f.mode ∨ badTarget ∨ badMode ∨ taken
    (bad → Refuses (.loadInput n f) s .badField) ∧
    (¬ bad → ∃ (h : n < 32) (u : State) (fn : LineFn) (p : Polarity) (m : DetectMode),
      Answers (.loadInput n f) s (.accepted []) u ∧ lineFnOf f.function = some fn ∧ polarityOf f.polarity = some p ∧
      detectModeOf f.mode = some m ∧
      u.line ⟨n, h⟩ = { s.line ⟨n, h⟩ with fn := fn, target := f.target, polarity := p, mode := m } ∧
      (∀ j : LineId, j.val ≠ n → u.line j = s.line j))

/-- LOAD_VALVE_MAP applies every pair or none: a role above 57, a line above 63 that is not 255, a role named twice or a
resulting map with two roles on one line is refused with BAD_FIELD, a role left unmapped that the configuration needs, in
MAINTENANCE, with UNMAPPED (R15). -/
def Obligations.LoadValveMapIsAllOrNothing : Prop :=
  ∀ (s : State) (ps : List (Nat × Nat)), s.TakesLoads → 1 ≤ ps.length → ps.length ≤ 58 →
    let wf := ∀ p ∈ ps, p.1 ≤ 57 ∧ (p.2 ≤ 63 ∨ p.2 = 255)
    let line := fun r : Fin 58 => match ps.find? (fun p => p.1 == r.val) with
      | some p => if h : p.2 < 64 then some (⟨p.2, h⟩ : Fin 64) else none
      | none => sel s.roleMap r
    let clash := ¬ (ps.map (·.1)).Nodup ∨ ∃ (r r' : Fin 58) (o : Fin 64), r ≠ r' ∧ line r = some o ∧ line r' = some o
    (¬ wf ∨ clash → Refuses (.loadValveMap ps) s .badField) ∧
    (wf → ¬ clash → s.site.state = .maintenance → (∃ r, s.roleNeeded (roleAt r) = true ∧ line r = none) →
      Refuses (.loadValveMap ps) s .unmapped) ∧
    (wf → ¬ clash → (s.site.state = .unconfigured ∨ ∀ r, s.roleNeeded (roleAt r) = true → line r ≠ none) →
      ∃ u : State, Answers (.loadValveMap ps) s (.accepted []) u ∧ u = { s with roleMap := u.roleMap } ∧
        ∀ r, sel u.roleMap r = line r)

/-- LOAD_EVENT_OUTPUT replaces the one entry, which shows its condition at once; an unknown line, condition, fuelling point or
polarity is refused with BAD_FIELD (R19, R20). That the index of a condition that names no fuelling point is not tested is DEDUCED
(notes/assumptions/18.md). -/
def Obligations.LoadEventOutputReplacesTheEntry : Prop :=
  ∀ (s : State) (l c n p : Nat), s.TakesLoads →
    (8 ≤ l ∨ 8 < c ∨ (c = 2 ∧ 3 < n) ∨ 1 < p → Refuses (.loadEventOutput l c n p) s .badField) ∧
    (∀ hl : l < 8, c ≤ 8 → (c = 2 → n ≤ 3) → p ≤ 1 →
      ∃ (cond : EventCondition) (pol : Polarity) (u : State),
        Answers (.loadEventOutput l c n p) s (.accepted []) u ∧ conditionOf c n = some cond ∧ polarityOf p = some pol ∧
        u = { s with events := upd s.events ⟨l, hl⟩ { condition := cond, polarity := pol } } ∧
        (u.eventActive ⟨l, hl⟩ = if p = 0 then s.holds cond else !s.holds cond))

/-! ### Prices, the calendar, authorizations, creep (chapters 9 and 11) -/

/-- SET_PRICE: an unknown class or a price above 99,999 is refused with BAD_FIELD; a price whose time is not after the calendar
becomes active at once, takes the place of any pending price and is posted; a later one stands as the pending price, and the
active one is kept (R161). That the pending price and its activation time share one presence mark in the reply is the model's
choice (notes/assumptions/13.md). -/
def Obligations.SetPriceTakesEffectOrWaits : Prop :=
  ∀ (s : State) (n price time : Nat),
    (2 ≤ n ∨ 99999 < price → Refuses (.setPrice n price time) s .badField) ∧
    (∀ h : n < 2, price ≤ 99999 →
      (time ≤ s.site.calendar →
        Answers (.setPrice n price time) s (.accepted (be 4 price ++ be 1 0 ++ be 4 0 ++ be 4 0))
          { s with prices := upd s.prices ⟨n, h⟩ { active := price, pending := none }
                   sli := { s.sli with summary := s.sli.summary ||| BitVec.twoPow 15 14 } }) ∧
      (s.site.calendar < time →
        Answers (.setPrice n price time) s
          (.accepted (be 4 (sel s.prices ⟨n, h⟩).active ++ be 1 1 ++ be 4 price ++ be 4 time))
          { s with prices := upd s.prices ⟨n, h⟩
                    { active := (sel s.prices ⟨n, h⟩).active, pending := some (price, time) } }))

/-- SET_TIME sets the calendar, its mark and a fresh one-second count, and refuses 0; a second counted raises the calendar by
one, up to its largest value. Either makes active, and posts, every pending price whose time has come (R162, R198). That a
CALENDAR_TICK whose second is not counted changes nothing is the model's choice (notes/assumptions/3.md). -/
def Obligations.CalendarMovesAndPricesFollow : Prop :=
  ∀ s : State,
    let due := fun (now : Nat) (p : Price) => ∃ v t, p.pending = some (v, t) ∧ t ≤ now
    let follows := fun (u : State) (site : Site) =>
      u = { s with site := site, prices := u.prices, sli := { s.sli with summary := u.sli.summary } } ∧
      (∀ c : Fin 2, (∀ v t, (sel s.prices c).pending = some (v, t) → t ≤ site.calendar →
          sel u.prices c = { active := v, pending := none }) ∧
        (¬ due site.calendar (sel s.prices c) → sel u.prices c = sel s.prices c)) ∧
      ((∃ c, due site.calendar (sel s.prices c)) → u.sli.summary = s.sli.summary ||| BitVec.twoPow 15 14) ∧
      ((¬ ∃ c, due site.calendar (sel s.prices c)) → u.sli.summary = s.sli.summary)
    Refuses (.setTime 0) s .badField ∧
    (∀ v, v ≠ 0 → ∃ u : State, Answers (.setTime v) s (.accepted (be 4 v)) u ∧
      follows u { s.site with calendar := v, calendarSet := true, secondCount := 0 }) ∧
    (s.site.calendarSet = true → 10 ≤ s.site.secondCount → ∃ u : State, exec .calendarTick s = .next u ∧
      follows u { s.site with calendar := min 4294967295 (s.site.calendar + 1), secondCount := 0 }) ∧
    (s.site.calendarSet = false ∨ s.site.secondCount < 10 → exec .calendarTick s = .next s)

/-- AUTHORIZE makes its checks in the order of R156, and an accepted one reserves a slot and forms the PENDING record with its
value and SOC target clamped and marked (R157). Without auto-start, or with the nozzle away, nothing else changes. A bad presence
mark of the SOC target is refused with BAD_FIELD (R205); that it comes among the first checks of R156, before NOT_CONFIGURED, and
that the bytes of an absent target are not read, is DEDUCED (notes/assumptions/31.md). -/
def Obligations.AuthorizeChecksThenReserves : Prop :=
  ∀ (s : State) (n kind value presence soc : Nat),
    let c := Instr.authorize n kind value presence soc
    let badField := 4 ≤ n ∨ 3 ≤ kind ∨ 2 ≤ presence ∨ (kind ≠ 0 ∧ value = 0)
    (badField → Refuses c s .badField) ∧
    (∀ h : n < 4, ¬ badField →
      let i : FpId := ⟨n, h⟩
      let f := s.fp i
      let cannot := s.site.state ≠ .operating ∨ s.site.forecourtOpen = false ∨ f.fill ≠ .idle ∨
        (s.meter i).auth.state ≠ .noAuth ∨ (s.meter i).creepBlock = true ∨ s.cqr.fault = true
      (f.loaded = false → Refuses c s .notConfigured) ∧
      (f.loaded = true → cannot → Refuses c s .badState) ∧
      (f.loaded = true → ¬ cannot → 12 ≤ s.cqr.slots → Refuses c s .noSlot) ∧
      (f.loaded = true → ¬ cannot → s.cqr.slots < 12 → ∃ (a : Auth) (u : State),
        Answers c s (.accepted (authorizeReply a)) u ∧
        a.state = .pending ∧ a.kind.code = kind ∧
        a.value = (if kind = 0 then 0 else if kind = 1 then min (f.entry.maxMass * 1000) value else min 99999999 value) ∧
        a.soc = (if presence = 0 then none else some (max 500 (min 1000 soc))) ∧
        a.price = (s.price f.entry.pressureClass).active ∧ a.timer = some f.entry.authTimeout ∧
        (a.clampMass = true ↔ kind = 1 ∧ f.entry.maxMass * 1000 < value) ∧
        (a.clampAmount = true ↔ kind = 2 ∧ 99999999 < value) ∧
        (a.clampSoc = true ↔ presence = 1 ∧ (soc < 500 ∨ 1000 < soc)) ∧
        u.cqr = { s.cqr with slots := s.cqr.slots + 1 } ∧
        (f.entry.autoStart = false ∨ s.nozzleCondition i ≠ .connected →
          u = { s with cqr := u.cqr, mtu := upd s.mtu i { s.meter i with auth := a } }) ∧
        (f.entry.autoStart = true → s.nozzleCondition i = .connected → s.combined .breakaway n = false →
          s.combined .meterError n = false → (u.fp i).fill = .linkWait ∧ (u.meter i).auth = { a with state := .inUse, timer := none })))

/-- A PENDING authorization returns to NONE and its slot is released by CANCEL_AUTH, and, with AUTH_EXPIRED posted, by its
timer; CANCEL_AUTH of a record in NONE or IN_USE is refused (R158, R159, R173). That an AUTH_EXPIRED not due, or of a record
that is not PENDING, changes nothing is the model's choice (notes/assumptions/3.md). -/
def Obligations.AuthorizationIsCancelledOrExpires : Prop :=
  ∀ (s : State) (n : Nat),
    let gone := fun i : FpId =>
      { s with mtu := upd s.mtu i { s.meter i with auth := Auth.empty }, cqr := { s.cqr with slots := s.cqr.slots - 1 } }
    (4 ≤ n → Refuses (.cancelAuth n) s .badField) ∧
    (∀ h : n < 4,
      ((s.meter ⟨n, h⟩).auth.state = .pending → Answers (.cancelAuth n) s (.accepted []) (gone ⟨n, h⟩)) ∧
      ((s.meter ⟨n, h⟩).auth.state ≠ .pending → Refuses (.cancelAuth n) s .badState)) ∧
    (∀ i : FpId,
      ((s.meter i).auth.state = .pending → (s.meter i).auth.timer = some 0 → exec (.authExpired i) s =
        .next { gone i with sli := { s.sli with summary := s.sli.summary ||| BitVec.twoPow 15 5 } }) ∧
      ((s.meter i).auth.state ≠ .pending ∨ (s.meter i).auth.timer ≠ some 0 → exec (.authExpired i) s = .next s))

/-- CLEAR_CREEP is accepted in every state of the site, reports the counter and the block as they stood, and clears both
(R170). That a block that is set is the byte 1 is the model's choice (notes/assumptions/13.md). -/
def Obligations.ClearCreepReportsAndClears : Prop :=
  ∀ (s : State) (n : Nat),
    (4 ≤ n → Refuses (.clearCreep n) s .badField) ∧
    (∀ h : n < 4, Answers (.clearCreep n) s
      (.accepted (be 4 (s.meter ⟨n, h⟩).creep ++ be 1 (s.meter ⟨n, h⟩).creepBlock.toNat))
      { s with mtu := upd s.mtu ⟨n, h⟩ { s.meter ⟨n, h⟩ with creep := 0, creepBlock := false } })

/-! ### The site (chapter 11) -/

/-- OPEN and CLOSE move the forecourt of an OPERATING site alone; ENTER_MAINT takes a quiet OPERATING site, no compressor
running or about to, into MAINTENANCE with the forecourt closed. A change posts SITE; all else is refused with BAD_STATE
(R186, R190, R191). -/
def Obligations.ForecourtAndMaintenance : Prop :=
  ∀ s : State,
    let moved := fun (st : SiteState) (op : Bool) =>
      { s with site := { s.site with state := st, forecourtOpen := op }
               sli := { s.sli with summary :=
                 if st ≠ s.site.state ∨ op ≠ s.site.forecourtOpen then s.sli.summary ||| BitVec.twoPow 15 10
                 else s.sli.summary } }
    let atRest := (∀ i : FpId, (s.meter i).auth.state ≠ .pending ∧
        ((s.fp i).fill = .idle ∨ (s.fp i).fill = .complete ∨ (s.fp i).fill = .fault)) ∧
      ∀ k : CompId, (s.comp k).state = .off ∨ (s.comp k).state = .disabled ∨ (s.comp k).state = .tripped
    (s.site.state = .operating →
      Answers .openForecourt s (.accepted (siteRecordBytes (moved .operating true))) (moved .operating true) ∧
      Answers .closeForecourt s (.accepted (siteRecordBytes (moved .operating false))) (moved .operating false)) ∧
    (s.site.state = .operating → atRest →
      Answers .enterMaint s (.accepted (siteRecordBytes (moved .maintenance false))) (moved .maintenance false)) ∧
    (s.site.state ≠ .operating → Refuses .openForecourt s .badState ∧ Refuses .closeForecourt s .badState) ∧
    (s.site.state ≠ .operating ∨ ¬ atRest → Refuses .enterMaint s .badState)

/-- COMMISSION makes its checks in the order of R189 and answers with the first that fails; where all hold, the site is
commissioned and lands by R188: POWERDOWN while POWER_FAIL is asserted, else SHUTDOWN with the first of the three asserted
causes, else OPERATING, the forecourt closed in each. -/
def Obligations.CommissionChecksInOrder : Prop :=
  ∀ s : State,
    let table := (∀ j, (sel s.density j).loaded = true) ∧ ∀ j < 16, ∀ i < 19, s.entryAt (j + 1) i ≤ s.entryAt j i
    let bound := fun bd : Binding => ∃ i : ChanId, (s.chan i).binding = bd
    let channels := (∀ i : FpId, (s.fp i).loaded = true → bound (.nozzleP i) ∧ bound (.gasT i)) ∧
      (∀ b : BankId, (s.bank b).entry.valid = true → bound (.bankP b) ∧ bound (.bankT b)) ∧
      bound .coldStoreT ∧ bound .ambientT ∧
      (∀ k : CompId, (s.comp k).loaded = true → bound (.dischargeT k) ∧ bound .supplyP)
    let entries := (∀ r, (sel s.ramp r).loaded = true) ∧ s.pcm.loaded = true ∧ (∃ i : FpId, (s.fp i).loaded = true) ∧
      (∀ i : FpId, (s.fp i).loaded = true → ∀ b ∈ (s.fp i).entry.cascade, (s.bank b).entry.valid = true) ∧ channels
    let roles := ∀ r, s.roleNeeded (roleAt r) = true → sel s.roleMap r ≠ none
    let landing : SiteState × ShutCause :=
      if s.inputAsserted .powerFail = true then (.powerdown, s.site.cause)
      else if s.combined .esd = true then (.shutdown, .esd)
      else if s.combined .gasAlarm = true then (.shutdown, .gasAlarm)
      else if s.combined .fireAlarm = true then (.shutdown, .fireAlarm)
      else (.operating, .noCause)
    (s.site.state ≠ .unconfigured → Refuses .commission s .badState) ∧
    (s.site.state = .unconfigured →
      (s.site.paramsLoaded = false → Refuses .commission s .notConfigured) ∧
      (s.site.paramsLoaded = true → ¬ table → Refuses .commission s .tableOrder) ∧
      (s.site.paramsLoaded = true → table → ¬ entries → Refuses .commission s .notConfigured) ∧
      (s.site.paramsLoaded = true → table → entries → ¬ roles → Refuses .commission s .unmapped) ∧
      (s.site.paramsLoaded = true → table → entries → roles → ∃ u : State,
        Answers .commission s (.accepted (siteRecordBytes u)) u ∧ u.tables = s.tables ∧ u.prices = s.prices ∧
        u.site = { s.site with commissioned := true, state := landing.1, forecourtOpen := false, cause := landing.2 }))

/-- DECOMMISSION, LEAVE_MAINT and RESUME each take the site from the state of their rule to the state of their rule, the
forecourt closed and, on leaving MAINTENANCE, every FORCE_OPEN line back to AUTO, and are refused with BAD_STATE elsewhere. A
RESUME from POWERDOWN lands by the choice of R188: OPERATING, or SHUTDOWN with the first asserted of ESD, GAS_ALARM and
FIRE_ALARM as its cause (R18, R188, R190, R191, R193). -/
def Obligations.SiteTransitions : Prop :=
  ∀ s : State,
    let quiet := (∀ i : FpId, (s.meter i).auth.state ≠ .pending ∧
        ((s.fp i).fill = .idle ∨ (s.fp i).fill = .complete ∨ (s.fp i).fill = .fault)) ∧
      ∀ k : CompId, (s.comp k).state ≠ .starting ∧ (s.comp k).state ≠ .recirc ∧ (s.comp k).state ≠ .filling ∧
        (s.comp k).state ≠ .stopping
    let goes := fun (c : Instr) (site : Site) => ∃ u : State, Answers c s (.accepted (siteRecordBytes u)) u ∧
      u.site = site ∧ u.tables = s.tables ∧ u.prices = s.prices ∧
      (s.site.state = .maintenance → ∀ o, sel u.lineModes o =
        if sel s.lineModes o = .forceOpen then .auto else sel s.lineModes o) ∧
      (s.site.state ≠ .maintenance → u.lineModes = s.lineModes)
    let alarm := s.combined .esd = true ∨ s.combined .gasAlarm = true ∨ s.combined .fireAlarm = true
    let first : ShutCause := if s.combined .esd = true then .esd
      else if s.combined .gasAlarm = true then .gasAlarm else .fireAlarm
    let operating : Site := { s.site with state := .operating, forecourtOpen := false, cause := .noCause }
    (s.site.state = .operating → quiet → goes .decommission
      { s.site with state := .unconfigured, forecourtOpen := false, cause := .noCause, commissioned := false }) ∧
    (s.site.state ≠ .operating ∨ ¬ quiet → Refuses .decommission s .badState) ∧
    (s.site.state = .maintenance → goes .leaveMaint operating) ∧
    (s.site.state ≠ .maintenance → Refuses .leaveMaint s .badState) ∧
    (s.site.state = .shutdown → ¬ alarm → goes .resume operating) ∧
    (s.site.state = .shutdown → alarm → Refuses .resume s .badState) ∧
    (s.site.state = .powerdown → s.inputAsserted .powerFail = true → Refuses .resume s .badState) ∧
    (s.site.state = .powerdown → s.inputAsserted .powerFail = false → s.site.commissioned = true → ¬ alarm →
      goes .resume operating) ∧
    (s.site.state = .powerdown → s.inputAsserted .powerFail = false → s.site.commissioned = true → alarm →
      goes .resume { s.site with state := .shutdown, forecourtOpen := false, cause := first }) ∧
    (s.site.state ≠ .shutdown → s.site.state ≠ .powerdown → Refuses .resume s .badState)

/-- SHUTDOWN, from the host in OPERATING and MAINTENANCE, ends every running fill, empties BKA and PCM's wait list, cancels every
PENDING authorization, leaves no compressor or chiller running and drives every valve line closed (R17, R55, R73, R84, R93,
R116, R160, R192). -/
def Obligations.ShutdownHaltsTheForecourt : Prop :=
  ∀ s : State,
    (s.site.state = .operating ∨ s.site.state = .maintenance → ∃ u : State,
      Answers .shutdownCommand s (.accepted (siteRecordBytes u)) u ∧ u.tables = s.tables ∧ u.prices = s.prices ∧
      u.site = { s.site with state := .shutdown, forecourtOpen := false, cause := .host } ∧ s.ShutDown u) ∧
    (s.site.state ≠ .operating → s.site.state ≠ .maintenance → Refuses .shutdownCommand s .badState)

/-- SOFT_RESET is taken in every state: the tables, the prices and the clocks stand; every fill, grant, wait, channel, line
mode and refill list is back at rest, no authorization is PENDING and no flag is posted; the site lands by R188 (R8, R49,
R55, R74, R86, R118, R195). MODEL'S CHOICE (notes/assumptions/12.md): a landing in the state held already is no entry. -/
def Obligations.SoftResetRestartsTheBlocks : Prop :=
  ∀ s : State,
    let landing : SiteState × ShutCause :=
      if s.site.commissioned = false then (.unconfigured, .noCause)
      else if s.inputAsserted .powerFail = true then (.powerdown, s.site.cause)
      else if s.combined .esd = true then (.shutdown, .esd)
      else if s.combined .gasAlarm = true then (.shutdown, .gasAlarm)
      else if s.combined .fireAlarm = true then (.shutdown, .fireAlarm)
      else (.operating, .noCause)
    ∃ u : State, Answers .softReset s (.accepted (siteRecordBytes u)) u ∧ u.tables = s.tables ∧ u.prices = s.prices ∧
      u.site = { s.site with state := landing.1, forecourtOpen := false, cause := landing.2 } ∧ u.sli.summary = 0 ∧
      (∀ o, sel u.lineModes o = .auto) ∧ u.refill = [] ∧ (∀ b, u.holderOf b = none ∧ u.stackedAt b = []) ∧
      u.pcm.waitList = [] ∧ (∀ i, (u.reservation i).state = .noRecord) ∧ u.pcm.band = .a5 ∧
      (∀ i, (u.fp i).fill = .idle ∧ (u.fp i).mode = .undecided ∧ (u.link i).state = .idle ∧
        (u.meter i).auth.state ≠ .pending ∧ (u.meter i).window = false) ∧
      (∀ c, (u.chan c).status = .stale ∧ (u.chan c).failCount = 0 ∧ (u.chan c).staleTimer = none ∧
        (u.chan c).value = (s.chan c).value) ∧
      (∀ k, (u.comp k).state = .off ∨ (u.comp k).state = .disabled ∨ (u.comp k).state = .tripped)

/-- POWER_ON_RESET: every block stands at its reset values, each filtered level at the level its line has, and CQR at the
content of a good retained image, or at an empty image being written, with RETAINED_LOST and RETAINED posted, where the
memory is blank, reports an error, or fails the checks of R184. After a write that was in flight or had failed, the image of
the last completed write is restored, or the memory is found damaged (R10, R184, R196). The model's choices: the waiting commands
stay in the queue (notes/assumptions/30.md), reset values the manual does not give (5.md, 43.md, 44.md), that a blank memory fails its check
(4.md), and which of the two is found after a
write that did not complete is a free value (2.md). -/
def Obligations.PowerOnResetStartsAfresh : Prop :=
  ∀ (s : State) (levels : BitVec 32) (err : Bool),
    let lost := fun t : State => t.cqr.lost = true ∧ t.cqr.queue = [] ∧ t.cqr.slots = 0 ∧ t.cqr.nextNumber = 1 ∧
      (∀ i, sel t.cqr.totals i = { mass := 0, amount := 0, fills := 0 }) ∧ t.cqr.fault = false ∧
      t.sli.summary = BitVec.twoPow 15 13 ∧ ∃ w, t.cqr.write = some w ∧ w.timer = some 50 ∧
        w.image.image = RetainedImage.empty
    let restored := fun (t : State) (g : StoredImage) => t.cqr.lost = false ∧ t.cqr.queue = g.image.records ∧
      t.cqr.slots = g.image.records.length ∧ t.cqr.nextNumber = g.image.nextNumber ∧ t.cqr.totals = g.image.totals ∧
      t.cqr.write = none ∧ t.cqr.fault = false ∧ t.sli.summary = 0
    ∃ t, exec (.powerOnReset levels err) s = .next t ∧
      t = { State.reset with lines := t.lines, cqr := t.cqr, sli := t.sli, orderCount := t.orderCount,
                             pending := s.pending } ∧
      t.sli = { State.reset.sli with summary := t.sli.summary } ∧
      (∀ l, t.line l = { fn := .noFn, target := 0, polarity := .normal, mode := .level, raw := levels.getLsbD l.val,
                         filtered := levels.getLsbD l.val, filterRunning := false }) ∧
      (err = true ∨ s.cqr.store = .blank ∨ (∃ g, (s.cqr.store = .holds g ∨ s.cqr.store = .unsure g) ∧ g.valid = false) →
        lost t) ∧
      (∀ g, err = false → s.cqr.store = .holds g → s.cqr.write = none → g.valid = true → restored t g) ∧
      (∀ g, err = false → s.cqr.store = .unsure g ∨ (s.cqr.store = .holds g ∧ s.cqr.write ≠ none) → g.valid = true →
        restored t g ∨ lost t)

/-- VALVE_MODE: an unknown line or mode is refused with BAD_FIELD, FORCE_OPEN outside MAINTENANCE with NOT_PERMITTED; any other
sets the line's mode in every state of the site, and the line's drive follows R17 at once while every other drive stays. -/
def Obligations.ValveModeSetsTheDrive : Prop :=
  ∀ (s : State) (n m : Nat),
    (64 ≤ n ∨ 4 ≤ m → Refuses (.valveMode n m) s .badField) ∧
    (n < 64 → m = 2 → s.site.state ≠ .maintenance → Refuses (.valveMode n m) s .notPermitted) ∧
    (∀ h : n < 64, m < 4 → (m = 2 → s.site.state = .maintenance) →
      let o : Fin 64 := ⟨n, h⟩
      ∃ u : State, Answers (.valveMode n m) s (.accepted []) u ∧
        u = { s with lineModes := upd s.lineModes o (sel u.lineModes o) } ∧ (sel u.lineModes o).code = m ∧
        (∀ p, p ≠ o → u.drive p = s.drive p) ∧
        (s.site.state = .shutdown ∨ s.site.state = .powerdown → u.drive o = .drivenClosed) ∧
        (s.site.state ≠ .shutdown → s.site.state ≠ .powerdown →
          (m = 1 → u.drive o = .drivenClosed) ∧ (m = 2 → u.drive o = .drivenOpen) ∧ (m = 3 → u.drive o = .notDriven) ∧
          (m = 0 → (∀ r, sel s.roleMap r ≠ some o) → u.drive o = .drivenClosed) ∧
          (m = 0 → ∀ r, (∀ r', sel s.roleMap r' = some o ↔ r' = r) →
            u.drive o = if s.roleOpen (roleAt r) = true then .drivenOpen else .drivenClosed)))

/-! ### FP_COMMAND and the ends of a fill (chapter 6) -/

/-- FP_COMMAND for a fuelling point above 3 is refused with BAD_FIELD, for one without an entry with NOT_CONFIGURED, and START,
STOP, HOLD, RELEASE_HOLD and CLEAR_FAULT outside the conditions of their rules with BAD_STATE (R98, R106, R113, R114). -/
def Obligations.FpCommandsAreRefused : Prop :=
  ∀ (s : State) (n : Nat),
    let commands := [Instr.fpStart n, .fpStop n, .fpHold n, .fpReleaseHold n, .fpClearFault n, .fpReset n]
    (4 ≤ n → ∀ c ∈ commands, Refuses c s .badField) ∧
    (∀ h : n < 4,
      let i : FpId := ⟨n, h⟩
      let running := (s.fp i).fill = .linkWait ∨ (s.fp i).fill = .precoolWait ∨ (s.fp i).fill = .leakCheck ∨
        (s.fp i).fill = .filling
      ((s.fp i).loaded = false → ∀ c ∈ commands, Refuses c s .notConfigured) ∧
      ((s.fp i).loaded = true →
        ((s.fp i).fill ≠ .idle ∨ s.site.state ≠ .operating ∨ (s.meter i).auth.state ≠ .pending ∨
          s.nozzleCondition i ≠ .connected ∨ s.combined .breakaway n = true ∨ s.combined .meterError n = true →
          Refuses (.fpStart n) s .badState) ∧
        (¬ running → Refuses (.fpStop n) s .badState) ∧
        (¬ running ∨ (s.fp i).hostHold = true → Refuses (.fpHold n) s .badState) ∧
        ((s.fp i).hostHold = false → Refuses (.fpReleaseHold n) s .badState) ∧
        ((s.fp i).fill ≠ .fault ∨ s.nozzleCondition i ≠ .holstered → Refuses (.fpClearFault n) s .badState)))

/-- START, where every condition of R98 holds, sets up the fill context and the ramp state, takes the authorization into use,
opens the transaction with its captured price and preset, and makes the receiver listen; no other unit is touched (R98, R140,
R144, R163). That the present SOC is cleared with the rest of the fill context is DEDUCED (notes/assumptions/24.md), and
that the cleared Pstart is 0 (43.md) and that the segment counter and the watch mark are cleared here (46.md) are the model's
choices. -/
def Obligations.FpStartOpensAFill : Prop :=
  ∀ (s : State) (i : FpId), (s.fp i).loaded = true → (s.fp i).fill = .idle → s.site.state = .operating →
    (s.meter i).auth.state = .pending → s.nozzleCondition i = .connected → s.combined .breakaway i.val = false →
    s.combined .meterError i.val = false →
    Answers (.fpStart i.val) s (.accepted [])
      { s with
        fps := upd s.fps i { s.fp i with
          fill := .linkWait, sub := none, reason := none, mode := .undecided, hostHold := false, vehicleHold := false,
          ventFail := false, estimate := none, category := none, firstP := none, firstT := none, admClass := none,
          admBand := none, cascadePos := none, link := .unlinked, p0 := none, presentSoc := none,
          acquisition := some s.site.params.linkAcquisition, active := none, pendingEntry := none, switchPending := false,
          pstart := 0, clock := 0, segment := 0, pause := false, sync := false, watchCount := 0, watchOpen := false }
        mtu := upd s.mtu i { s.meter i with
          auth := { (s.meter i).auth with state := .inUse, timer := none }, window := false, flow := [],
          txn := some {
            live := true, price := (s.meter i).auth.price, mass := 0, amount := 0, draw := [], startClass := none,
            finalClass := none, p0 := none, finalSoc := none, startTime := s.site.calendar, endTime := none, reason := none,
            kind := (s.meter i).auth.kind, value := (s.meter i).auth.value,
            flags := { noncomm := false, linkLost := false, implausible := false, downgraded := false, clamped := false,
                       powerSaved := false } } }
        vlr := upd s.vlr i { s.link i with
          state := .listening, volume := none, receptacle := none, last := none, implausCount := 0, crcErrors := 0,
          formatErrors := 0, rangeErrors := 0, ignored := 0 }
        sli := { s.sli with summary := s.sli.summary ||| BitVec.twoPow 15 i.val } }

/-- STOP ends a running fill with CUSTOMER_STOP and the maximum fill time one in LEAK_CHECK or FILLING with TIME_LIMIT, each by
the path of its phase (R107 to R110). That the expiry changes nothing where it is not due is the model's choice
(notes/assumptions/3.md). -/
def Obligations.RunningFillEnds : Prop :=
  ∀ (s : State) (i : FpId),
    ((s.fp i).loaded = true → (s.fp i).fill = .leakCheck ∨ (s.fp i).fill = .filling →
      ∃ u : State, Answers (.fpStop i.val) s (.accepted []) u ∧ s.ClosedBy u i .customerStop) ∧
    ((s.fp i).loaded = true → (s.fp i).fill = .linkWait ∨ (s.fp i).fill = .precoolWait → s.WaitOk →
      ∃ u : State, Answers (.fpStop i.val) s (.accepted []) u ∧ s.EndedEarly u i .customerStop) ∧
    ((s.fp i).maxFill = some 0 → (s.fp i).fill = .leakCheck ∨ (s.fp i).fill = .filling →
      ∃ t, exec (.maxFillTimeExpiry i) s = .next t ∧ s.ClosedBy t i .timeLimit) ∧
    ((s.fp i).maxFill ≠ some 0 ∨ ((s.fp i).fill ≠ .leakCheck ∧ (s.fp i).fill ≠ .filling) →
      exec (.maxFillTimeExpiry i) s = .next s)

/-- HOLD sets the host hold of a running fill and RELEASE_HOLD clears it. A fill in FILLING takes the substate HOLD, or keeps
BANK_WAIT, and goes on in FLOW with its ramp rebased once no level hold stands, unless a synchronous hold keeps it in HOLD; one in
LEAK_CHECK that waits for its pulse begins it; one in LINK_WAIT with its mode decided goes on to admission; every other only
loses the hold (R100, R102, R106, R114, R122, R133, R136). -/
def Obligations.HostHoldsHoldTheFill : Prop :=
  ∀ (s : State) (i : FpId), (s.fp i).loaded = true →
    let f := s.fp i
    let free := s.combined .siteHold = false ∧ (f.vehicleHold = true → f.mode ≠ .communication)
    let held := fun (host : Bool) (sub : Substate) =>
      { s with fps := upd s.fps i { f with hostHold := host, sub := some sub, lowFlow := none, grace := none }
               sli := { s.sli with
                 summary := s.sli.summary ||| if f.sub = some sub then 0 else BitVec.twoPow 15 i.val } }
    let flagged := fun (host : Bool) => { s with fps := upd s.fps i { f with hostHold := host } }
    let where_ := if f.link = .stacked then Substate.bankWait else .hold
    (f.hostHold = false →
      (f.fill = .linkWait ∨ f.fill = .precoolWait ∨ f.fill = .leakCheck →
        Answers (.fpHold i.val) s (.accepted []) (flagged true)) ∧
      (f.fill = .filling → Answers (.fpHold i.val) s (.accepted []) (held true where_))) ∧
    (f.hostHold = true →
      (¬ free → f.fill = .linkWait ∨ f.fill = .precoolWait ∨ f.fill = .leakCheck →
        Answers (.fpReleaseHold i.val) s (.accepted []) (flagged false)) ∧
      (¬ free → f.fill = .filling → Answers (.fpReleaseHold i.val) s (.accepted []) (held false where_)) ∧
      (f.fill = .precoolWait → Answers (.fpReleaseHold i.val) s (.accepted []) (flagged false)) ∧
      (free → f.fill = .leakCheck → f.link ≠ .granted ∨ f.leakPulse ≠ none ∨ f.leakHold ≠ none →
        Answers (.fpReleaseHold i.val) s (.accepted []) (flagged false)) ∧
      (free → f.fill = .filling → f.link = .stacked ∨ f.sync = true →
        Answers (.fpReleaseHold i.val) s (.accepted []) (held false where_)) ∧
      (f.fill = .idle ∨ f.fill = .settling ∨ f.fill = .venting ∨ f.fill = .complete ∨ f.fill = .fault →
        Answers (.fpReleaseHold i.val) s (.accepted []) (flagged false)) ∧
      (free → f.fill = .filling → f.link ≠ .stacked → f.sync = false → f.sub ≠ some .flow →
        Answers (.fpReleaseHold i.val) s (.accepted [])
          { s with
            fps := upd s.fps i { f with
              hostHold := false, sub := some .flow, pstart := f.nozzle, clock := 0, pause := false,
              lowFlow := if (s.meter i).figure < s.site.params.stepFlow * 1000 then some s.site.params.stepDwell else none }
            sli := { s.sli with summary := s.sli.summary ||| BitVec.twoPow 15 i.val } }) ∧
      (free → f.fill = .leakCheck → f.link = .granted → f.leakPulse = none → f.leakHold = none →
        Answers (.fpReleaseHold i.val) s (.accepted [])
          { s with fps := upd s.fps i { f with hostHold := false, leakPulse := some s.site.params.leakPulse } }) ∧
      (free → f.fill = .linkWait → f.mode = .undecided → Answers (.fpReleaseHold i.val) s (.accepted []) (flagged false)) ∧
      (free → f.fill = .linkWait → f.mode ≠ .undecided → (s.reservation i).state = .noRecord →
        ∃ u : State, Answers (.fpReleaseHold i.val) s (.accepted []) u ∧ (u.fp i).hostHold = false ∧
          ((u.fp i).fill = .precoolWait ∨ (u.fp i).fill = .leakCheck ∨ (u.fp i).fill = .settling) ∧
          (u.fp i).estimate.isSome = true) ∧
      (free → f.fill = .linkWait → f.mode ≠ .undecided → (s.reservation i).state ≠ .noRecord →
        ∃ u : State, Answers (.fpReleaseHold i.val) s (.accepted []) u ∧ (u.fp i).hostHold = false ∧
          (u.fp i).fill = .linkWait ∧ u.pcm = s.pcm))

/-- CLEAR_FAULT takes a fuelling point in FAULT with its nozzle HOLSTERED to IDLE and clears VENT_FAIL (R113). RESET, while wait list
and reservation records agree (State.WaitOk, which every step keeps), takes one in any state to IDLE with its timers, holds and flags
cleared, loads the record of a fill that ran or settled, cancels a PENDING authorization of an idle one, and leaves no record at PCM
(R86, R93, R115, R168, R174). A fill that settles without a reason, which none does, would get RESET (notes/assumptions/35.md, a
DESIGN CHOICE). -/
def Obligations.ClearFaultAndReset : Prop :=
  ∀ (s : State) (i : FpId), (s.fp i).loaded = true →
    ((s.fp i).fill = .fault → s.nozzleCondition i = .holstered →
      Answers (.fpClearFault i.val) s (.accepted [])
        { s with fps := upd s.fps i { s.fp i with fill := .idle, sub := none, ventFail := false }
                 sli := { s.sli with summary := s.sli.summary ||| BitVec.twoPow 15 i.val } }) ∧
    (s.WaitOk → ∃ u : State, Answers (.fpReset i.val) s (.accepted []) u ∧
      (u.fp i).fill = .idle ∧ (u.fp i).sub = none ∧ (u.fp i).mode = .undecided ∧ (u.fp i).hostHold = false ∧
      (u.fp i).vehicleHold = false ∧ (u.fp i).ventFail = false ∧ (u.fp i).link = .unlinked ∧
      (u.fp i).acquisition = none ∧ (u.fp i).bankWait = none ∧ (u.fp i).leakPulse = none ∧ (u.fp i).leakHold = none ∧
      (u.fp i).maxFill = none ∧ (u.fp i).settle = none ∧ (u.fp i).vent = none ∧ (u.fp i).grace = none ∧
      (u.fp i).lowFlow = none ∧ u.fixed = s.fixed ∧ u.banks = s.banks ∧ u.refill = s.refill ∧
      (u.reservation i).state = .noRecord ∧ i ∉ u.pcm.waitList ∧
      ((s.fp i).fill = .idle → (s.meter i).auth.state = .pending →
        (u.meter i).auth = Auth.empty ∧ u.cqr = { s.cqr with slots := s.cqr.slots - 1 }) ∧
      ((s.fp i).fill = .idle ∧ (s.meter i).auth.state ≠ .pending ∨ (s.fp i).fill = .venting ∨ (s.fp i).fill = .complete ∨
        (s.fp i).fill = .fault → u.cqr = s.cqr ∧ u.meter i = s.meter i) ∧
      (∀ x, (s.meter i).txn = some x → (s.fp i).fill ≠ .idle → (s.fp i).fill ≠ .venting → (s.fp i).fill ≠ .complete →
        (s.fp i).fill ≠ .fault →
        (u.meter i).auth = Auth.empty ∧ u.cqr.slots = s.cqr.slots ∧ ∃ q : Record, u.cqr.queue = s.cqr.queue ++ [q] ∧
          q.number = s.cqr.nextNumber ∧ q.fp = i ∧ q.price = x.price ∧ q.mass = x.mass ∧
          q.amount = amountOf x.mass x.price ∧
          q.reason = if (s.fp i).fill = .settling then ((s.fp i).reason).getD .reset else .reset))

/-! ### Banks, compressors and the chiller (chapters 3 to 5) -/

/-- A plausible pressure delivery of a bank is kept, recomputes the inventory where the temperature is GOOD, and at or above the
rated pressure, with a compressor holding the bank, latches the protection trip and takes the bank off the refill list. A
temperature delivery is kept, recomputes the inventory where the pressure is GOOD, and evaluates the refill only where it ends a
SENSOR fault. A quantity that becomes HELD keeps its value, and a valid bank whose two quantities were GOOD loses its grant, its
requests and its place on the refill list. BANK CLEAR_FAULT needs the latch and the reload mark, clears both, and lists the bank
again where it now needs filling (R38, R39, R41, R42, R43, R44, R46, R47). -/
def Obligations.BankDeliveriesAndClearFault : Prop :=
  ∀ (s : State),
    (∀ (ch : ChanId) (raw : BitVec 16) (b : BankId) (v : Nat), (s.chan ch).binding = .bankP b →
      v = (s.chan ch).scaled raw.toNat → (s.chan ch).plausible v = true →
      let k := s.bank b
      let held := ∃ c : CompId, s.holderOf b = some (csReq c)
      ∃ t, exec (.sampleArrival ch raw) s = .next t ∧ (∀ c, c ≠ b → t.bank c = s.bank c) ∧
        (t.bank b).pressure = v ∧ (t.bank b).pressureGood = true ∧ (t.bank b).temperature = k.temperature ∧
        (k.temperatureGood = true → (t.bank b).inventory = massOf (s.lookup v k.temperature).density k.entry.volume ∧
          (t.bank b).indication = (s.lookup v k.temperature).indication) ∧
        (k.temperatureGood = false → (t.bank b).inventory = k.inventory ∧ (t.bank b).indication = k.indication) ∧
        (held → k.entry.rated ≤ v → (t.bank b).protect = true ∧ (t.bank b).reload = false ∧
          t.sli.summary.getLsbD 6 = true ∧ (s.refill.Nodup → b ∉ t.refill)) ∧
        (¬ held ∨ v < k.entry.rated → (t.bank b).protect = k.protect ∧ (t.bank b).reload = k.reload)) ∧
    (∀ (ch : ChanId) (b : BankId) (c : Instr) (v : Nat) (x : Channel), s.Delivers ch (.bankT b) c v x →
      let k := s.bank b
      let clears := k.entry.valid = true ∧ k.temperatureGood = false ∧ k.pressureGood = true
      let listed := k.entry.valid = true ∧ k.entry.fillPermit = true ∧ k.protect = false ∧
        k.pressure < (if b ∈ s.refill then k.entry.refillOff else k.entry.refillOn)
      ∃ t, exec c s = .next t ∧ (∀ d, d ≠ b → t.bank d = s.bank d) ∧ t.fixed = { s.fixed with chans := upd s.chans ch x } ∧
        (k.pressureGood = true → t.bank b = { k with
          temperature := v, temperatureGood := true, inventory := massOf (s.lookup k.pressure v).density k.entry.volume
          indication := (s.lookup k.pressure v).indication }) ∧
        (k.pressureGood = false → t.bank b = { k with temperature := v, temperatureGood := true }) ∧
        (clears → t.sli.summary.getLsbD 6 = true ∧
          (listed → b ∈ t.refill ∧ ∀ d, d ≠ b → (d ∈ t.refill ↔ d ∈ s.refill)) ∧
          (¬ listed → t.refill = s.refill.erase b)) ∧
        (¬ clears → s.csInbox = [] → t = { s with chans := upd s.chans ch x, banks := t.banks })) ∧
    (∀ (ch : ChanId) (b : BankId) (bd : Binding) (c : Instr) (x : Channel) (k' : Bank), s.FallsHeld ch bd c x →
      let k := s.bank b
      let fresh := k.entry.valid = true ∧ k.pressureGood = true ∧ k.temperatureGood = true
      (bd = .bankP b ∧ k' = { k with pressure := x.value, pressureGood := false }) ∨
        (bd = .bankT b ∧ k' = { k with temperature := x.value, temperatureGood := false }) →
      ∃ t, exec c s = .next t ∧ t.banks = upd s.banks b k' ∧ t.fixed = { s.fixed with chans := upd s.chans ch x } ∧
        t.sli.summary.getLsbD 11 = true ∧
        (fresh → t.holderOf b = none ∧ t.stackedAt b = [] ∧ (s.refill.Nodup → b ∉ t.refill) ∧ t.sli.summary.getLsbD 6 = true) ∧
        (¬ fresh → s.csInbox = [] → t = { s.fallen ch x with banks := upd s.banks b k' })) ∧
    (∀ n, 8 ≤ n → Refuses (.bankClearFault n) s .badField) ∧
    (∀ b : BankId,
      let k := s.bank b
      let listed := k.entry.valid = true ∧ k.entry.fillPermit = true ∧ k.pressureGood = true ∧ k.temperatureGood = true ∧
        k.pressure < (if b ∈ s.refill then k.entry.refillOff else k.entry.refillOn)
      (k.protect = false ∨ k.reload = false → Refuses (.bankClearFault b.val) s .badState) ∧
      (k.protect = true → k.reload = true → ∃ u : State, Answers (.bankClearFault b.val) s (.accepted []) u ∧
        u.banks = upd s.banks b { k with protect := false, reload := false } ∧ u.fixed = s.fixed ∧
        u.sli.summary.getLsbD 6 = true ∧
        (listed → b ∈ u.refill ∧ ∀ c, c ≠ b → (c ∈ u.refill ↔ c ∈ s.refill)) ∧
        (¬ listed → u.refill = s.refill.erase b)))

/-- COMPRESSOR_COMMAND by the table of R59 and by R72: ENABLE of a loaded DISABLED compressor and CLEAR_TRIP, where the trip
input is down and the discharge temperature GOOD and within its limit, bring it to OFF with its minimum-off timer, DISABLE
stops a running one with the disable pending and takes one at rest to DISABLED; everything else is refused. -/
def Obligations.CompressorCommands : Prop :=
  ∀ (s : State),
    (∀ n, 2 ≤ n → Refuses (.compressorEnable n) s .badField ∧ Refuses (.compressorDisable n) s .badField ∧
      Refuses (.compressorClearTrip n) s .badField) ∧
    ∀ k : CompId,
      let c := s.comp k
      let atRest := { c with minOff := none, start := none, minRun := none, bankWait := none, runDown := none,
                             disablePending := false, tripCause := none, target := none }
      let toOff := fun (i : Instr) => ∃ u : State, Answers i s (.accepted []) u ∧ u.banks = s.banks ∧ u.fixed = s.fixed ∧
        u.sli.summary.getLsbD (7 + k.val) = true ∧
        (u.comp k = { atRest with state := .off, minOff := some c.entry.minOff } ∨
          u.comp k = { atRest with state := .startDeferred, minOff := some c.entry.minOff })
      let mayClear := s.inputAsserted .compressorTrip k.val = false ∧ c.dischargeGood = true ∧
        c.discharge ≤ c.entry.dischargeLimit
      (c.state = .disabled → c.loaded = true → toOff (.compressorEnable k.val)) ∧
      (c.state = .disabled → c.loaded = false → Refuses (.compressorEnable k.val) s .notConfigured) ∧
      (c.state ≠ .disabled → Refuses (.compressorEnable k.val) s .badState) ∧
      (c.state = .off ∨ c.state = .startDeferred ∨ c.state = .tripped →
        ∃ u : State, Answers (.compressorDisable k.val) s (.accepted []) u ∧ u.comp k = { atRest with state := .disabled } ∧
          u.banks = s.banks ∧ u.fixed = s.fixed) ∧
      (c.state = .starting ∨ c.state = .recirc ∨ c.state = .filling →
        ∃ u : State, Answers (.compressorDisable k.val) s (.accepted []) u ∧ u.banks = s.banks ∧ u.fixed = s.fixed ∧
          u.comp k = { c with state := .stopping, disablePending := true, target := none, start := none, minRun := none,
                              bankWait := none, runDown := some c.entry.runDown } ∧
          ∀ b, c.target = some b → u.holderOf b ≠ some (csReq k)) ∧
      (c.state = .stopping → Answers (.compressorDisable k.val) s (.accepted [])
        { s with cs := upd s.cs k { c with disablePending := true } }) ∧
      (c.state = .disabled → Refuses (.compressorDisable k.val) s .badState) ∧
      (c.state = .tripped → mayClear → toOff (.compressorClearTrip k.val)) ∧
      (c.state ≠ .tripped ∨ ¬ mayClear → Refuses (.compressorClearTrip k.val) s .badState)

/-- CHILLER_COMMAND by the table of R82 and by R83: ENABLE of a loaded DISABLED chiller, and CLEAR_TRIP with the trip input
down, bring it to IDLE and evaluate it, so that it runs where the site is active and a reservation, a HELD or a too warm store
asks for it; DISABLE takes it out of service unless it runs for an outstanding reservation; everything else is refused. Each
cold-store temperature, and its becoming HELD, is kept and evaluates the chiller: an idle one starts, and a running one that
nothing forces stops at the lower edge of its band; a delivery then admits the head of the wait list where it fits (R78, R80,
R81, R92). -/
def Obligations.ChillerCommands : Prop :=
  ∀ (s : State),
    let p := s.pcm
    let runs := (s.site.state = .operating ∨ s.site.state = .maintenance) ∧
      (0 < s.outstandingSum ∨ p.tcsGood = false ∨ p.entry.setpoint + p.entry.differential < p.tcs)
    let started := fun (i : Instr) => ∃ u : State, Answers i s (.accepted []) u ∧ u.fixed = s.fixed ∧ u.banks = s.banks ∧
      u.sli.summary.getLsbD 9 = true ∧ (runs → u.pcm.chiller = .running) ∧
      (p.waitList = [] → u.pcm = { p with chiller := u.pcm.chiller } ∧ (¬ runs → u.pcm.chiller = .idle))
    let active := s.site.state = .operating ∨ s.site.state = .maintenance
    let stands := fun (u : State) (c : Chiller) =>
      { u with pcm := { u.pcm with chiller := c }
               sli := { u.sli with summary := u.sli.summary ||| if c = p.chiller then 0 else BitVec.twoPow 15 9 } }
    (∀ (ch : ChanId) (i : Instr) (v : Nat) (x : Channel), s.csInbox = [] → s.Delivers ch .coldStoreT i v x →
      let s1 : State := { s with chans := upd s.chans ch x, pcm := { p with tcs := v, tcsGood := true } }
      let starts := p.chiller = .idle ∧ active ∧ (0 < s.outstandingSum ∨ p.entry.setpoint + p.entry.differential < v)
      let stops := p.chiller = .running ∧ active ∧ s.outstandingSum = 0 ∧ v ≤ p.entry.setpoint - p.entry.differential
      let fits := fun (j : FpId) => s1.admitClass j (s.reservation j).estimate ((s.reservation j).category.getD .s)
      ((p.waitList = [] ∨ ∃ j rest, p.waitList = j :: rest ∧ fits j = none) →
        (starts → exec i s = .next (stands s1 .running)) ∧ (stops → exec i s = .next (stands s1 .idle)) ∧
        (¬ starts → ¬ stops → exec i s = .next s1)) ∧
      (∀ j rest cl, p.waitList = j :: rest → fits j = some cl → s.WaitOk → ∃ t, exec i s = .next t ∧ t.pcm.tcs = v ∧
        (t.reservation j).state = .admitted ∧ (t.reservation j).cls = some cl ∧ j ∉ t.pcm.waitList ∧
        (t.fp j).admClass = some cl)) ∧
    (∀ (ch : ChanId) (i : Instr) (x : Channel), s.csInbox = [] → s.FallsHeld ch .coldStoreT i x →
      let s1 : State := { s.fallen ch x with pcm := { p with tcs := x.value, tcsGood := false } }
      (p.chiller = .idle → active → exec i s = .next (stands s1 .running)) ∧
      (p.chiller ≠ .idle ∨ ¬ active → exec i s = .next s1)) ∧
    let outOfService : State :=
      { s with pcm := { p with chiller := .disabled }
               sli := { s.sli with summary := s.sli.summary ||| BitVec.twoPow 15 9 } }
    (p.chiller = .disabled → p.loaded = true → started .chillerEnable) ∧
    (p.chiller = .disabled → p.loaded = false → Refuses .chillerEnable s .notConfigured) ∧
    (p.chiller ≠ .disabled → Refuses .chillerEnable s .badState) ∧
    (p.chiller = .idle ∨ p.chiller = .tripped ∨ (p.chiller = .running ∧ s.outstandingSum = 0) →
      Answers .chillerDisable s (.accepted []) outOfService) ∧
    (p.chiller = .disabled ∨ (p.chiller = .running ∧ s.outstandingSum ≠ 0) → Refuses .chillerDisable s .badState) ∧
    (p.chiller = .tripped → s.inputAsserted .chillerTrip = false → started .chillerClearTrip) ∧
    (p.chiller ≠ .tripped ∨ s.inputAsserted .chillerTrip = true → Refuses .chillerClearTrip s .badState)

/-- The expiries of a compressor's timers. The minimum off and an aged start let a deferred start go ahead where a bank is
chosen and permission stands; the start timer brings RECIRC and the request of the target; the bank wait withdraws it and
looks for another bank; the minimum run stops an idle machine; the run-down ends in OFF, or DISABLED where a disable is
pending (R61 to R69). A start that ends without a target leaves the machine idle in RECIRC, and one whose target is turned down
chooses another. A discharge temperature beyond its limit, or HELD, trips a running machine; a supply pressure below its minimum,
or HELD, stops one; otherwise the figure is kept and permission is evaluated (R62, R66, R70, R71). That an expiry not due
changes nothing is the model's choice (notes/assumptions/3.md). -/
def Obligations.CompressorTimers : Prop :=
  ∀ (s : State) (k : CompId), s.csInbox = [] →
    let c := s.comp k
    let atRest := fun (o : Compressor) => o.state = .disabled ∨ o.state = .tripped ∨ o.state = .stopping ∨ o.state = .filling
    let decides := fun (i : Instr) (s1 : State) =>
      let c1 := s1.comp k
      (c.state ≠ .startDeferred → exec i s = .next s1) ∧
      (c.state = .startDeferred → ∃ t, exec i s = .next t ∧ t.banks = s.banks ∧ t.fixed = s1.fixed ∧
        (s1.chooseBank k none = none → (t.comp k).state = .off ∧ (t.comp k).minOff = c1.minOff) ∧
        (∀ b, s1.chooseBank k none = some b → s1.permitted k = false → t = s1) ∧
        (∀ b, s1.chooseBank k none = some b → s1.permitted k = true →
          t.comp k = { c1 with state := .starting, target := some b, minOff := none, start := some c.entry.startTime
                               history := if c1.history.contains s.site.clock then c1.history
                                          else c1.history ++ [s.site.clock] }))
    (c.minOff = some 0 → decides (.minOffExpiry k) { s with cs := upd s.cs k { c with minOff := none } }) ∧
    (c.minOff ≠ some 0 → exec (.minOffExpiry k) s = .next s) ∧
    (∀ h rest, c.history = h :: rest → 36000 ≤ (s.site.clock - h).toNat →
      decides (.startHistoryAgeing k) { s with cs := upd s.cs k { c with history := rest } }) ∧
    ((∀ h rest, c.history = h :: rest → (s.site.clock - h).toNat < 36000) → exec (.startHistoryAgeing k) s = .next s) ∧
    (∀ b, c.start = some 0 → c.state = .starting → c.target = some b → (s.bank b).usableFill = true →
      s.engaged (csReq k) = false → ∃ t, exec (.startTimerExpiry k) s = .next t ∧ t.banks = s.banks ∧ t.fixed = s.fixed ∧
        (s.holderOf b = none → s.stackedAt b = [] → t.holder = upd s.holder b (some (csReq k)) ∧
          t.comp k = { c with state := .filling, start := none, minRun := some c.entry.minRun }) ∧
        (s.holderOf b ≠ none ∨ s.stackedAt b ≠ [] → t.holder = s.holder ∧ csReq k ∈ t.stackedAt b ∧
          t.comp k = { c with state := .recirc, start := none, minRun := some c.entry.minRun
                              bankWait := some s.site.params.bankWait })) ∧
    (c.start = some 0 → c.state = .starting → c.target = none → exec (.startTimerExpiry k) s = .next
      { s with cs := upd s.cs k { c with state := .recirc, start := none, minRun := some c.entry.minRun }
               sli := { s.sli with summary := s.sli.summary ||| BitVec.twoPow 15 (7 + k.val) } }) ∧
    (∀ b, c.start = some 0 → c.state = .starting → c.target = some b → (s.bank b).usableFill = false →
      atRest (s.comp (otherComp k)) → ∃ t, exec (.startTimerExpiry k) s = .next t ∧ t.banks = s.banks ∧ t.fixed = s.fixed ∧
        (s.chooseBank k (some b) = none → t.holder = s.holder ∧ t.stacked = s.stacked ∧
          t.comp k = { c with state := .recirc, target := none, start := none, minRun := some c.entry.minRun }) ∧
        (∀ d, s.chooseBank k (some b) = some d → (s.bank d).usableFill = true → s.engaged (csReq k) = false →
          (s.holderOf d = none → s.stackedAt d = [] → t.holder = upd s.holder d (some (csReq k)) ∧
            t.comp k = { c with state := .filling, target := some d, start := none, minRun := some c.entry.minRun }) ∧
          (s.holderOf d ≠ none ∨ s.stackedAt d ≠ [] → t.holder = s.holder ∧ csReq k ∈ t.stackedAt d ∧
            t.comp k = { c with state := .recirc, target := some d, start := none, minRun := some c.entry.minRun
                                bankWait := some s.site.params.bankWait }))) ∧
    (c.start ≠ some 0 ∨ c.state ≠ .starting → exec (.startTimerExpiry k) s = .next s) ∧
    (∀ b, c.bankWait = some 0 → c.state = .recirc → c.target = some b → s.ArbiterOk → csReq k ∈ s.stackedAt b →
      (∀ x ∈ s.refill, (s.bank x).usableFill = true) →
      (s.comp (otherComp k)).state = .disabled ∨ (s.comp (otherComp k)).state = .tripped ∨
        (s.comp (otherComp k)).state = .stopping →
      ∃ t, exec (.csBankWaitExpiry k) s = .next t ∧ t.banks = s.banks ∧ t.refill = s.refill ∧ t.fixed = s.fixed ∧
        (t.comp k).target ≠ some b ∧ csReq k ∉ t.stackedAt b ∧ t.holderOf b = s.holderOf b ∧
        ((t.comp k).target = none → (c.minRun = none → (t.comp k).state = .stopping) ∧
          (c.minRun ≠ none → (t.comp k).state = .recirc ∧ (t.comp k).minRun = c.minRun))) ∧
    (c.bankWait ≠ some 0 ∨ c.state ≠ .recirc → exec (.csBankWaitExpiry k) s = .next s) ∧
    (c.minRun = some 0 → c.state ≠ .recirc ∨ c.target ≠ none →
      exec (.minRunExpiry k) s = .next { s with cs := upd s.cs k { c with minRun := none } }) ∧
    (c.minRun = some 0 → c.state = .recirc → c.target = none → exec (.minRunExpiry k) s = .next
      { s with cs := upd s.cs k { c with state := .stopping, start := none, minRun := none, bankWait := none,
                                         runDown := some c.entry.runDown }
               sli := { s.sli with summary := s.sli.summary ||| BitVec.twoPow 15 (7 + k.val) } }) ∧
    (c.minRun ≠ some 0 → exec (.minRunExpiry k) s = .next s) ∧
    (c.runDown = some 0 → c.state = .stopping → c.target = none → ∃ t, exec (.runDownExpiry k) s = .next t ∧
      t.banks = s.banks ∧ t.fixed = s.fixed ∧ (t.comp k).target = none ∧ (t.comp k).runDown = none ∧
      (t.comp k).disablePending = false ∧
      (c.disablePending = true → (t.comp k).state = .disabled ∧ (t.comp k).minOff = none) ∧
      (c.disablePending = false → ((t.comp k).state = .off ∨ (t.comp k).state = .startDeferred) ∧
        (t.comp k).minOff = some c.entry.minOff)) ∧
    (c.runDown ≠ some 0 ∨ c.state ≠ .stopping → exec (.runDownExpiry k) s = .next s) ∧
    let running := c.state = .starting ∨ c.state = .recirc ∨ c.state = .filling ∨ c.state = .stopping
    let trips := fun (i : Instr) (s1 : State) (cause : TripCause) =>
      (running → ∃ t, exec i s = .next t ∧ t.banks = s.banks ∧ t.fixed = s1.fixed ∧ t.sli.summary.getLsbD (7 + k.val) = true ∧
        t.comp k = { s1.comp k with state := .tripped, target := none, minOff := none, start := none, minRun := none
                                    bankWait := none, runDown := none, disablePending := false, tripCause := some cause } ∧
        ∀ b, c.target = some b → t.holderOf b ≠ some (csReq k))
    let stops := fun (ch : ChanId) (i : Instr) (x : Channel) (c1 : Compressor) =>
      c.state = .starting ∨ c.state = .recirc ∨ c.state = .filling →
        ∃ t, exec i s = .next t ∧ t.banks = s.banks ∧ t.chans = upd s.chans ch x ∧ t.sli.summary.getLsbD (7 + k.val) = true ∧
          t.comp k = { c1 with state := .stopping, target := none, start := none, minRun := none, bankWait := none
                               runDown := some c.entry.runDown } ∧
          ∀ b, c.target = some b → t.holderOf b ≠ some (csReq k)
    (∀ (ch : ChanId) (i : Instr) (v : Nat) (x : Channel), s.Delivers ch (.dischargeT k) i v x →
      let s1 : State := { s with chans := upd s.chans ch x
                                 cs := upd s.cs k { c with discharge := v, dischargeGood := true } }
      (v ≤ c.entry.dischargeLimit → decides i s1) ∧ (c.entry.dischargeLimit < v → trips i s1 .dischargeTemp) ∧
      (c.entry.dischargeLimit < v → ¬ running → c.state ≠ .startDeferred → exec i s = .next s1)) ∧
    (∀ (ch : ChanId) (i : Instr) (x : Channel), s.FallsHeld ch (.dischargeT k) i x →
      let s1 : State := { s.fallen ch x with cs := upd s.cs k { c with discharge := x.value, dischargeGood := false } }
      trips i s1 .dischargeSensor ∧ (¬ running → exec i s = .next s1)) ∧
    (∀ (ch : ChanId) (i : Instr) (v : Nat) (x : Channel), s.Delivers ch .supplyP i v x →
      let s1 : State := { s with chans := upd s.chans ch x
                                 cs := s.cs.map (fun o => { o with supply := v, supplyGood := true }) }
      let o := s.comp (otherComp k)
      (v < s.site.params.supplyMin → stops ch i x (s1.comp k)) ∧
      (atRest c ∧ c.state ≠ .filling → ∃ t, exec i s = .next t ∧ t.comp k = s1.comp k) ∧
      (s.site.params.supplyMin ≤ v → c.state ≠ .startDeferred → o.state ≠ .startDeferred →
        ∃ t, exec i s = .next t ∧ t = { s1 with orderCount := t.orderCount }) ∧
      (∀ b, s.site.params.supplyMin ≤ v → c.state = .startDeferred → o.state ≠ .startDeferred →
        s1.chooseBank k none = some b → s1.permitted k = true → ∃ t, exec i s = .next t ∧
          t.comp k = { s1.comp k with
            state := .starting, target := some b, minOff := none, start := some c.entry.startTime
            history := if c.history.contains s.site.clock then c.history else c.history ++ [s.site.clock] })) ∧
    (∀ (ch : ChanId) (i : Instr) (x : Channel), s.FallsHeld ch .supplyP i x →
      let c1 := { c with supply := x.value, supplyGood := false }
      stops ch i x c1 ∧ (atRest c ∧ c.state ≠ .filling → ∃ t, exec i s = .next t ∧ t.comp k = c1))

/-! ### Samples, lines and frames (chapters 1, 2, 7 and 8) -/

/-- A sample of a bound channel is scaled, restarts the staleness timer, and, where plausible, is the channel's value, which is
GOOD; an implausible one counts, and the third leaves the channel FAILED. The timer makes the channel STALE with its value and count
kept. CHANNEL_FAIL is posted on each fall, and no other channel changes (R3, R4, R5, R7). That a STALENESS_EXPIRY not due changes
nothing is the model's choice (notes/assumptions/3.md). A sample of the ambient temperature, or its becoming HELD as A5, places
the band of PCM and of every fuelling point, and in FILLING a change of band stages the entry of the staged class in the new
band, or cancels the switch where that is the active entry (R78, R129, R130; stated where nobody waits for cold). -/
def Obligations.SamplesMoveTheChannel : Prop :=
  ∀ (s : State) (ch : ChanId),
    let c := s.chan ch
    let becomes := fun (i : Instr) (c' : Channel) (falls : Prop) =>
      ∃ t, exec i s = .next t ∧ t.fixed = { s.fixed with chans := upd s.chans ch c' } ∧
        (falls → t.sli.summary.getLsbD 11 = true)
    (c.staleTimer = some 0 →
      becomes (.stalenessExpiry ch) { c with status := .stale, staleTimer := none } (c.status = .good)) ∧
    (c.staleTimer ≠ some 0 → exec (.stalenessExpiry ch) s = .next s) ∧
    (∀ raw : BitVec 16,
      (c.binding = .unused → ∃ t, exec (.sampleArrival ch raw) s = .next t ∧ t.fixed = s.fixed ∧
        (s.csInbox = [] → t = s)) ∧
      (c.binding ≠ .unused →
        let v := c.scaleLow + (2 * ((c.scaleHigh - c.scaleLow) * raw.toNat) + 65535) / 131070
        (c.plausLow ≤ v → v ≤ c.plausHigh → becomes (.sampleArrival ch raw)
          { c with value := v, status := .good, failCount := 0, staleTimer := some 10, lastSample := s.site.clock } False) ∧
        (v < c.plausLow ∨ c.plausHigh < v → becomes (.sampleArrival ch raw)
          { c with failCount := min 3 (c.failCount + 1), staleTimer := some 10, lastSample := s.site.clock
                   status := if 3 ≤ c.failCount + 1 then .failed else c.status }
          (3 ≤ c.failCount + 1 ∧ c.status ≠ .failed)))) ∧
    let places := fun (i : Instr) (s1 : State) (bd : Band) => ∃ t, exec i s = .next t ∧
      t = { s1 with pcm := { s.pcm with band := bd }, fps := t.fps } ∧
      ∀ j : FpId,
        let f := s.fp j
        let t' := f.category.getD f.entry.category
        (f.band = bd ∨ f.fill ≠ .filling → t.fp j = { f with band := bd }) ∧
        (∀ a cl, f.band ≠ bd → f.fill = .filling → f.active = some a →
          (f.switchPending = true → f.pendingEntry.map (·.cls) = some cl) → (f.switchPending = false → cl = a.cls) →
          let row := sel s.ramp (rampIndex cl f.entry.pressureClass bd t')
          (cl = a.cls → bd = a.band → t.fp j = { f with band := bd, pendingEntry := none, switchPending := false }) ∧
          (cl ≠ a.cls ∨ bd ≠ a.band → t.fp j = { f with
            band := bd, switchPending := true
            pendingEntry :=
              some { cls := cl, band := bd, category := t', rate := row.rate, endPressure := row.endPressure } }))
    (∀ (i : Instr) (v : Nat) (x : Channel), s.csInbox = [] → s.pcm.waitList = [] → s.Delivers ch .ambientT i v x →
      places i { s with chans := upd s.chans ch x }
        (if v < 2630 then .a1 else if v < 2830 then .a2 else if v < 3030 then .a3 else if v < 3180 then .a4 else .a5)) ∧
    (∀ (i : Instr) (x : Channel), s.csInbox = [] → s.pcm.waitList = [] → s.FallsHeld ch .ambientT i x →
      places i (s.fallen ch x) .a5)

/-- The tests of a nozzle pressure sample in FILLING, in their order: at the class limit PRESSURE_LIMIT, above the overshoot
threshold RAMP_OVERSHOOT, without a link at the end pressure TARGET_PRESSURE, above the pause threshold the ramp pause, and at or
below the target its end; then, in FLOW, the granted bank must still push, or the fill steps to the next of its cascade list.
In the leak hold a fall below P0 by more than the leak limit ends the fill with LEAK; in VENTING the vent pressure ends it.
A nozzle pressure that becomes HELD ends a running fill with SENSOR_FAIL (R33, R104, R107, R112, R124, R125, R135, R137).
That Pt is formed with a rate of 0 where no entry is active, as in no fill in FILLING, is the model's choice
(notes/assumptions/43.md). -/
def Obligations.NozzleSamplesAreTested : Prop :=
  (∀ (s : State) (ch : ChanId) (raw : BitVec 16) (i : FpId) (v : Nat), s.csInbox = [] → (s.chan ch).binding = .nozzleP i →
    v = (s.chan ch).scaled raw.toNat → (s.chan ch).plausible v = true →
    let f := { s.fp i with nozzle := v, nozzleGood := true }
    let s1 : State := { s with
      fps := upd s.fps i f
      chans := upd s.chans ch { s.chan ch with value := v, status := .good, failCount := 0, staleTimer := some 10,
                                               lastSample := s.site.clock } }
    let limit := match f.entry.pressureClass with
      | .h70 => s.site.params.limitH70
      | .h35 => s.site.params.limitH35
    let pt := min limit (f.pstart + ((f.active.map (·.rate)).getD 0) * f.clock / 600)
    let target := f.mode = .nonCommunication ∧ (f.active.map (·.endPressure)).getD 0 ≤ v
    ∃ t, exec (.sampleArrival ch raw) s = .next t ∧
      (f.fill = .filling → limit ≤ v → s1.ClosedBy t i .pressureLimit) ∧
      (f.fill = .filling → v < limit → pt + s.site.params.overshootBand < v → s1.ClosedBy t i .rampOvershoot) ∧
      (f.fill = .filling → v < limit → v ≤ pt + s.site.params.overshootBand → target → s1.ClosedBy t i .targetPressure) ∧
      (f.fill = .filling → v < limit → v ≤ pt + s.site.params.overshootBand → ¬ target → f.sub = some .flow →
        f.link ≠ .stacked → f.sync = false → s.levelHold i = false → pt + s.site.params.upperBand < v →
        t = { s1 with fps := upd s.fps i { f with pause := true, sub := some .rampPause, lowFlow := none, grace := none }
                      sli := { s.sli with summary := s.sli.summary ||| BitVec.twoPow 15 i.val } }) ∧
      (f.fill = .filling → v < limit → v ≤ pt + s.site.params.overshootBand → ¬ target →
        let stays := f.cascadePos = none ∨ ∃ b, f.cascadePos = some b ∧ v + s.site.params.stepDiff ≤ (s.bank b).pressure
        let steps := ∀ b, s.ArbiterOk → f.cascadePos = some b → f.entry.cascade.Nodup → s.holderOf b = some (fpReq i) →
          (s.bank b).pressure < v + s.site.params.stepDiff → s1.GoesOn t i b .supplyExhausted
        (f.sub = some .flow → v ≤ pt + s.site.params.upperBand → (stays → t = s1) ∧ steps) ∧
        (f.sub = some .rampPause → v ≤ pt → f.link ≠ .stacked → f.sync = false → s.levelHold i = false →
          (stays → t = { s1 with
            fps := upd s.fps i { f with
              pause := false, sub := some .flow
              lowFlow := if (s.meter i).figure < s.site.params.stepFlow * 1000 then some s.site.params.stepDwell else none }
            sli := { s.sli with summary := s.sli.summary ||| BitVec.twoPow 15 i.val } }) ∧ steps) ∧
        (f.sub = some .rampPause → pt < v → t = s1) ∧
        (f.sub = some .bankWait ∨ f.sub = some .hold ∨ f.sub = none → t = s1)) ∧
      (f.fill = .leakCheck → f.leakHold.isSome → v + s.site.params.leakLimit < f.p0.getD 0 → s1.ClosedBy t i .leak) ∧
      (f.fill = .leakCheck → f.leakHold = none ∨ f.p0.getD 0 ≤ v + s.site.params.leakLimit → t = s1) ∧
      (f.fill = .venting → v ≤ s.site.params.ventPressure → ∀ r, f.reason = some r →
        (t.fp i).vent = none ∧ (t.fp i).ventFail = f.ventFail ∧ (t.fp i).fill =
          if r.normal then (if s.nozzleCondition i = .holstered then .idle else .complete) else .fault) ∧
      (f.fill = .venting → s.site.params.ventPressure < v → t = s1) ∧
      (f.fill = .idle ∨ f.fill = .linkWait ∨ f.fill = .precoolWait ∨ f.fill = .settling ∨ f.fill = .complete ∨
        f.fill = .fault → t = s1)) ∧
  ∀ (s : State) (ch : ChanId) (i : FpId) (c : Instr) (x : Channel), s.csInbox = [] → s.FallsHeld ch (.nozzleP i) c x →
    let f := s.fp i
    let s1 : State := { s.fallen ch x with fps := upd s.fps i { f with nozzle := x.value, nozzleGood := false } }
    ∃ t, exec c s = .next t ∧
      (f.fill = .leakCheck ∨ f.fill = .filling → s1.ClosedBy t i .sensorFail) ∧
      (f.fill = .linkWait ∨ f.fill = .precoolWait → s.WaitOk → s1.EndedEarly t i .sensorFail) ∧
      (f.fill.running = false → t = s1)

/-- A raw change moves only its line and its filter timer; the filter's end takes the raw level over, and acts by the line's
function and mode. An assertion of ESD, GAS_ALARM or FIRE_ALARM shuts the site down with its cause, one of POWER_FAIL takes it to
POWERDOWN. A START edge starts the fill as FP_COMMAND START would, or is ignored; a STOP edge, an assertion of BREAKAWAY or
METER_ERROR, or a nozzle that leaves CONNECTED, ends a running fill; an assertion of a trip input trips its unit; SITE_HOLD's level
holds and releases each fill, its edge sets the synchronous hold. The other releases, and a combined level that does not move, change
nothing but the line, the release of COMPRESSOR_TRIP excepted, which evaluates permission (R10 to R13, R62, R71, R83, R98, R106,
R107, R116, R117, R133, R134, R160, R183, R192, R194). That the filter's end is a command, and that one with no filter running
changes nothing, is the model's choice (notes/assumptions/7.md). -/
def Obligations.LinesMoveAndAct : Prop :=
  ∀ (s : State) (l : LineId) (level : Bool),
    let x := s.line l
    let x' := { x with filtered := x.raw, filterRunning := false }
    let s1 : State := { s with lines := upd s.lines l x' }
    let asserts := x'.effective = true ∧ (x.mode = .rising ∨ (x.mode = .level ∧ s.combined x.fn x.target = false))
    let edge := (x'.effective = true ∧ (x.mode = .rising ∨ x.mode = .any)) ∨
      (x'.effective = false ∧ (x.mode = .falling ∨ x.mode = .any))
    let releases := x.mode = .level ∧ s.combined x.fn x.target = true ∧ s1.combined x.fn x.target = false
    let ends := fun (t : State) (i : FpId) (r : Reason) =>
      ((s.fp i).fill = .leakCheck ∨ (s.fp i).fill = .filling → s1.ClosedBy t i r) ∧
      ((s.fp i).fill = .linkWait ∨ (s.fp i).fill = .precoolWait → s.WaitOk → s1.EndedEarly t i r)
    let starts := fun (t : State) (i : FpId) => (s.fp i).loaded = true →
      ((s.fp i).fill = .idle ∧ s.site.state = .operating ∧ (s.meter i).auth.state = .pending ∧
          s1.nozzleCondition i = .connected ∧ s.combined .breakaway i.val = false ∧ s.combined .meterError i.val = false →
        Answers (.fpStart i.val) s1 (.accepted []) t ∧ (t.fp i).fill = .linkWait ∧ (t.link i).state = .listening) ∧
      ((s.fp i).fill ≠ .idle ∨ s.site.state ≠ .operating ∨ (s.meter i).auth.state ≠ .pending ∨
          s1.nozzleCondition i ≠ .connected ∨ s.combined .breakaway i.val = true ∨ s.combined .meterError i.val = true →
        t = s1)
    (exec (.rawLineChange l level) s =
      .next { s with lines := upd s.lines l { x with raw := level, filterRunning := level != x.filtered } }) ∧
    (x.filterRunning = false → ∃ t, exec (.filterExpiry l) s = .next t ∧ t.lines = s.lines ∧ (s.csInbox = [] → t = s)) ∧
    (x.filterRunning = true → ∃ t, exec (.filterExpiry l) s = .next t ∧ t.lines = s1.lines ∧ t.tables = s.tables ∧
      (∀ cause, (x.fn, cause) ∈ [(LineFn.esd, ShutCause.esd), (.gasAlarm, .gasAlarm), (.fireAlarm, .fireAlarm)] → asserts →
        (s.site.state = .operating ∨ s.site.state = .maintenance →
          t.site = { s.site with state := .shutdown, forecourtOpen := false, cause := cause } ∧ s.ShutDown t) ∧
        (s.site.state ≠ .operating → s.site.state ≠ .maintenance → s.csInbox = [] → t = s1)) ∧
      (x.fn = .powerFail → asserts →
        (s.site.state = .operating ∨ s.site.state = .maintenance ∨ s.site.state = .shutdown →
          t.site = { s.site with state := .powerdown, forecourtOpen := false } ∧ s.PoweredDown t) ∧
        (s.site.state = .unconfigured ∨ s.site.state = .powerdown → s.csInbox = [] → t = s1)) ∧
      (s.csInbox = [] →
        (∀ i : FpId, x.target = i.val →
          (x.fn = .start → edge → starts t i) ∧
          (x.fn = .stop → edge → ends t i .customerStop ∧ ((s.fp i).fill.running = false → t = s1)) ∧
          (x.fn = .breakaway → asserts → ends t i .breakaway ∧ ((s.fp i).fill.running = false → t = s1)) ∧
          (x.fn = .meterError → asserts → ends t i .meterFail ∧ ((s.fp i).fill.running = false → t = s1)) ∧
          (x.fn.isNozzle = true →
            (s1.nozzleCondition i = s.nozzleCondition i → t = s1) ∧
            (s.nozzleCondition i = .connected → s1.nozzleCondition i ≠ .connected → ends t i .nozzleDisconnect) ∧
            (s.nozzleCondition i ≠ .holstered → s1.nozzleCondition i = .holstered → (s.fp i).fill = .complete →
              (t.fp i).fill = .idle ∧ t.sli.summary.getLsbD i.val = true) ∧
            (s1.nozzleCondition i ≠ .connected → (s.fp i).fill.running = false → (s.fp i).fill ≠ .complete → t = s1) ∧
            (s.nozzleCondition i ≠ .connected → s1.nozzleCondition i = .connected →
              ((s.fp i).entry.autoStart = false ∨ (s.meter i).auth.state ≠ .pending → t = s1) ∧
              ((s.fp i).entry.autoStart = true → starts t i)))) ∧
        (∀ k : CompId, x.fn = .compressorTrip → x.target = k.val →
          let c := s.comp k
          (asserts → c.state ≠ .disabled → c.state ≠ .tripped →
            t.comp k = { c with state := .tripped, target := none, minOff := none, start := none, minRun := none
                                bankWait := none, runDown := none, disablePending := false, tripCause := some .tripInput } ∧
            t.sli.summary.getLsbD (7 + k.val) = true ∧ ∀ b, c.target = some b → t.holderOf b ≠ some (csReq k)) ∧
          (asserts → c.state = .disabled ∨ c.state = .tripped → t = s1) ∧
          (releases → c.state ≠ .startDeferred → t = s1) ∧
          (releases → c.state = .startDeferred →
            (s1.chooseBank k none = none → (t.comp k).state = .off) ∧
            (∀ b, s1.chooseBank k none = some b → s1.permitted k = false → t = s1) ∧
            (∀ b, s1.chooseBank k none = some b → s1.permitted k = true →
              (t.comp k).state = .starting ∧ (t.comp k).target = some b))) ∧
        (x.fn = .chillerTrip → asserts →
          (s.pcm.chiller = .idle ∨ s.pcm.chiller = .running → t = { s1 with
            pcm := { s.pcm with chiller := .tripped },
            sli := { s.sli with summary := s.sli.summary ||| BitVec.twoPow 15 9 } }) ∧
          (s.pcm.chiller = .disabled ∨ s.pcm.chiller = .tripped → t = s1)) ∧
        (x.fn = .siteHold → asserts → x.mode = .level →
          t = { s1 with fps := t.fps, orderCount := t.orderCount, sli := { s.sli with summary := t.sli.summary } } ∧
          ∀ i, let f := s.fp i
            (f.fill ≠ .filling → t.fp i = f) ∧
            (f.fill = .filling → t.fp i =
              { f with sub := some (if f.link = .stacked then .bankWait else .hold), lowFlow := none, grace := none })) ∧
        (x.fn = .siteHold → releases → (∀ j, (s.fp j).fill ≠ .linkWait ∨ (s.fp j).mode = .undecided) →
          t = { s1 with fps := t.fps, orderCount := t.orderCount, sli := { s.sli with summary := t.sli.summary } } ∧
          ∀ i, let f := s.fp i
            let free := f.hostHold = false ∧ (f.vehicleHold = true → f.mode ≠ .communication)
            let pulses := f.fill = .leakCheck ∧ free ∧ f.link = .granted ∧ f.leakPulse = none ∧ f.leakHold = none
            (pulses → t.fp i = { f with leakPulse := some s.site.params.leakPulse }) ∧
            (f.fill ≠ .filling → ¬ pulses → t.fp i = f) ∧
            (f.fill = .filling → ¬ free ∨ f.link = .stacked ∨ f.sync = true → t.fp i =
              { f with sub := some (if f.link = .stacked then .bankWait else .hold), lowFlow := none, grace := none }) ∧
            (f.fill = .filling → free → f.link ≠ .stacked → f.sync = false → f.sub ≠ some .flow → t.fp i =
              { f with
                sub := some .flow, pstart := f.nozzle, clock := 0, pause := false
                lowFlow := if (s.meter i).figure < s.site.params.stepFlow * 1000 then some s.site.params.stepDwell else none })) ∧
        (∀ i, x.fn = .siteHold → releases → (s.fp i).fill = .linkWait → (s.fp i).mode ≠ .undecided →
          s1.levelHold i = false → (s.reservation i).state = .noRecord →
          ((t.fp i).fill = .precoolWait ∨ (t.fp i).fill = .leakCheck ∨ (t.fp i).fill = .settling) ∧
            (t.fp i).estimate.isSome = true) ∧
        (x.fn = .siteHold → edge →
          t = { s1 with fps := t.fps, orderCount := t.orderCount, sli := { s.sli with summary := t.sli.summary } } ∧
          ∀ i, let f := s.fp i
            (f.fill ≠ .filling ∨ f.sync = true → t.fp i = f) ∧
            (f.fill = .filling → f.sync = false → t.fp i = { f with
              sync := true, sub := some (if f.link = .stacked then .bankWait else .hold), lowFlow := none, grace := none })) ∧
        (x.fn ∈ [LineFn.esd, .gasAlarm, .fireAlarm, .powerFail, .chillerTrip, .breakaway, .meterError] → releases → t = s1) ∧
        (x.fn.isNozzle = false → x.mode ≠ .level → ¬ edge → t = s1) ∧ (x.fn = .noFn → t = s1) ∧
        (x.mode = .level → x.fn.isNozzle = false → s1.combined x.fn x.target = s.combined x.fn x.target → t = s1)))

/-- The first valid frame in LINK_WAIT latches volume, class and category and decides COMMUNICATION mode: another class ends the
fill with CLASS_MISMATCH, ABORT with LINK_ABORT, HALT holds it, and RUN goes on to admission unless a hold stands (R100,
R143, R145, R147). -/
def Obligations.FirstFrameDecidesTheMode : Prop :=
  ∀ (s : State) (i : FpId) (bytes : List Byte) (volume : Nat) (rc : PressureClass) (d : VehicleData),
    (s.link i).state = .listening → checkFrame bytes = .valid volume rc d → (s.fp i).fill = .linkWait →
    (s.fp i).mode = .undecided →
    ∃ t, exec (.vehicleFrame i bytes) s = .next t ∧ (t.fp i).mode = .communication ∧ (t.fp i).acquisition = none ∧
      (t.fp i).category = some (if volume < 250 then .s else if volume < 700 then .m else .l) ∧
      (t.fp i).firstP = some d.pressure ∧ (t.fp i).firstT = some d.temperature ∧ (t.link i).volume = some volume ∧
      (t.link i).receptacle = some rc ∧ (t.link i).last = some d ∧
      (rc ≠ (s.fp i).entry.pressureClass → s.WaitOk →
        (t.fp i).fill = .fault ∧ (t.fp i).reason = some .classMismatch ∧ (t.link i).state = .idle) ∧
      (rc = (s.fp i).entry.pressureClass → d.command = .abort → s.WaitOk →
        (t.fp i).fill ≠ .linkWait ∧ (t.fp i).reason = some .linkAbort ∧ (t.link i).state = .idle) ∧
      (rc = (s.fp i).entry.pressureClass → d.command = .halt →
        (t.fp i).fill = .linkWait ∧ (t.fp i).vehicleHold = true ∧ (t.link i).state = .up ∧
          (t.link i).loss = some s.site.params.linkLoss ∧ t.pcm = s.pcm) ∧
      (rc = (s.fp i).entry.pressureClass → d.command = .run → (s.fp i).hostHold = true →
        (t.fp i).fill = .linkWait ∧ (t.link i).state = .up ∧ t.pcm = s.pcm) ∧
      (rc = (s.fp i).entry.pressureClass → d.command = .run → s.levelHold i = false → (s.fp i).vehicleHold = false →
        (s.reservation i).state = .noRecord →
        ((t.fp i).fill = .precoolWait ∨ (t.fp i).fill = .leakCheck ∨ (t.fp i).fill = .settling) ∧
        (t.fp i).estimate = some (estimateOf
          (baseEstimate (fullOf s.site.params rc) (s.socTarget i) volume
            (massOf (s.lookup d.pressure d.temperature).density volume))
          (s.meter i).auth.kind (s.meter i).auth.value (s.fp i).entry.maxMass))

/-- Frames after the first. A frame that fails a check is counted by its kind in LISTENING, UP, LOST and IMPLAUSIBLE and changes
nothing else; a receiver in IDLE drops every frame, one in LOST or IMPLAUSIBLE counts a valid one as ignored. In UP a frame
restarts the loss timer; before FILLING its command holds, frees or ends the fill, and in FILLING it ends the fill on a hot tank,
on its SOC target, or on ABORT, in that order. The third frame in a row in FLOW whose pressure is further from the nozzle's than
the margin makes the link IMPLAUSIBLE and is not kept; it, and the loss timer in UP, put the fill in NON_COMMUNICATION mode, which
ends it where it needs the link or has reached its end pressure (R100, R102, R126, R143, R146 to R151). That a LINK_LOSS_EXPIRY not
due, or not in UP, changes nothing is the model's choice (notes/assumptions/3.md). -/
def Obligations.LaterFramesAndLoss : Prop :=
  ∀ (s : State) (i : FpId) (bytes : List Byte),
    let f := s.fp i
    let l := s.link i
    let counted := fun (l' : Vlr) => exec (.vehicleFrame i bytes) s = .next { s with vlr := upd s.vlr i l' }
    (l.state = .idle → exec (.vehicleFrame i bytes) s = .next s) ∧
    (l.state ≠ .idle →
      (bytes.length ≠ 13 → counted { l with formatErrors := min 65535 (l.formatErrors + 1) }) ∧
      (bytes.length = 13 → num bytes 11 2 ≠ (crc16 (bytes.take 11)).toNat →
        counted { l with crcErrors := min 65535 (l.crcErrors + 1) }) ∧
      (bytes.length = 13 → num bytes 11 2 = (crc16 (bytes.take 11)).toNat → num bytes 0 1 ≠ 1 →
        counted { l with formatErrors := min 65535 (l.formatErrors + 1) }) ∧
      (bytes.length = 13 → num bytes 11 2 = (crc16 (bytes.take 11)).toNat → num bytes 0 1 = 1 →
        (num bytes 1 1 ≠ 70 ∧ num bytes 1 1 ≠ 35) ∨ num bytes 2 2 = 0 ∨ 4000 < num bytes 2 2 ∨ 100000 < num bytes 4 4 ∨
          num bytes 8 2 < 1000 ∨ 4500 < num bytes 8 2 ∨ 2 < num bytes 10 1 →
        counted { l with rangeErrors := min 65535 (l.rangeErrors + 1) })) ∧
    let e := (f.active.map (·.endPressure)).getD 0
    let withoutLink := fun (s1 t : State) (st : LinkState) =>
      (f.entry.commRequired = true ∨ e = 0 → s1.ClosedBy t i .linkAbsent) ∧
      (f.entry.commRequired = false → e ≠ 0 → e ≤ f.nozzle → s1.ClosedBy t i .targetPressure) ∧
      (f.entry.commRequired = false → f.nozzle < e → (t.fp i).fill = .filling ∧
        (t.fp i).mode = .nonCommunication ∧ (t.fp i).vehicleHold = false ∧ (t.link i).state = st)
    (∀ v rc d, checkFrame bytes = .valid v rc d →
      let soc := min 1000 (socRaw (s.lookup d.pressure d.temperature).density (fullOf s.site.params f.entry.pressureClass))
      let s1 : State := { s with fps := upd s.fps i { f with presentSoc := some soc } }
      let away := f.sub = some .flow ∧ (f.nozzle + s.site.params.plausMargin < d.pressure ∨
        d.pressure + s.site.params.plausMargin < f.nozzle)
      (l.state = .lost ∨ l.state = .implausible → counted { l with ignored := min 65535 (l.ignored + 1) }) ∧
      (l.state = .up → f.mode = .communication → f.fill = .filling → ¬ away ∨ l.implausCount < 2 →
        ∃ t, exec (.vehicleFrame i bytes) s = .next t ∧ (t.link i).last = some d ∧
          (3580 ≤ d.temperature → s1.ClosedBy t i .tempLimit) ∧
          (d.temperature < 3580 → s.socTarget i ≤ soc → s1.ClosedBy t i .targetSoc) ∧
          (d.temperature < 3580 → soc < s.socTarget i →
            (d.command = .abort → s1.ClosedBy t i .linkAbort) ∧
            (d.command ≠ .abort → (t.fp i).fill = .filling ∧ (t.fp i).presentSoc = some soc ∧
              ((t.fp i).vehicleHold = true ↔ d.command = .halt) ∧ (t.link i).loss = some s.site.params.linkLoss ∧
              (away → (t.link i).implausCount = l.implausCount + 1) ∧ (¬ away → (t.link i).implausCount = 0)))) ∧
      (l.state = .up → f.mode = .communication → f.fill = .filling → away → 2 ≤ l.implausCount →
        let s2 : State := { s with fps := upd s.fps i { f with mode := .nonCommunication, vehicleHold := false } }
        ∃ t, exec (.vehicleFrame i bytes) s = .next t ∧ (t.link i).last = l.last ∧ (t.link i).loss = none ∧
          (∀ x, (s.meter i).txn = some x → ∃ y, (t.meter i).txn = some y ∧ y.flags.implausible = true) ∧
          withoutLink s2 t .implausible) ∧
      (l.state = .up → f.mode = .communication → f.fill = .linkWait ∨ f.fill = .precoolWait ∨ f.fill = .leakCheck →
        let others := s.combined .siteHold = true ∨ f.hostHold = true
        let kept := fun (t : State) => (t.link i).state = .up ∧ (t.link i).last = some d ∧ (t.link i).implausCount = 0 ∧
          (t.link i).loss = some s.site.params.linkLoss
        ∃ t, exec (.vehicleFrame i bytes) s = .next t ∧
          (d.command = .abort → f.fill = .leakCheck → s1.ClosedBy t i .linkAbort) ∧
          (d.command = .abort → f.fill ≠ .leakCheck → s.WaitOk → s1.EndedEarly t i .linkAbort) ∧
          (d.command = .halt → kept t ∧ t.fp i = { f with presentSoc := some soc, vehicleHold := true } ∧ t.pcm = s.pcm) ∧
          (d.command = .run → f.vehicleHold = false ∨ others ∨ f.fill = .precoolWait →
            kept t ∧ t.fp i = { f with presentSoc := some soc, vehicleHold := false } ∧ t.pcm = s.pcm) ∧
          (d.command = .run → f.vehicleHold = true → ¬ others → f.fill = .leakCheck →
            kept t ∧ t.pcm = s.pcm ∧ t.fp i = { f with
              presentSoc := some soc, vehicleHold := false
              leakPulse := if f.link = .granted ∧ f.leakPulse = none ∧ f.leakHold = none then some s.site.params.leakPulse
                else f.leakPulse }) ∧
          (d.command = .run → f.vehicleHold = true → ¬ others → f.fill = .linkWait → (s.reservation i).state = .noRecord →
            ((t.fp i).fill = .precoolWait ∨ (t.fp i).fill = .leakCheck ∨ (t.fp i).fill = .settling) ∧
              (t.fp i).estimate.isSome = true))) ∧
    (l.loss = some 0 → l.state = .up →
      let lost : State := { s with vlr := upd s.vlr i { l with state := .lost, loss := none } }
      let s1 : State := { s with fps := upd s.fps i { f with mode := .nonCommunication, vehicleHold := false } }
      (f.mode ≠ .communication ∨ f.fill.running = false → exec (.linkLossExpiry i) s = .next lost) ∧
      (f.mode = .communication → f.fill = .filling → ∃ t, exec (.linkLossExpiry i) s = .next t ∧
        (∀ x, (s.meter i).txn = some x → ∃ y, (t.meter i).txn = some y ∧ y.flags.linkLost = true) ∧
        withoutLink s1 t .lost) ∧
      (f.mode = .communication → f.fill = .linkWait ∨ f.fill = .precoolWait → f.entry.commRequired = true → s.WaitOk →
        ∃ t, exec (.linkLossExpiry i) s = .next t ∧ s1.EndedEarly t i .linkAbsent) ∧
      (f.mode = .communication → f.fill = .leakCheck → f.entry.commRequired = true →
        ∃ t, exec (.linkLossExpiry i) s = .next t ∧ s1.ClosedBy t i .linkAbsent) ∧
      (f.mode = .communication → f.fill = .precoolWait ∨ f.fill = .leakCheck → f.entry.commRequired = false →
        ∃ t, exec (.linkLossExpiry i) s = .next t ∧ (t.fp i).fill = f.fill ∧ (t.fp i).mode = .nonCommunication ∧
          (t.fp i).vehicleHold = false ∧ (t.link i).state = .lost ∧ t.pcm = s.pcm)) ∧
    (l.loss ≠ some 0 ∨ l.state ≠ .up → exec (.linkLossExpiry i) s = .next s)

/-! ### The timers of a fill (chapters 5 to 7) -/

/-- A wait limit ends the fill with PRECOOL_TIMEOUT. The link acquisition time ends it with LINK_ABSENT where communication is
required, and otherwise decides NON_COMMUNICATION mode with the default category; unless a hold stands the fill asks for
admission with its estimate: behind a wait list, or where no class admits it, it waits; else the coldest class that is allowed,
has a ramp rate and the free cold is reserved (R29, R31, R90, R91, R93, R100, R101). That an expiry not due changes nothing is the
model's choice (notes/assumptions/3.md), and so is that an estimate of 0 is admitted while the chiller is TRIPPED (41.md). -/
def Obligations.WaitingFillsTimeOut : Prop :=
  ∀ (s : State) (i : FpId),
    let f := s.fp i
    let r := s.reservation i
    let estimate := estimateOf f.entry.defaultEstimate (s.meter i).auth.kind (s.meter i).auth.value f.entry.maxMass
    let g := fun c => (estimate * qOf s.pcm.entry c + 999) / 1000
    let admits := fun c : PrecoolClass => c ∈ f.entry.allowed ∧
      (sel s.ramp (rampIndex c f.entry.pressureClass s.pcm.band f.entry.category)).rate ≠ 0 ∧ (c = .tamb ∨ g c ≤ s.free c)
    (r.waitTimer = some 0 → r.state = .waiting → f.fill = .precoolWait → s.WaitOk →
      ∃ t, exec (.waitLimitExpiry i) s = .next t ∧ s.EndedEarly t i .precoolTimeout ∧ (t.reservation i).state = .noRecord) ∧
    (r.waitTimer ≠ some 0 ∨ r.state ≠ .waiting → exec (.waitLimitExpiry i) s = .next s) ∧
    (f.acquisition = some 0 → f.fill = .linkWait →
      (f.entry.commRequired = true → s.WaitOk →
        ∃ t, exec (.linkAcquisitionExpiry i) s = .next t ∧ s.EndedEarly t i .linkAbsent) ∧
      (f.entry.commRequired = false → ∃ t, exec (.linkAcquisitionExpiry i) s = .next t ∧
        (t.fp i).acquisition = none ∧ (t.fp i).mode = .nonCommunication ∧ (t.fp i).category = some f.entry.category ∧
        (∀ x, (s.meter i).txn = some x → ∃ y, (t.meter i).txn = some y ∧ y.flags.noncomm = true) ∧
        (s.combined .siteHold = true ∨ f.hostHold = true →
          (t.fp i).fill = .linkWait ∧ t.pcm = s.pcm ∧ (t.link i).state = .lost) ∧
        (s.combined .siteHold = false → f.hostHold = false → r.state = .noRecord →
          (t.fp i).estimate = some estimate ∧
          (s.pcm.waitList ≠ [] ∨ (∀ c, ¬ admits c) →
            (t.fp i).fill = .precoolWait ∧ t.pcm.waitList = s.pcm.waitList ++ [i] ∧
            t.reservation i = { state := .waiting, estimate := estimate, category := some f.entry.category, cls := none,
                                band := none, g := 0, c0 := 0, m0 := 0, c := 0,
                                waitTimer := some s.pcm.entry.waitLimit }) ∧
          (∀ c, s.pcm.waitList = [] → admits c → (∀ c', c'.code < c.code → ¬ admits c') →
            ((t.fp i).fill = .leakCheck ∨ (t.fp i).fill = .settling) ∧
            (t.fp i).admClass = some c ∧ (t.fp i).admBand = some s.pcm.band ∧ (t.meter i).window = true ∧
            t.reservation i = { state := .admitted, estimate := estimate, category := some f.entry.category, cls := some c,
                                band := some s.pcm.band, g := g c, c0 := 0, m0 := 0, c := 0, waitTimer := none })))) ∧
    (f.acquisition ≠ some 0 ∨ f.fill ≠ .linkWait → exec (.linkAcquisitionExpiry i) s = .next s)

/-- The bank wait of a fill withdraws its request, the low-flow dwell in FLOW releases its bank, and so does a pressure sample of
its bank in FLOW that no longer pushes or stands at the floor; each goes on to the first later bank of the cascade list that is
usable and pushes, in FILLING above its floor, which it takes where it is free and waits for where it is not; with none the fill
ends with BANK_TIMEOUT, or with SUPPLY_EXHAUSTED (R38, R51, R103, R135 to R138). The sample's clause is of a bank that neither
stands on the refill list nor joins it. That an expiry not due changes nothing is the model's choice
(notes/assumptions/3.md). -/
def Obligations.CascadeGoesOn : Prop :=
  ∀ (s : State) (i : FpId) (b : BankId), s.ArbiterOk → (s.fp i).cascadePos = some b → (s.fp i).entry.cascade.Nodup →
    let f := s.fp i
    (f.bankWait = some 0 → f.link = .stacked → f.fill = .leakCheck ∨ f.fill = .filling → fpReq i ∈ s.stackedAt b →
      ∃ t, exec (.fpsBankWaitExpiry i) s = .next t ∧ s.GoesOn t i b .bankTimeout) ∧
    (f.bankWait ≠ some 0 ∨ f.link ≠ .stacked ∨ (f.fill ≠ .leakCheck ∧ f.fill ≠ .filling) →
      exec (.fpsBankWaitExpiry i) s = .next s) ∧
    (f.lowFlow = some 0 → f.fill = .filling → f.sub = some .flow → s.holderOf b = some (fpReq i) →
      ∃ t, exec (.lowFlowExpiry i) s = .next t ∧ s.GoesOn t i b .supplyExhausted) ∧
    (f.lowFlow ≠ some 0 ∨ f.fill ≠ .filling ∨ f.sub ≠ some .flow → exec (.lowFlowExpiry i) s = .next s) ∧
    (∀ (ch : ChanId) (c : Instr) (v : Nat) (x : Channel), s.csInbox = [] → s.Delivers ch (.bankP b) c v x →
      s.holderOf b = some (fpReq i) → f.fill = .filling → b ∉ s.refill →
      let k := s.bank b
      let l := s.lookup v k.temperature
      let k' := { k with
        pressure := v, pressureGood := true
        inventory := if k.temperatureGood then massOf l.density k.entry.volume else k.inventory
        indication := if k.temperatureGood then l.indication else k.indication }
      let s1 : State := { s with chans := upd s.chans ch x, banks := upd s.banks b k' }
      let leaves := f.sub = some .flow ∧ (v < f.nozzle + s.site.params.stepDiff ∨ v ≤ k.entry.floor)
      k.entry.fillPermit = false ∨ k.entry.refillOn ≤ v → ∃ t, exec c s = .next t ∧
        (leaves → s1.GoesOn t i b .supplyExhausted) ∧
        (¬ leaves → t = { s1 with sli := { s.sli with summary := t.sli.summary } }))

/-- The end of the leak pulse takes P0 and ends the fill below the minimum start pressure or at the class limit, or starts the
leak hold. The end of the hold brings FILLING with the ramp entry of the admitted class and band, Pstart at P0 and the clocks
at 0; a HELD gas temperature ends the fill there, and so does a zero end pressure without a link (R104, R105, R121). The model's
choices: an expiry not due changes nothing (notes/assumptions/3.md), which reason stands where both end the fill is free (1.md),
and a fill without P0, which none is, would take the nozzle pressure as Pstart (35.md). -/
def Obligations.LeakCheckTimers : Prop :=
  ∀ (s : State) (i : FpId),
    let f := s.fp i
    let p := s.site.params
    let minStart := match f.entry.pressureClass with
      | .h70 => p.minStartH70
      | .h35 => p.minStartH35
    let limit := match f.entry.pressureClass with
      | .h70 => p.limitH70
      | .h35 => p.limitH35
    (f.leakPulse = some 0 → f.fill = .leakCheck → ∃ t, exec (.leakPulseExpiry i) s = .next t ∧
      (t.fp i).p0 = some f.nozzle ∧ (∀ x, (t.meter i).txn = some x → x.p0 = some f.nozzle) ∧
      (f.nozzle < minStart → s.ClosedBy t i .startPressure) ∧
      (minStart ≤ f.nozzle → limit ≤ f.nozzle → s.ClosedBy t i .pressureLimit) ∧
      (minStart ≤ f.nozzle → f.nozzle < limit → t =
        { s with
          fps := upd s.fps i { f with leakPulse := none, p0 := some f.nozzle, leakHold := some p.leakHold }
          mtu := upd s.mtu i { s.meter i with txn := (s.meter i).txn.map (fun x => { x with p0 := some f.nozzle }) } })) ∧
    (f.leakPulse ≠ some 0 ∨ f.fill ≠ .leakCheck → exec (.leakPulseExpiry i) s = .next s) ∧
    (∀ c bd, f.leakHold = some 0 → f.fill = .leakCheck → f.admClass = some c → f.admBand = some bd →
      let t' := f.category.getD f.entry.category
      let row := sel s.ramp (rampIndex c f.entry.pressureClass bd t')
      let absent := f.mode = .nonCommunication ∧ row.endPressure = 0
      ∃ t, exec (.leakHoldExpiry i) s = .next t ∧
        (f.gasGood = false → ¬ absent → s.ClosedBy t i .sensorFail) ∧
        (f.gasGood = true → absent → s.ClosedBy t i .linkAbsent) ∧
        (f.gasGood = false → absent → s.ClosedBy t i .sensorFail ∨ s.ClosedBy t i .linkAbsent) ∧
        (f.gasGood = true → ¬ absent →
          (t.fp i).fill = .filling ∧ (t.fp i).leakHold = none ∧ (t.fp i).pstart = f.p0.getD f.nozzle ∧
          (t.fp i).clock = 0 ∧ (t.fp i).segment = 0 ∧ (t.fp i).watchOpen = false ∧
          (t.fp i).active =
            some { cls := c, band := bd, category := t', rate := row.rate, endPressure := row.endPressure } ∧
          (f.link ≠ .stacked → (t.fp i).sub = some (if s.levelHold i = true then .hold else .flow)) ∧
          (f.band = bd → (t.fp i).switchPending = false) ∧
          (f.band ≠ bd → (t.fp i).switchPending = true ∧
            ∃ e, (t.fp i).pendingEntry = some e ∧ e.cls = c ∧ e.band = f.band) ∧ t.pcm = s.pcm ∧ t.cqr = s.cqr)) ∧
    (f.leakHold ≠ some 0 ∨ f.fill ≠ .leakCheck → exec (.leakHoldExpiry i) s = .next s)

/-- The end of settling loads the record, ends the authorization and the reservation, and goes on to VENTING, past it where the
nozzle already stands at the vent pressure, or to FAULT in SHUTDOWN. The vent timeout is VENT_FAIL and FAULT (R88, R111, R112,
R168, R174). The model's choices: an expiry not due changes nothing (notes/assumptions/3.md), and a settling fill without a reason,
which none is, would be recorded with RESET (35.md). -/
def Obligations.SettlingAndVentingEnd : Prop :=
  ∀ (s : State) (i : FpId),
    let f := s.fp i
    (f.settle = some 0 → f.fill = .settling → s.WaitOk → ∃ t, exec (.settleExpiry i) s = .next t ∧
      (t.fp i).settle = none ∧ (t.reservation i).state = .noRecord ∧ (t.meter i).window = false ∧ t.banks = s.banks ∧
      t.fixed = s.fixed ∧
      (∀ x, (s.meter i).txn = some x → (t.meter i).auth = Auth.empty ∧ ∃ q : Record, t.cqr.queue = s.cqr.queue ++ [q] ∧
        q.number = s.cqr.nextNumber ∧ q.fp = i ∧ q.reason = f.reason.getD .reset ∧ q.price = x.price ∧ q.mass = x.mass ∧
        q.amount = (x.mass * x.price + 500000) / 1000000 ∧ q.startTime = x.startTime ∧ q.endTime = s.site.calendar ∧
        (∀ e ∈ q.draw, e.closeP ≠ none) ∧ t.sli.summary.getLsbD 4 = true) ∧
      (s.site.state = .shutdown → (t.fp i).fill = .fault) ∧
      (s.site.state ≠ .shutdown → s.site.params.ventPressure < f.nozzle →
        (t.fp i).fill = .venting ∧ (t.fp i).vent = some s.site.params.ventTimeout) ∧
      (∀ r, s.site.state ≠ .shutdown → f.nozzle ≤ s.site.params.ventPressure → f.reason = some r →
        (t.fp i).fill = if r.normal then (if s.nozzleCondition i = .holstered then .idle else .complete) else .fault)) ∧
    (f.settle ≠ some 0 ∨ f.fill ≠ .settling → exec (.settleExpiry i) s = .next s) ∧
    (f.vent = some 0 → f.fill = .venting → exec (.ventTimeout i) s = .next
      { s with fps := upd s.fps i { f with fill := .fault, sub := none, vent := none, ventFail := true }
               sli := { s.sli with summary := s.sli.summary ||| BitVec.twoPow 15 i.val } }) ∧
    (f.vent ≠ some 0 ∨ f.fill ≠ .venting → exec (.ventTimeout i) s = .next s)

/-- In FILLING: a segment boundary returns the segment counter to 0, ends a synchronous hold and makes the pending swap, which
ends the fill on a zero rate or, without a link, a zero end pressure; with no switch pending the synchronous hold ends with a
rebase and in FLOW, or in HOLD where a level hold stands, in a fill that does not wait for its bank; a swap to a warmer class is recorded and never
raises what is outstanding. The watch opens after 300 ds. A gas temperature above the class's window then starts the grace, one
at or below it cancels it, and a HELD one ends the fill with SENSOR_FAIL. The downgrade grace stages the next warmer allowed class
with a ramp rate, and with none ends the fill with TEMP_LIMIT (R32, R89, R127 to R134). That a boundary, watch or grace not due
changes nothing (notes/assumptions/3.md), and that a boundary overtaken by a stop of the clock is due as soon as the clock runs
again (45.md), are the model's choices. -/
def Obligations.RampBoundariesAndDowngrades : Prop :=
  ∀ (s : State) (i : FpId),
    let f := s.fp i
    let t' := f.category.getD f.entry.category
    let row := fun c => sel s.ramp (rampIndex c f.entry.pressureClass f.band t')
    let due := s.clockRuns i = true ∧ s.site.params.segment ≤ f.segment
    let warmer := fun (a c : PrecoolClass) => a.code < c.code ∧ c ∈ f.entry.allowed ∧ (row c).rate ≠ 0
    (¬ due → exec (.segmentBoundary i) s = .next s) ∧
    (due → f.switchPending = false → f.sync = false →
      exec (.segmentBoundary i) s = .next { s with fps := upd s.fps i { f with segment := 0 } }) ∧
    (due → f.switchPending = false → f.sync = true → f.link ≠ .stacked →
      let posted := fun (sub : Substate) =>
        { s.sli with summary := s.sli.summary ||| if f.sub = some sub then 0 else BitVec.twoPow 15 i.val }
      (s.levelHold i = false → exec (.segmentBoundary i) s = .next { s with
        fps := upd s.fps i { f with
          segment := 0, sync := false, sub := some .flow, pstart := f.nozzle, clock := 0, pause := false
          lowFlow := if f.sub = some .flow then f.lowFlow
            else if (s.meter i).figure < s.site.params.stepFlow * 1000 then some s.site.params.stepDwell else none }
        sli := posted .flow }) ∧
      (s.levelHold i = true → exec (.segmentBoundary i) s = .next { s with
        fps := upd s.fps i { f with segment := 0, sync := false, sub := some .hold, lowFlow := none, grace := none }
        sli := posted .hold })) ∧
    (∀ p, due → f.switchPending = true → f.pendingEntry = some p → ∃ t, exec (.segmentBoundary i) s = .next t ∧
      (p.rate = 0 → s.ClosedBy t i .tempLimit) ∧
      (p.rate ≠ 0 → f.mode = .nonCommunication → p.endPressure = 0 → s.ClosedBy t i .linkAbsent) ∧
      (p.rate ≠ 0 → f.mode ≠ .nonCommunication ∨ p.endPressure ≠ 0 → s.WaitOk → f.link ≠ .stacked →
        (t.fp i).fill = .filling ∧ (t.fp i).segment = 0 ∧ (t.fp i).active = some p ∧ (t.fp i).pendingEntry = none ∧
        (t.fp i).switchPending = false ∧ (t.fp i).pstart = f.nozzle ∧ (t.fp i).clock = 0 ∧ (t.fp i).pause = false ∧
        (t.fp i).sync = false ∧ (t.fp i).sub = some (if s.levelHold i = true then .hold else .flow) ∧
        (f.active.map (·.cls) = some p.cls → t.pcm = s.pcm ∧ t.mtu = s.mtu) ∧
        (f.active.map (·.cls) ≠ some p.cls → ∀ x, (s.meter i).txn = some x →
          (∃ y, (t.meter i).txn = some y ∧ y.finalClass = some p.cls ∧ y.flags.downgraded = true ∧ y.mass = x.mass) ∧
          (∀ old, (s.reservation i).state = .admitted → (s.reservation i).cls = some old → old.code < p.cls.code →
            t.reservation i = swapRecord (s.reservation i) p.cls (qOf s.pcm.entry p.cls) x.mass ∧
            (t.reservation i).outstanding ≤ (s.reservation i).outstanding)))) ∧
    (f.fill = .filling → f.watchOpen = false → 300 ≤ f.watchCount →
      exec (.downgradeWatchOpen i) s = .next { s with fps := upd s.fps i { f with watchOpen := true } }) ∧
    (f.fill ≠ .filling ∨ f.watchOpen = true ∨ f.watchCount < 300 → exec (.downgradeWatchOpen i) s = .next s) ∧
    (∀ a, f.grace = some 0 → f.fill = .filling → f.active = some a →
      (∀ c, warmer a.cls c → (∀ c', warmer a.cls c' → c.code ≤ c'.code) →
        exec (.downgradeGraceExpiry i) s = .next
          { s with fps := upd s.fps i { f with
              grace := none, switchPending := true,
              pendingEntry := some { cls := c, band := f.band, category := t', rate := (row c).rate,
                                     endPressure := (row c).endPressure } } }) ∧
      ((∀ c, ¬ warmer a.cls c) → ∃ t, exec (.downgradeGraceExpiry i) s = .next t ∧ s.ClosedBy t i .tempLimit)) ∧
    (f.grace ≠ some 0 ∨ f.fill ≠ .filling → exec (.downgradeGraceExpiry i) s = .next s) ∧
    (∀ (ch : ChanId) (c : Instr) (v : Nat) (x : Channel), s.csInbox = [] → s.Delivers ch (.gasT i) c v x →
      let f' := { f with gas := v, gasGood := true }
      let becomes := fun (g : Fps) => exec c s = .next { s with chans := upd s.chans ch x, fps := upd s.fps i g }
      let pending := f.switchPending = true ∧
        ∃ a p, f.active = some a ∧ f.pendingEntry = some p ∧ a.cls.code < p.cls.code
      let watched := f.fill = .filling ∧ f.sub = some .flow ∧ f.watchOpen = true ∧ ¬ pending
      (¬ watched ∨ f.active = none ∨ f.active.map (·.cls) = some .tamb → becomes f') ∧
      (∀ a k, watched → f.active = some a →
        (a.cls, k) ∈ [(PrecoolClass.t40, s.pcm.entry.t40), (.t30, s.pcm.entry.t30), (.t20, s.pcm.entry.t20)] →
        (k.window < v → becomes { f' with grace := some (f.grace.getD k.grace) }) ∧
        (v ≤ k.window → becomes { f' with grace := none }))) ∧
    (∀ (ch : ChanId) (c : Instr) (x : Channel), s.csInbox = [] → s.FallsHeld ch (.gasT i) c x →
      let s1 : State := { s.fallen ch x with fps := upd s.fps i { f with gas := x.value, gasGood := false } }
      (f.fill ≠ .filling → exec c s = .next s1) ∧
      (f.fill = .filling → ∃ t, exec c s = .next t ∧ s1.ClosedBy t i .sensorFail))

/-! ### Meters and the retained store (chapters 9 and 10) -/

/-- A meter pulse in the counting window adds its mass to the sale, recomputes the amount from the whole mass, counts in the flow
figure, draws on the fill's reservation and ends the fill at its preset or its largest mass; outside the window it goes to
creep, which blocks beyond its limit. A pulse rate above the meter's largest ends a running fill with METER_FAIL, in LINK_WAIT and
PRECOOL_WAIT in FAULT at once, and no other. An aged pulse leaves the flow figure (R31, R34, R87, R107, R165 to R167, R169). That
the rate is tested before the pulse is placed is DEDUCED (notes/assumptions/26.md); that any update after which the figure is low starts
the low-flow timer is DEDUCED too (23.md); that a FLOW_AGEING not due changes nothing is the model's choice (3.md). -/
def Obligations.PulsesAreMetered : Prop :=
  ∀ (s : State) (i : FpId),
    let f := s.fp i
    let m := s.meter i
    let mg := f.entry.mgPerPulse
    let pulses := m.pulses.filter (fun t => decide ((s.site.clock - t).toNat < 10)) ++ [s.site.clock]
    let creep := min 4294967295 (m.creep + mg)
    let beyond := f.entry.creepLimit * 1000 < creep
    (f.loaded = false → exec (.meterPulse i) s = .next s) ∧
    (f.loaded = true → f.entry.maxPulseRate < pulses.length → f.fill = .leakCheck ∨ f.fill = .filling → s.WaitOk →
      ∃ t, exec (.meterPulse i) s = .next t ∧ (t.fp i).fill = .settling ∧ (t.fp i).reason = some .meterFail) ∧
    (f.loaded = true → f.entry.maxPulseRate < pulses.length → f.fill = .linkWait ∨ f.fill = .precoolWait → s.WaitOk →
      ∃ t, exec (.meterPulse i) s = .next t ∧ (t.fp i).fill = .fault ∧ (t.fp i).reason = some .meterFail) ∧
    (f.loaded = true → f.entry.maxPulseRate < pulses.length → f.fill.running = false → s.WaitOk →
      ∃ t, exec (.meterPulse i) s = .next t ∧ (t.fp i).fill = f.fill ∧ (t.fp i).reason = f.reason) ∧
    (f.loaded = true → pulses.length ≤ f.entry.maxPulseRate →
      m.window = false ∨ m.txn = none ∨ (∃ x, m.txn = some x ∧ x.draw = []) →
      exec (.meterPulse i) s = .next
        { s with mtu := upd s.mtu i { m with pulses := pulses, creep := creep, creepBlock := m.creepBlock || decide beyond }
                 sli := { s.sli with summary := s.sli.summary |||
                   if beyond ∧ m.creepBlock = false then BitVec.twoPow 15 12 else 0 } }) ∧
    (∀ x, f.loaded = true → pulses.length ≤ f.entry.maxPulseRate → m.window = true → m.txn = some x → x.draw ≠ [] →
      s.WaitOk → f.link ≠ .stacked ∨ s.pcm.waitList = [] →
      let mass := x.mass + mg
      let amount := (mass * x.price + 500000) / 1000000
      let runs := f.fill = .leakCheck ∨ f.fill = .filling
      let full := f.entry.maxMass * 1000 ≤ mass ∨ (x.kind = .mass ∧ x.value ≤ mass)
      let paid := x.kind = .amount ∧ x.value ≤ amount
      ∃ t, exec (.meterPulse i) s = .next t ∧
        (∃ y, (t.meter i).txn = some y ∧ y.mass = mass ∧ y.amount = amount ∧ y.price = x.price ∧
          (drawSum x.draw = x.mass → drawSum y.draw = mass)) ∧
        (t.meter i).pulses = pulses ∧ (t.meter i).flow = m.flow ++ [(s.site.clock, mg)] ∧ (t.meter i).creep = m.creep ∧
        (runs → full → (t.fp i).fill = .settling ∧ (t.fp i).reason = some .presetMass) ∧
        (runs → ¬ full → paid → (t.fp i).fill = .settling ∧ (t.fp i).reason = some .presetAmount) ∧
        (runs → ¬ full → ¬ paid → (t.fp i).fill = f.fill) ∧
        (∀ c, (s.reservation i).state = .admitted → (s.reservation i).cls = some c →
          (t.reservation i).c = min (s.reservation i).g
            ((s.reservation i).c0 + (mass - (s.reservation i).m0) * qOf s.pcm.entry c / 1000000))) ∧
    (∀ e rest, m.flow = e :: rest → 10 ≤ (s.site.clock - e.1).toNat →
      let flows := m.window = true ∧ f.fill = .filling ∧ f.sub = some .flow
      let low := (rest.map (·.2)).sum < s.site.params.stepFlow * 1000
      ∃ t, exec (.flowAgeing i) s = .next t ∧ t.meter i = { m with flow := rest } ∧ t.fixed = s.fixed ∧ t.pcm = s.pcm ∧ t.fp i = { f with lowFlow :=
        if flows then (if low then some (f.lowFlow.getD s.site.params.stepDwell) else none) else f.lowFlow }) ∧
    ((∀ e rest, m.flow = e :: rest → (s.site.clock - e.1).toNat < 10) → exec (.flowAgeing i) s = .next s)

/-- A report of the write in flight, or its timer's expiry, ends it: a completion clears the retained-store fault, an error or
the timer sets it, each change posting RETAINED, and a pending change is written at once as the queue and totals then stand.
A completed write's image is what the memory holds; the image of a failed one is never taken for it. A report of another write
changes nothing (R181, R182, R184). The model's choices: the number by which a report names its write (notes/assumptions/10.md), a
timer expiry not due changes nothing (3.md), and a failed write leaves the last completed image in doubt (2.md). -/
def Obligations.WritesEnd : Prop :=
  ∀ (s : State),
    let ends := fun (i : Instr) (fault : Bool) => ∃ t, exec i s = .next t ∧
      t = { s with cqr := t.cqr
                   sli := { s.sli with summary := s.sli.summary |||
                     if fault = s.cqr.fault then 0 else BitVec.twoPow 15 13 } } ∧
      t.cqr = { s.cqr with fault := fault, write := t.cqr.write, pendingChange := false, store := t.cqr.store,
                           writeSeq := t.cqr.writeSeq } ∧
      (s.cqr.pendingChange = false → t.cqr.write = none) ∧
      (s.cqr.pendingChange = true → ∃ w, t.cqr.write = some w ∧ w.timer = some 50 ∧
        w.image.image.records = s.cqr.queue ∧ w.image.image.count = s.cqr.queue.length ∧
        w.image.image.nextNumber = s.cqr.nextNumber ∧ w.image.image.totals = s.cqr.totals ∧
        w.image.check = crc16 w.image.image.bytes)
    (∀ w, s.cqr.write = some w →
      ends (.writeComplete w.id) false ∧ ends (.writeError w.id) true ∧
      (w.timer = some 0 → ends .writeTimerExpiry true) ∧ (w.timer ≠ some 0 → exec .writeTimerExpiry s = .next s) ∧
      (∃ t, exec (.writeComplete w.id) s = .next t ∧ t.cqr.store = .holds w.image) ∧
      (∀ c, c = .writeError w.id ∨ (c = .writeTimerExpiry ∧ w.timer = some 0) → ∃ t, exec c s = .next t ∧
        (s.cqr.store = .blank → t.cqr.store = .blank) ∧
        (∀ g, s.cqr.store = .holds g ∨ s.cqr.store = .unsure g → t.cqr.store = .unsure g)) ∧
      (∀ n, n ≠ w.id → exec (.writeComplete n) s = .next s ∧ exec (.writeError n) s = .next s)) ∧
    (s.cqr.write = none → exec .writeTimerExpiry s = .next s ∧
      ∀ n, exec (.writeComplete n) s = .next s ∧ exec (.writeError n) s = .next s)

/-! ### The whole part -/

/-- Available cold of T40, T30 and T20 is Cs times the distance of the store from the class's ceiling over 10, truncated, 0 at or
above the ceiling, while the store is HELD or the chiller TRIPPED or DISABLED; free cold is what the four outstanding
reservations leave of it, never below 0; with an entry in its ranges it is at most 3,500,000 kJ. TAMB has none, and its
admission asks for none (R30). -/
def Obligations.AvailableColdIsR30 : Prop :=
  ∀ (s : State),
    let p := s.pcm
    let out := (p.chiller = .tripped ∨ p.chiller = .disabled) ∨ p.tcsGood = false
    let sum := (s.reservation 0).outstanding + (s.reservation 1).outstanding + (s.reservation 2).outstanding +
      (s.reservation 3).outstanding
    (∀ c f, (c, f) ∈ [(PrecoolClass.t40, p.entry.t40), (.t30, p.entry.t30), (.t20, p.entry.t20)] →
      (out → s.avail c = 0) ∧
      (f.ceiling ≤ p.tcs → s.avail c = 0) ∧
      (¬ out → p.tcs < f.ceiling → (s.avail c : Int) = ((p.entry.cs : Int) * ((f.ceiling : Int) - (p.tcs : Int))) / 10) ∧
      ((s.free c : Int) = max 0 ((s.avail c : Int) - (sum : Int))) ∧
      (precoolInRange p.entry = true → 1000 ≤ p.tcs → s.avail c ≤ 3500000)) ∧
    s.avail .tamb = 0 ∧ s.free .tamb = 0 ∧
    ∀ i e t, s.classAdmits i e t .tamb = true ↔
      PrecoolClass.tamb ∈ (s.fp i).entry.allowed ∧ (s.rampRow i .tamb p.band t).rate ≠ 0

/-- Only the host's loads and power-on reset change a loaded table or its marks: no other command does, and no idle step
(R1, R9, R15, R20, R22, R36, R56, R76, R95, R120, R187, R195). -/
def Obligations.TablesChangeOnlyByLoads : Prop :=
  (∀ (s t : State) (c : Instr), Loads c = false → exec c s = .next t → t.tables = s.tables) ∧
  (∀ s t : State, s.pending = [] → step s = .next t → t.tables = s.tables)

/-- From every state, reached or not, a step keeps the arbiter's rule of one holder per bank and one bank per requester (R50),
the consecutive numbers of the completion queue (R176), the agreement of wait list and records (R86, R93), the site's rules
(R17, R18, R186, R198) and the channels' (R2, R4, R5, R8), and, but for a power-on reset, the sums of the draw lists (R163). -/
def Obligations.InvariantsHoldAfterEveryStep : Prop :=
  ∀ s t : State, step s = .next t →
    (s.ArbiterOk → t.ArbiterOk) ∧ (s.QueueOk → t.QueueOk) ∧ (s.WaitOk → t.WaitOk) ∧ (s.SiteOk → t.SiteOk) ∧
    (s.ChannelsOk → t.ChannelsOk) ∧
    ((∀ l e rest, s.pending ≠ .powerOnReset l e :: rest) → s.SumsOk → t.SumsOk)

/-- The invariants hold right after power-on reset. -/
def Obligations.InvariantsHoldAtReset : Prop :=
  State.reset.ArbiterOk ∧ State.reset.QueueOk ∧ State.reset.WaitOk ∧ State.reset.SiteOk ∧ State.reset.ChannelsOk ∧
    State.reset.SumsOk
end

