-- ==== Sys2Proof/Laws/State.lean ====
section
/-!
SUPPORT. What each update of one unit does to each field of the state, and to each unit's view of it, true by unfolding.
-/
namespace Sys2Proof.Machine

variable (s : State)

/-! ### modChan -/

theorem modChan_chans (i : ChanId) (f : Channel → Channel) : (modChan i f s).chans = upd s.chans i (f (s.chan i)) := rfl
@[simp] theorem modChan_lines (i : ChanId) (f : Channel → Channel) : (modChan i f s).lines = s.lines := rfl
@[simp] theorem modChan_roleMap (i : ChanId) (f : Channel → Channel) : (modChan i f s).roleMap = s.roleMap := rfl
@[simp] theorem modChan_lineModes (i : ChanId) (f : Channel → Channel) : (modChan i f s).lineModes = s.lineModes := rfl
@[simp] theorem modChan_events (i : ChanId) (f : Channel → Channel) : (modChan i f s).events = s.events := rfl
@[simp] theorem modChan_density (i : ChanId) (f : Channel → Channel) : (modChan i f s).density = s.density := rfl
@[simp] theorem modChan_banks (i : ChanId) (f : Channel → Channel) : (modChan i f s).banks = s.banks := rfl
@[simp] theorem modChan_refill (i : ChanId) (f : Channel → Channel) : (modChan i f s).refill = s.refill := rfl
@[simp] theorem modChan_holder (i : ChanId) (f : Channel → Channel) : (modChan i f s).holder = s.holder := rfl
@[simp] theorem modChan_stacked (i : ChanId) (f : Channel → Channel) : (modChan i f s).stacked = s.stacked := rfl
@[simp] theorem modChan_cs (i : ChanId) (f : Channel → Channel) : (modChan i f s).cs = s.cs := rfl
@[simp] theorem modChan_csInbox (i : ChanId) (f : Channel → Channel) : (modChan i f s).csInbox = s.csInbox := rfl
@[simp] theorem modChan_pcm (i : ChanId) (f : Channel → Channel) : (modChan i f s).pcm = s.pcm := rfl
@[simp] theorem modChan_ramp (i : ChanId) (f : Channel → Channel) : (modChan i f s).ramp = s.ramp := rfl
@[simp] theorem modChan_fps (i : ChanId) (f : Channel → Channel) : (modChan i f s).fps = s.fps := rfl
@[simp] theorem modChan_vlr (i : ChanId) (f : Channel → Channel) : (modChan i f s).vlr = s.vlr := rfl
@[simp] theorem modChan_mtu (i : ChanId) (f : Channel → Channel) : (modChan i f s).mtu = s.mtu := rfl
@[simp] theorem modChan_prices (i : ChanId) (f : Channel → Channel) : (modChan i f s).prices = s.prices := rfl
@[simp] theorem modChan_cqr (i : ChanId) (f : Channel → Channel) : (modChan i f s).cqr = s.cqr := rfl
@[simp] theorem modChan_site (i : ChanId) (f : Channel → Channel) : (modChan i f s).site = s.site := rfl
@[simp] theorem modChan_sli (i : ChanId) (f : Channel → Channel) : (modChan i f s).sli = s.sli := rfl
@[simp] theorem modChan_orderCount (i : ChanId) (f : Channel → Channel) : (modChan i f s).orderCount = s.orderCount := rfl
@[simp] theorem modChan_pending (i : ChanId) (f : Channel → Channel) : (modChan i f s).pending = s.pending := rfl
theorem modChan_chan (i : ChanId) (f : Channel → Channel) (j : ChanId) : (modChan i f s).chan j = if i = j then f (s.chan i) else s.chan j := by
  simp [modChan, State.chan, sel_upd]
@[simp] theorem modChan_chan_self (i : ChanId) (f : Channel → Channel) : (modChan i f s).chan i = f (s.chan i) := by simp [modChan_chan]
theorem modChan_chan_ne (i : ChanId) (f : Channel → Channel) (j : ChanId) (h : i ≠ j) : (modChan i f s).chan j = s.chan j := by simp [modChan_chan, h]
@[simp] theorem modChan_line (i : ChanId) (f : Channel → Channel) (j : LineId) : (modChan i f s).line j = s.line j := rfl
@[simp] theorem modChan_bank (i : ChanId) (f : Channel → Channel) (j : BankId) : (modChan i f s).bank j = s.bank j := rfl
@[simp] theorem modChan_holderOf (i : ChanId) (f : Channel → Channel) (j : BankId) : (modChan i f s).holderOf j = s.holderOf j := rfl
@[simp] theorem modChan_stackedAt (i : ChanId) (f : Channel → Channel) (j : BankId) : (modChan i f s).stackedAt j = s.stackedAt j := rfl
@[simp] theorem modChan_comp (i : ChanId) (f : Channel → Channel) (j : CompId) : (modChan i f s).comp j = s.comp j := rfl
@[simp] theorem modChan_fp (i : ChanId) (f : Channel → Channel) (j : FpId) : (modChan i f s).fp j = s.fp j := rfl
@[simp] theorem modChan_link (i : ChanId) (f : Channel → Channel) (j : FpId) : (modChan i f s).link j = s.link j := rfl
@[simp] theorem modChan_meter (i : ChanId) (f : Channel → Channel) (j : FpId) : (modChan i f s).meter j = s.meter j := rfl
@[simp] theorem modChan_reservation (i : ChanId) (f : Channel → Channel) (j : FpId) : (modChan i f s).reservation j = s.reservation j := rfl

/-! ### modLine -/

@[simp] theorem modLine_chans (i : LineId) (f : InLine → InLine) : (modLine i f s).chans = s.chans := rfl
theorem modLine_lines (i : LineId) (f : InLine → InLine) : (modLine i f s).lines = upd s.lines i (f (s.line i)) := rfl
@[simp] theorem modLine_roleMap (i : LineId) (f : InLine → InLine) : (modLine i f s).roleMap = s.roleMap := rfl
@[simp] theorem modLine_lineModes (i : LineId) (f : InLine → InLine) : (modLine i f s).lineModes = s.lineModes := rfl
@[simp] theorem modLine_events (i : LineId) (f : InLine → InLine) : (modLine i f s).events = s.events := rfl
@[simp] theorem modLine_density (i : LineId) (f : InLine → InLine) : (modLine i f s).density = s.density := rfl
@[simp] theorem modLine_banks (i : LineId) (f : InLine → InLine) : (modLine i f s).banks = s.banks := rfl
@[simp] theorem modLine_refill (i : LineId) (f : InLine → InLine) : (modLine i f s).refill = s.refill := rfl
@[simp] theorem modLine_holder (i : LineId) (f : InLine → InLine) : (modLine i f s).holder = s.holder := rfl
@[simp] theorem modLine_stacked (i : LineId) (f : InLine → InLine) : (modLine i f s).stacked = s.stacked := rfl
@[simp] theorem modLine_cs (i : LineId) (f : InLine → InLine) : (modLine i f s).cs = s.cs := rfl
@[simp] theorem modLine_csInbox (i : LineId) (f : InLine → InLine) : (modLine i f s).csInbox = s.csInbox := rfl
@[simp] theorem modLine_pcm (i : LineId) (f : InLine → InLine) : (modLine i f s).pcm = s.pcm := rfl
@[simp] theorem modLine_ramp (i : LineId) (f : InLine → InLine) : (modLine i f s).ramp = s.ramp := rfl
@[simp] theorem modLine_fps (i : LineId) (f : InLine → InLine) : (modLine i f s).fps = s.fps := rfl
@[simp] theorem modLine_vlr (i : LineId) (f : InLine → InLine) : (modLine i f s).vlr = s.vlr := rfl
@[simp] theorem modLine_mtu (i : LineId) (f : InLine → InLine) : (modLine i f s).mtu = s.mtu := rfl
@[simp] theorem modLine_prices (i : LineId) (f : InLine → InLine) : (modLine i f s).prices = s.prices := rfl
@[simp] theorem modLine_cqr (i : LineId) (f : InLine → InLine) : (modLine i f s).cqr = s.cqr := rfl
@[simp] theorem modLine_site (i : LineId) (f : InLine → InLine) : (modLine i f s).site = s.site := rfl
@[simp] theorem modLine_sli (i : LineId) (f : InLine → InLine) : (modLine i f s).sli = s.sli := rfl
@[simp] theorem modLine_orderCount (i : LineId) (f : InLine → InLine) : (modLine i f s).orderCount = s.orderCount := rfl
@[simp] theorem modLine_pending (i : LineId) (f : InLine → InLine) : (modLine i f s).pending = s.pending := rfl
@[simp] theorem modLine_chan (i : LineId) (f : InLine → InLine) (j : ChanId) : (modLine i f s).chan j = s.chan j := rfl
theorem modLine_line (i : LineId) (f : InLine → InLine) (j : LineId) : (modLine i f s).line j = if i = j then f (s.line i) else s.line j := by
  simp [modLine, State.line, sel_upd]
@[simp] theorem modLine_line_self (i : LineId) (f : InLine → InLine) : (modLine i f s).line i = f (s.line i) := by simp [modLine_line]
theorem modLine_line_ne (i : LineId) (f : InLine → InLine) (j : LineId) (h : i ≠ j) : (modLine i f s).line j = s.line j := by simp [modLine_line, h]
@[simp] theorem modLine_bank (i : LineId) (f : InLine → InLine) (j : BankId) : (modLine i f s).bank j = s.bank j := rfl
@[simp] theorem modLine_holderOf (i : LineId) (f : InLine → InLine) (j : BankId) : (modLine i f s).holderOf j = s.holderOf j := rfl
@[simp] theorem modLine_stackedAt (i : LineId) (f : InLine → InLine) (j : BankId) : (modLine i f s).stackedAt j = s.stackedAt j := rfl
@[simp] theorem modLine_comp (i : LineId) (f : InLine → InLine) (j : CompId) : (modLine i f s).comp j = s.comp j := rfl
@[simp] theorem modLine_fp (i : LineId) (f : InLine → InLine) (j : FpId) : (modLine i f s).fp j = s.fp j := rfl
@[simp] theorem modLine_link (i : LineId) (f : InLine → InLine) (j : FpId) : (modLine i f s).link j = s.link j := rfl
@[simp] theorem modLine_meter (i : LineId) (f : InLine → InLine) (j : FpId) : (modLine i f s).meter j = s.meter j := rfl
@[simp] theorem modLine_reservation (i : LineId) (f : InLine → InLine) (j : FpId) : (modLine i f s).reservation j = s.reservation j := rfl

/-! ### modBank -/

@[simp] theorem modBank_chans (i : BankId) (f : Bank → Bank) : (modBank i f s).chans = s.chans := rfl
@[simp] theorem modBank_lines (i : BankId) (f : Bank → Bank) : (modBank i f s).lines = s.lines := rfl
@[simp] theorem modBank_roleMap (i : BankId) (f : Bank → Bank) : (modBank i f s).roleMap = s.roleMap := rfl
@[simp] theorem modBank_lineModes (i : BankId) (f : Bank → Bank) : (modBank i f s).lineModes = s.lineModes := rfl
@[simp] theorem modBank_events (i : BankId) (f : Bank → Bank) : (modBank i f s).events = s.events := rfl
@[simp] theorem modBank_density (i : BankId) (f : Bank → Bank) : (modBank i f s).density = s.density := rfl
theorem modBank_banks (i : BankId) (f : Bank → Bank) : (modBank i f s).banks = upd s.banks i (f (s.bank i)) := rfl
@[simp] theorem modBank_refill (i : BankId) (f : Bank → Bank) : (modBank i f s).refill = s.refill := rfl
@[simp] theorem modBank_holder (i : BankId) (f : Bank → Bank) : (modBank i f s).holder = s.holder := rfl
@[simp] theorem modBank_stacked (i : BankId) (f : Bank → Bank) : (modBank i f s).stacked = s.stacked := rfl
@[simp] theorem modBank_cs (i : BankId) (f : Bank → Bank) : (modBank i f s).cs = s.cs := rfl
@[simp] theorem modBank_csInbox (i : BankId) (f : Bank → Bank) : (modBank i f s).csInbox = s.csInbox := rfl
@[simp] theorem modBank_pcm (i : BankId) (f : Bank → Bank) : (modBank i f s).pcm = s.pcm := rfl
@[simp] theorem modBank_ramp (i : BankId) (f : Bank → Bank) : (modBank i f s).ramp = s.ramp := rfl
@[simp] theorem modBank_fps (i : BankId) (f : Bank → Bank) : (modBank i f s).fps = s.fps := rfl
@[simp] theorem modBank_vlr (i : BankId) (f : Bank → Bank) : (modBank i f s).vlr = s.vlr := rfl
@[simp] theorem modBank_mtu (i : BankId) (f : Bank → Bank) : (modBank i f s).mtu = s.mtu := rfl
@[simp] theorem modBank_prices (i : BankId) (f : Bank → Bank) : (modBank i f s).prices = s.prices := rfl
@[simp] theorem modBank_cqr (i : BankId) (f : Bank → Bank) : (modBank i f s).cqr = s.cqr := rfl
@[simp] theorem modBank_site (i : BankId) (f : Bank → Bank) : (modBank i f s).site = s.site := rfl
@[simp] theorem modBank_sli (i : BankId) (f : Bank → Bank) : (modBank i f s).sli = s.sli := rfl
@[simp] theorem modBank_orderCount (i : BankId) (f : Bank → Bank) : (modBank i f s).orderCount = s.orderCount := rfl
@[simp] theorem modBank_pending (i : BankId) (f : Bank → Bank) : (modBank i f s).pending = s.pending := rfl
@[simp] theorem modBank_chan (i : BankId) (f : Bank → Bank) (j : ChanId) : (modBank i f s).chan j = s.chan j := rfl
@[simp] theorem modBank_line (i : BankId) (f : Bank → Bank) (j : LineId) : (modBank i f s).line j = s.line j := rfl
theorem modBank_bank (i : BankId) (f : Bank → Bank) (j : BankId) : (modBank i f s).bank j = if i = j then f (s.bank i) else s.bank j := by
  simp [modBank, State.bank, sel_upd]
@[simp] theorem modBank_bank_self (i : BankId) (f : Bank → Bank) : (modBank i f s).bank i = f (s.bank i) := by simp [modBank_bank]
theorem modBank_bank_ne (i : BankId) (f : Bank → Bank) (j : BankId) (h : i ≠ j) : (modBank i f s).bank j = s.bank j := by simp [modBank_bank, h]
@[simp] theorem modBank_holderOf (i : BankId) (f : Bank → Bank) (j : BankId) : (modBank i f s).holderOf j = s.holderOf j := rfl
@[simp] theorem modBank_stackedAt (i : BankId) (f : Bank → Bank) (j : BankId) : (modBank i f s).stackedAt j = s.stackedAt j := rfl
@[simp] theorem modBank_comp (i : BankId) (f : Bank → Bank) (j : CompId) : (modBank i f s).comp j = s.comp j := rfl
@[simp] theorem modBank_fp (i : BankId) (f : Bank → Bank) (j : FpId) : (modBank i f s).fp j = s.fp j := rfl
@[simp] theorem modBank_link (i : BankId) (f : Bank → Bank) (j : FpId) : (modBank i f s).link j = s.link j := rfl
@[simp] theorem modBank_meter (i : BankId) (f : Bank → Bank) (j : FpId) : (modBank i f s).meter j = s.meter j := rfl
@[simp] theorem modBank_reservation (i : BankId) (f : Bank → Bank) (j : FpId) : (modBank i f s).reservation j = s.reservation j := rfl

/-! ### setHolder -/

@[simp] theorem setHolder_chans (i : BankId) (r : Option Requester) : (setHolder i r s).chans = s.chans := rfl
@[simp] theorem setHolder_lines (i : BankId) (r : Option Requester) : (setHolder i r s).lines = s.lines := rfl
@[simp] theorem setHolder_roleMap (i : BankId) (r : Option Requester) : (setHolder i r s).roleMap = s.roleMap := rfl
@[simp] theorem setHolder_lineModes (i : BankId) (r : Option Requester) : (setHolder i r s).lineModes = s.lineModes := rfl
@[simp] theorem setHolder_events (i : BankId) (r : Option Requester) : (setHolder i r s).events = s.events := rfl
@[simp] theorem setHolder_density (i : BankId) (r : Option Requester) : (setHolder i r s).density = s.density := rfl
@[simp] theorem setHolder_banks (i : BankId) (r : Option Requester) : (setHolder i r s).banks = s.banks := rfl
@[simp] theorem setHolder_refill (i : BankId) (r : Option Requester) : (setHolder i r s).refill = s.refill := rfl
theorem setHolder_holder (i : BankId) (r : Option Requester) : (setHolder i r s).holder = upd s.holder i r := rfl
@[simp] theorem setHolder_stacked (i : BankId) (r : Option Requester) : (setHolder i r s).stacked = s.stacked := rfl
@[simp] theorem setHolder_cs (i : BankId) (r : Option Requester) : (setHolder i r s).cs = s.cs := rfl
@[simp] theorem setHolder_csInbox (i : BankId) (r : Option Requester) : (setHolder i r s).csInbox = s.csInbox := rfl
@[simp] theorem setHolder_pcm (i : BankId) (r : Option Requester) : (setHolder i r s).pcm = s.pcm := rfl
@[simp] theorem setHolder_ramp (i : BankId) (r : Option Requester) : (setHolder i r s).ramp = s.ramp := rfl
@[simp] theorem setHolder_fps (i : BankId) (r : Option Requester) : (setHolder i r s).fps = s.fps := rfl
@[simp] theorem setHolder_vlr (i : BankId) (r : Option Requester) : (setHolder i r s).vlr = s.vlr := rfl
@[simp] theorem setHolder_mtu (i : BankId) (r : Option Requester) : (setHolder i r s).mtu = s.mtu := rfl
@[simp] theorem setHolder_prices (i : BankId) (r : Option Requester) : (setHolder i r s).prices = s.prices := rfl
@[simp] theorem setHolder_cqr (i : BankId) (r : Option Requester) : (setHolder i r s).cqr = s.cqr := rfl
@[simp] theorem setHolder_site (i : BankId) (r : Option Requester) : (setHolder i r s).site = s.site := rfl
@[simp] theorem setHolder_sli (i : BankId) (r : Option Requester) : (setHolder i r s).sli = s.sli := rfl
@[simp] theorem setHolder_orderCount (i : BankId) (r : Option Requester) : (setHolder i r s).orderCount = s.orderCount := rfl
@[simp] theorem setHolder_pending (i : BankId) (r : Option Requester) : (setHolder i r s).pending = s.pending := rfl
@[simp] theorem setHolder_chan (i : BankId) (r : Option Requester) (j : ChanId) : (setHolder i r s).chan j = s.chan j := rfl
@[simp] theorem setHolder_line (i : BankId) (r : Option Requester) (j : LineId) : (setHolder i r s).line j = s.line j := rfl
@[simp] theorem setHolder_bank (i : BankId) (r : Option Requester) (j : BankId) : (setHolder i r s).bank j = s.bank j := rfl
theorem setHolder_holderOf (i : BankId) (r : Option Requester) (j : BankId) : (setHolder i r s).holderOf j = if i = j then r else s.holderOf j := by
  simp [setHolder, State.holderOf, sel_upd]
@[simp] theorem setHolder_holderOf_self (i : BankId) (r : Option Requester) : (setHolder i r s).holderOf i = r := by simp [setHolder_holderOf]
theorem setHolder_holderOf_ne (i : BankId) (r : Option Requester) (j : BankId) (h : i ≠ j) : (setHolder i r s).holderOf j = s.holderOf j := by simp [setHolder_holderOf, h]
@[simp] theorem setHolder_stackedAt (i : BankId) (r : Option Requester) (j : BankId) : (setHolder i r s).stackedAt j = s.stackedAt j := rfl
@[simp] theorem setHolder_comp (i : BankId) (r : Option Requester) (j : CompId) : (setHolder i r s).comp j = s.comp j := rfl
@[simp] theorem setHolder_fp (i : BankId) (r : Option Requester) (j : FpId) : (setHolder i r s).fp j = s.fp j := rfl
@[simp] theorem setHolder_link (i : BankId) (r : Option Requester) (j : FpId) : (setHolder i r s).link j = s.link j := rfl
@[simp] theorem setHolder_meter (i : BankId) (r : Option Requester) (j : FpId) : (setHolder i r s).meter j = s.meter j := rfl
@[simp] theorem setHolder_reservation (i : BankId) (r : Option Requester) (j : FpId) : (setHolder i r s).reservation j = s.reservation j := rfl

/-! ### setStacked -/

@[simp] theorem setStacked_chans (i : BankId) (l : List Requester) : (setStacked i l s).chans = s.chans := rfl
@[simp] theorem setStacked_lines (i : BankId) (l : List Requester) : (setStacked i l s).lines = s.lines := rfl
@[simp] theorem setStacked_roleMap (i : BankId) (l : List Requester) : (setStacked i l s).roleMap = s.roleMap := rfl
@[simp] theorem setStacked_lineModes (i : BankId) (l : List Requester) : (setStacked i l s).lineModes = s.lineModes := rfl
@[simp] theorem setStacked_events (i : BankId) (l : List Requester) : (setStacked i l s).events = s.events := rfl
@[simp] theorem setStacked_density (i : BankId) (l : List Requester) : (setStacked i l s).density = s.density := rfl
@[simp] theorem setStacked_banks (i : BankId) (l : List Requester) : (setStacked i l s).banks = s.banks := rfl
@[simp] theorem setStacked_refill (i : BankId) (l : List Requester) : (setStacked i l s).refill = s.refill := rfl
@[simp] theorem setStacked_holder (i : BankId) (l : List Requester) : (setStacked i l s).holder = s.holder := rfl
theorem setStacked_stacked (i : BankId) (l : List Requester) : (setStacked i l s).stacked = upd s.stacked i l := rfl
@[simp] theorem setStacked_cs (i : BankId) (l : List Requester) : (setStacked i l s).cs = s.cs := rfl
@[simp] theorem setStacked_csInbox (i : BankId) (l : List Requester) : (setStacked i l s).csInbox = s.csInbox := rfl
@[simp] theorem setStacked_pcm (i : BankId) (l : List Requester) : (setStacked i l s).pcm = s.pcm := rfl
@[simp] theorem setStacked_ramp (i : BankId) (l : List Requester) : (setStacked i l s).ramp = s.ramp := rfl
@[simp] theorem setStacked_fps (i : BankId) (l : List Requester) : (setStacked i l s).fps = s.fps := rfl
@[simp] theorem setStacked_vlr (i : BankId) (l : List Requester) : (setStacked i l s).vlr = s.vlr := rfl
@[simp] theorem setStacked_mtu (i : BankId) (l : List Requester) : (setStacked i l s).mtu = s.mtu := rfl
@[simp] theorem setStacked_prices (i : BankId) (l : List Requester) : (setStacked i l s).prices = s.prices := rfl
@[simp] theorem setStacked_cqr (i : BankId) (l : List Requester) : (setStacked i l s).cqr = s.cqr := rfl
@[simp] theorem setStacked_site (i : BankId) (l : List Requester) : (setStacked i l s).site = s.site := rfl
@[simp] theorem setStacked_sli (i : BankId) (l : List Requester) : (setStacked i l s).sli = s.sli := rfl
@[simp] theorem setStacked_orderCount (i : BankId) (l : List Requester) : (setStacked i l s).orderCount = s.orderCount := rfl
@[simp] theorem setStacked_pending (i : BankId) (l : List Requester) : (setStacked i l s).pending = s.pending := rfl
@[simp] theorem setStacked_chan (i : BankId) (l : List Requester) (j : ChanId) : (setStacked i l s).chan j = s.chan j := rfl
@[simp] theorem setStacked_line (i : BankId) (l : List Requester) (j : LineId) : (setStacked i l s).line j = s.line j := rfl
@[simp] theorem setStacked_bank (i : BankId) (l : List Requester) (j : BankId) : (setStacked i l s).bank j = s.bank j := rfl
@[simp] theorem setStacked_holderOf (i : BankId) (l : List Requester) (j : BankId) : (setStacked i l s).holderOf j = s.holderOf j := rfl
theorem setStacked_stackedAt (i : BankId) (l : List Requester) (j : BankId) : (setStacked i l s).stackedAt j = if i = j then l else s.stackedAt j := by
  simp [setStacked, State.stackedAt, sel_upd]
@[simp] theorem setStacked_stackedAt_self (i : BankId) (l : List Requester) : (setStacked i l s).stackedAt i = l := by simp [setStacked_stackedAt]
theorem setStacked_stackedAt_ne (i : BankId) (l : List Requester) (j : BankId) (h : i ≠ j) : (setStacked i l s).stackedAt j = s.stackedAt j := by simp [setStacked_stackedAt, h]
@[simp] theorem setStacked_comp (i : BankId) (l : List Requester) (j : CompId) : (setStacked i l s).comp j = s.comp j := rfl
@[simp] theorem setStacked_fp (i : BankId) (l : List Requester) (j : FpId) : (setStacked i l s).fp j = s.fp j := rfl
@[simp] theorem setStacked_link (i : BankId) (l : List Requester) (j : FpId) : (setStacked i l s).link j = s.link j := rfl
@[simp] theorem setStacked_meter (i : BankId) (l : List Requester) (j : FpId) : (setStacked i l s).meter j = s.meter j := rfl
@[simp] theorem setStacked_reservation (i : BankId) (l : List Requester) (j : FpId) : (setStacked i l s).reservation j = s.reservation j := rfl

/-! ### modComp -/

@[simp] theorem modComp_chans (i : CompId) (f : Compressor → Compressor) : (modComp i f s).chans = s.chans := rfl
@[simp] theorem modComp_lines (i : CompId) (f : Compressor → Compressor) : (modComp i f s).lines = s.lines := rfl
@[simp] theorem modComp_roleMap (i : CompId) (f : Compressor → Compressor) : (modComp i f s).roleMap = s.roleMap := rfl
@[simp] theorem modComp_lineModes (i : CompId) (f : Compressor → Compressor) : (modComp i f s).lineModes = s.lineModes := rfl
@[simp] theorem modComp_events (i : CompId) (f : Compressor → Compressor) : (modComp i f s).events = s.events := rfl
@[simp] theorem modComp_density (i : CompId) (f : Compressor → Compressor) : (modComp i f s).density = s.density := rfl
@[simp] theorem modComp_banks (i : CompId) (f : Compressor → Compressor) : (modComp i f s).banks = s.banks := rfl
@[simp] theorem modComp_refill (i : CompId) (f : Compressor → Compressor) : (modComp i f s).refill = s.refill := rfl
@[simp] theorem modComp_holder (i : CompId) (f : Compressor → Compressor) : (modComp i f s).holder = s.holder := rfl
@[simp] theorem modComp_stacked (i : CompId) (f : Compressor → Compressor) : (modComp i f s).stacked = s.stacked := rfl
theorem modComp_cs (i : CompId) (f : Compressor → Compressor) : (modComp i f s).cs = upd s.cs i (f (s.comp i)) := rfl
@[simp] theorem modComp_csInbox (i : CompId) (f : Compressor → Compressor) : (modComp i f s).csInbox = s.csInbox := rfl
@[simp] theorem modComp_pcm (i : CompId) (f : Compressor → Compressor) : (modComp i f s).pcm = s.pcm := rfl
@[simp] theorem modComp_ramp (i : CompId) (f : Compressor → Compressor) : (modComp i f s).ramp = s.ramp := rfl
@[simp] theorem modComp_fps (i : CompId) (f : Compressor → Compressor) : (modComp i f s).fps = s.fps := rfl
@[simp] theorem modComp_vlr (i : CompId) (f : Compressor → Compressor) : (modComp i f s).vlr = s.vlr := rfl
@[simp] theorem modComp_mtu (i : CompId) (f : Compressor → Compressor) : (modComp i f s).mtu = s.mtu := rfl
@[simp] theorem modComp_prices (i : CompId) (f : Compressor → Compressor) : (modComp i f s).prices = s.prices := rfl
@[simp] theorem modComp_cqr (i : CompId) (f : Compressor → Compressor) : (modComp i f s).cqr = s.cqr := rfl
@[simp] theorem modComp_site (i : CompId) (f : Compressor → Compressor) : (modComp i f s).site = s.site := rfl
@[simp] theorem modComp_sli (i : CompId) (f : Compressor → Compressor) : (modComp i f s).sli = s.sli := rfl
@[simp] theorem modComp_orderCount (i : CompId) (f : Compressor → Compressor) : (modComp i f s).orderCount = s.orderCount := rfl
@[simp] theorem modComp_pending (i : CompId) (f : Compressor → Compressor) : (modComp i f s).pending = s.pending := rfl
@[simp] theorem modComp_chan (i : CompId) (f : Compressor → Compressor) (j : ChanId) : (modComp i f s).chan j = s.chan j := rfl
@[simp] theorem modComp_line (i : CompId) (f : Compressor → Compressor) (j : LineId) : (modComp i f s).line j = s.line j := rfl
@[simp] theorem modComp_bank (i : CompId) (f : Compressor → Compressor) (j : BankId) : (modComp i f s).bank j = s.bank j := rfl
@[simp] theorem modComp_holderOf (i : CompId) (f : Compressor → Compressor) (j : BankId) : (modComp i f s).holderOf j = s.holderOf j := rfl
@[simp] theorem modComp_stackedAt (i : CompId) (f : Compressor → Compressor) (j : BankId) : (modComp i f s).stackedAt j = s.stackedAt j := rfl
theorem modComp_comp (i : CompId) (f : Compressor → Compressor) (j : CompId) : (modComp i f s).comp j = if i = j then f (s.comp i) else s.comp j := by
  simp [modComp, State.comp, sel_upd]
@[simp] theorem modComp_comp_self (i : CompId) (f : Compressor → Compressor) : (modComp i f s).comp i = f (s.comp i) := by simp [modComp_comp]
theorem modComp_comp_ne (i : CompId) (f : Compressor → Compressor) (j : CompId) (h : i ≠ j) : (modComp i f s).comp j = s.comp j := by simp [modComp_comp, h]
@[simp] theorem modComp_fp (i : CompId) (f : Compressor → Compressor) (j : FpId) : (modComp i f s).fp j = s.fp j := rfl
@[simp] theorem modComp_link (i : CompId) (f : Compressor → Compressor) (j : FpId) : (modComp i f s).link j = s.link j := rfl
@[simp] theorem modComp_meter (i : CompId) (f : Compressor → Compressor) (j : FpId) : (modComp i f s).meter j = s.meter j := rfl
@[simp] theorem modComp_reservation (i : CompId) (f : Compressor → Compressor) (j : FpId) : (modComp i f s).reservation j = s.reservation j := rfl

/-! ### modFp -/

@[simp] theorem modFp_chans (i : FpId) (f : Fps → Fps) : (modFp i f s).chans = s.chans := rfl
@[simp] theorem modFp_lines (i : FpId) (f : Fps → Fps) : (modFp i f s).lines = s.lines := rfl
@[simp] theorem modFp_roleMap (i : FpId) (f : Fps → Fps) : (modFp i f s).roleMap = s.roleMap := rfl
@[simp] theorem modFp_lineModes (i : FpId) (f : Fps → Fps) : (modFp i f s).lineModes = s.lineModes := rfl
@[simp] theorem modFp_events (i : FpId) (f : Fps → Fps) : (modFp i f s).events = s.events := rfl
@[simp] theorem modFp_density (i : FpId) (f : Fps → Fps) : (modFp i f s).density = s.density := rfl
@[simp] theorem modFp_banks (i : FpId) (f : Fps → Fps) : (modFp i f s).banks = s.banks := rfl
@[simp] theorem modFp_refill (i : FpId) (f : Fps → Fps) : (modFp i f s).refill = s.refill := rfl
@[simp] theorem modFp_holder (i : FpId) (f : Fps → Fps) : (modFp i f s).holder = s.holder := rfl
@[simp] theorem modFp_stacked (i : FpId) (f : Fps → Fps) : (modFp i f s).stacked = s.stacked := rfl
@[simp] theorem modFp_cs (i : FpId) (f : Fps → Fps) : (modFp i f s).cs = s.cs := rfl
@[simp] theorem modFp_csInbox (i : FpId) (f : Fps → Fps) : (modFp i f s).csInbox = s.csInbox := rfl
@[simp] theorem modFp_pcm (i : FpId) (f : Fps → Fps) : (modFp i f s).pcm = s.pcm := rfl
@[simp] theorem modFp_ramp (i : FpId) (f : Fps → Fps) : (modFp i f s).ramp = s.ramp := rfl
theorem modFp_fps (i : FpId) (f : Fps → Fps) : (modFp i f s).fps = upd s.fps i (f (s.fp i)) := rfl
@[simp] theorem modFp_vlr (i : FpId) (f : Fps → Fps) : (modFp i f s).vlr = s.vlr := rfl
@[simp] theorem modFp_mtu (i : FpId) (f : Fps → Fps) : (modFp i f s).mtu = s.mtu := rfl
@[simp] theorem modFp_prices (i : FpId) (f : Fps → Fps) : (modFp i f s).prices = s.prices := rfl
@[simp] theorem modFp_cqr (i : FpId) (f : Fps → Fps) : (modFp i f s).cqr = s.cqr := rfl
@[simp] theorem modFp_site (i : FpId) (f : Fps → Fps) : (modFp i f s).site = s.site := rfl
@[simp] theorem modFp_sli (i : FpId) (f : Fps → Fps) : (modFp i f s).sli = s.sli := rfl
@[simp] theorem modFp_orderCount (i : FpId) (f : Fps → Fps) : (modFp i f s).orderCount = s.orderCount := rfl
@[simp] theorem modFp_pending (i : FpId) (f : Fps → Fps) : (modFp i f s).pending = s.pending := rfl
@[simp] theorem modFp_chan (i : FpId) (f : Fps → Fps) (j : ChanId) : (modFp i f s).chan j = s.chan j := rfl
@[simp] theorem modFp_line (i : FpId) (f : Fps → Fps) (j : LineId) : (modFp i f s).line j = s.line j := rfl
@[simp] theorem modFp_bank (i : FpId) (f : Fps → Fps) (j : BankId) : (modFp i f s).bank j = s.bank j := rfl
@[simp] theorem modFp_holderOf (i : FpId) (f : Fps → Fps) (j : BankId) : (modFp i f s).holderOf j = s.holderOf j := rfl
@[simp] theorem modFp_stackedAt (i : FpId) (f : Fps → Fps) (j : BankId) : (modFp i f s).stackedAt j = s.stackedAt j := rfl
@[simp] theorem modFp_comp (i : FpId) (f : Fps → Fps) (j : CompId) : (modFp i f s).comp j = s.comp j := rfl
theorem modFp_fp (i : FpId) (f : Fps → Fps) (j : FpId) : (modFp i f s).fp j = if i = j then f (s.fp i) else s.fp j := by
  simp [modFp, State.fp, sel_upd]
@[simp] theorem modFp_fp_self (i : FpId) (f : Fps → Fps) : (modFp i f s).fp i = f (s.fp i) := by simp [modFp_fp]
theorem modFp_fp_ne (i : FpId) (f : Fps → Fps) (j : FpId) (h : i ≠ j) : (modFp i f s).fp j = s.fp j := by simp [modFp_fp, h]
@[simp] theorem modFp_link (i : FpId) (f : Fps → Fps) (j : FpId) : (modFp i f s).link j = s.link j := rfl
@[simp] theorem modFp_meter (i : FpId) (f : Fps → Fps) (j : FpId) : (modFp i f s).meter j = s.meter j := rfl
@[simp] theorem modFp_reservation (i : FpId) (f : Fps → Fps) (j : FpId) : (modFp i f s).reservation j = s.reservation j := rfl

/-! ### modLink -/

@[simp] theorem modLink_chans (i : FpId) (f : Vlr → Vlr) : (modLink i f s).chans = s.chans := rfl
@[simp] theorem modLink_lines (i : FpId) (f : Vlr → Vlr) : (modLink i f s).lines = s.lines := rfl
@[simp] theorem modLink_roleMap (i : FpId) (f : Vlr → Vlr) : (modLink i f s).roleMap = s.roleMap := rfl
@[simp] theorem modLink_lineModes (i : FpId) (f : Vlr → Vlr) : (modLink i f s).lineModes = s.lineModes := rfl
@[simp] theorem modLink_events (i : FpId) (f : Vlr → Vlr) : (modLink i f s).events = s.events := rfl
@[simp] theorem modLink_density (i : FpId) (f : Vlr → Vlr) : (modLink i f s).density = s.density := rfl
@[simp] theorem modLink_banks (i : FpId) (f : Vlr → Vlr) : (modLink i f s).banks = s.banks := rfl
@[simp] theorem modLink_refill (i : FpId) (f : Vlr → Vlr) : (modLink i f s).refill = s.refill := rfl
@[simp] theorem modLink_holder (i : FpId) (f : Vlr → Vlr) : (modLink i f s).holder = s.holder := rfl
@[simp] theorem modLink_stacked (i : FpId) (f : Vlr → Vlr) : (modLink i f s).stacked = s.stacked := rfl
@[simp] theorem modLink_cs (i : FpId) (f : Vlr → Vlr) : (modLink i f s).cs = s.cs := rfl
@[simp] theorem modLink_csInbox (i : FpId) (f : Vlr → Vlr) : (modLink i f s).csInbox = s.csInbox := rfl
@[simp] theorem modLink_pcm (i : FpId) (f : Vlr → Vlr) : (modLink i f s).pcm = s.pcm := rfl
@[simp] theorem modLink_ramp (i : FpId) (f : Vlr → Vlr) : (modLink i f s).ramp = s.ramp := rfl
@[simp] theorem modLink_fps (i : FpId) (f : Vlr → Vlr) : (modLink i f s).fps = s.fps := rfl
theorem modLink_vlr (i : FpId) (f : Vlr → Vlr) : (modLink i f s).vlr = upd s.vlr i (f (s.link i)) := rfl
@[simp] theorem modLink_mtu (i : FpId) (f : Vlr → Vlr) : (modLink i f s).mtu = s.mtu := rfl
@[simp] theorem modLink_prices (i : FpId) (f : Vlr → Vlr) : (modLink i f s).prices = s.prices := rfl
@[simp] theorem modLink_cqr (i : FpId) (f : Vlr → Vlr) : (modLink i f s).cqr = s.cqr := rfl
@[simp] theorem modLink_site (i : FpId) (f : Vlr → Vlr) : (modLink i f s).site = s.site := rfl
@[simp] theorem modLink_sli (i : FpId) (f : Vlr → Vlr) : (modLink i f s).sli = s.sli := rfl
@[simp] theorem modLink_orderCount (i : FpId) (f : Vlr → Vlr) : (modLink i f s).orderCount = s.orderCount := rfl
@[simp] theorem modLink_pending (i : FpId) (f : Vlr → Vlr) : (modLink i f s).pending = s.pending := rfl
@[simp] theorem modLink_chan (i : FpId) (f : Vlr → Vlr) (j : ChanId) : (modLink i f s).chan j = s.chan j := rfl
@[simp] theorem modLink_line (i : FpId) (f : Vlr → Vlr) (j : LineId) : (modLink i f s).line j = s.line j := rfl
@[simp] theorem modLink_bank (i : FpId) (f : Vlr → Vlr) (j : BankId) : (modLink i f s).bank j = s.bank j := rfl
@[simp] theorem modLink_holderOf (i : FpId) (f : Vlr → Vlr) (j : BankId) : (modLink i f s).holderOf j = s.holderOf j := rfl
@[simp] theorem modLink_stackedAt (i : FpId) (f : Vlr → Vlr) (j : BankId) : (modLink i f s).stackedAt j = s.stackedAt j := rfl
@[simp] theorem modLink_comp (i : FpId) (f : Vlr → Vlr) (j : CompId) : (modLink i f s).comp j = s.comp j := rfl
@[simp] theorem modLink_fp (i : FpId) (f : Vlr → Vlr) (j : FpId) : (modLink i f s).fp j = s.fp j := rfl
theorem modLink_link (i : FpId) (f : Vlr → Vlr) (j : FpId) : (modLink i f s).link j = if i = j then f (s.link i) else s.link j := by
  simp [modLink, State.link, sel_upd]
@[simp] theorem modLink_link_self (i : FpId) (f : Vlr → Vlr) : (modLink i f s).link i = f (s.link i) := by simp [modLink_link]
theorem modLink_link_ne (i : FpId) (f : Vlr → Vlr) (j : FpId) (h : i ≠ j) : (modLink i f s).link j = s.link j := by simp [modLink_link, h]
@[simp] theorem modLink_meter (i : FpId) (f : Vlr → Vlr) (j : FpId) : (modLink i f s).meter j = s.meter j := rfl
@[simp] theorem modLink_reservation (i : FpId) (f : Vlr → Vlr) (j : FpId) : (modLink i f s).reservation j = s.reservation j := rfl

/-! ### modMeter -/

@[simp] theorem modMeter_chans (i : FpId) (f : Meter → Meter) : (modMeter i f s).chans = s.chans := rfl
@[simp] theorem modMeter_lines (i : FpId) (f : Meter → Meter) : (modMeter i f s).lines = s.lines := rfl
@[simp] theorem modMeter_roleMap (i : FpId) (f : Meter → Meter) : (modMeter i f s).roleMap = s.roleMap := rfl
@[simp] theorem modMeter_lineModes (i : FpId) (f : Meter → Meter) : (modMeter i f s).lineModes = s.lineModes := rfl
@[simp] theorem modMeter_events (i : FpId) (f : Meter → Meter) : (modMeter i f s).events = s.events := rfl
@[simp] theorem modMeter_density (i : FpId) (f : Meter → Meter) : (modMeter i f s).density = s.density := rfl
@[simp] theorem modMeter_banks (i : FpId) (f : Meter → Meter) : (modMeter i f s).banks = s.banks := rfl
@[simp] theorem modMeter_refill (i : FpId) (f : Meter → Meter) : (modMeter i f s).refill = s.refill := rfl
@[simp] theorem modMeter_holder (i : FpId) (f : Meter → Meter) : (modMeter i f s).holder = s.holder := rfl
@[simp] theorem modMeter_stacked (i : FpId) (f : Meter → Meter) : (modMeter i f s).stacked = s.stacked := rfl
@[simp] theorem modMeter_cs (i : FpId) (f : Meter → Meter) : (modMeter i f s).cs = s.cs := rfl
@[simp] theorem modMeter_csInbox (i : FpId) (f : Meter → Meter) : (modMeter i f s).csInbox = s.csInbox := rfl
@[simp] theorem modMeter_pcm (i : FpId) (f : Meter → Meter) : (modMeter i f s).pcm = s.pcm := rfl
@[simp] theorem modMeter_ramp (i : FpId) (f : Meter → Meter) : (modMeter i f s).ramp = s.ramp := rfl
@[simp] theorem modMeter_fps (i : FpId) (f : Meter → Meter) : (modMeter i f s).fps = s.fps := rfl
@[simp] theorem modMeter_vlr (i : FpId) (f : Meter → Meter) : (modMeter i f s).vlr = s.vlr := rfl
theorem modMeter_mtu (i : FpId) (f : Meter → Meter) : (modMeter i f s).mtu = upd s.mtu i (f (s.meter i)) := rfl
@[simp] theorem modMeter_prices (i : FpId) (f : Meter → Meter) : (modMeter i f s).prices = s.prices := rfl
@[simp] theorem modMeter_cqr (i : FpId) (f : Meter → Meter) : (modMeter i f s).cqr = s.cqr := rfl
@[simp] theorem modMeter_site (i : FpId) (f : Meter → Meter) : (modMeter i f s).site = s.site := rfl
@[simp] theorem modMeter_sli (i : FpId) (f : Meter → Meter) : (modMeter i f s).sli = s.sli := rfl
@[simp] theorem modMeter_orderCount (i : FpId) (f : Meter → Meter) : (modMeter i f s).orderCount = s.orderCount := rfl
@[simp] theorem modMeter_pending (i : FpId) (f : Meter → Meter) : (modMeter i f s).pending = s.pending := rfl
@[simp] theorem modMeter_chan (i : FpId) (f : Meter → Meter) (j : ChanId) : (modMeter i f s).chan j = s.chan j := rfl
@[simp] theorem modMeter_line (i : FpId) (f : Meter → Meter) (j : LineId) : (modMeter i f s).line j = s.line j := rfl
@[simp] theorem modMeter_bank (i : FpId) (f : Meter → Meter) (j : BankId) : (modMeter i f s).bank j = s.bank j := rfl
@[simp] theorem modMeter_holderOf (i : FpId) (f : Meter → Meter) (j : BankId) : (modMeter i f s).holderOf j = s.holderOf j := rfl
@[simp] theorem modMeter_stackedAt (i : FpId) (f : Meter → Meter) (j : BankId) : (modMeter i f s).stackedAt j = s.stackedAt j := rfl
@[simp] theorem modMeter_comp (i : FpId) (f : Meter → Meter) (j : CompId) : (modMeter i f s).comp j = s.comp j := rfl
@[simp] theorem modMeter_fp (i : FpId) (f : Meter → Meter) (j : FpId) : (modMeter i f s).fp j = s.fp j := rfl
@[simp] theorem modMeter_link (i : FpId) (f : Meter → Meter) (j : FpId) : (modMeter i f s).link j = s.link j := rfl
theorem modMeter_meter (i : FpId) (f : Meter → Meter) (j : FpId) : (modMeter i f s).meter j = if i = j then f (s.meter i) else s.meter j := by
  simp [modMeter, State.meter, sel_upd]
@[simp] theorem modMeter_meter_self (i : FpId) (f : Meter → Meter) : (modMeter i f s).meter i = f (s.meter i) := by simp [modMeter_meter]
theorem modMeter_meter_ne (i : FpId) (f : Meter → Meter) (j : FpId) (h : i ≠ j) : (modMeter i f s).meter j = s.meter j := by simp [modMeter_meter, h]
@[simp] theorem modMeter_reservation (i : FpId) (f : Meter → Meter) (j : FpId) : (modMeter i f s).reservation j = s.reservation j := rfl

/-! ### modReservation -/

@[simp] theorem modReservation_chans (i : FpId) (f : Reservation → Reservation) : (modReservation i f s).chans = s.chans := rfl
@[simp] theorem modReservation_lines (i : FpId) (f : Reservation → Reservation) : (modReservation i f s).lines = s.lines := rfl
@[simp] theorem modReservation_roleMap (i : FpId) (f : Reservation → Reservation) : (modReservation i f s).roleMap = s.roleMap := rfl
@[simp] theorem modReservation_lineModes (i : FpId) (f : Reservation → Reservation) : (modReservation i f s).lineModes = s.lineModes := rfl
@[simp] theorem modReservation_events (i : FpId) (f : Reservation → Reservation) : (modReservation i f s).events = s.events := rfl
@[simp] theorem modReservation_density (i : FpId) (f : Reservation → Reservation) : (modReservation i f s).density = s.density := rfl
@[simp] theorem modReservation_banks (i : FpId) (f : Reservation → Reservation) : (modReservation i f s).banks = s.banks := rfl
@[simp] theorem modReservation_refill (i : FpId) (f : Reservation → Reservation) : (modReservation i f s).refill = s.refill := rfl
@[simp] theorem modReservation_holder (i : FpId) (f : Reservation → Reservation) : (modReservation i f s).holder = s.holder := rfl
@[simp] theorem modReservation_stacked (i : FpId) (f : Reservation → Reservation) : (modReservation i f s).stacked = s.stacked := rfl
@[simp] theorem modReservation_cs (i : FpId) (f : Reservation → Reservation) : (modReservation i f s).cs = s.cs := rfl
@[simp] theorem modReservation_csInbox (i : FpId) (f : Reservation → Reservation) : (modReservation i f s).csInbox = s.csInbox := rfl
theorem modReservation_pcm (i : FpId) (f : Reservation → Reservation) : (modReservation i f s).pcm = { s.pcm with records := upd s.pcm.records i (f (s.reservation i)) } := rfl
@[simp] theorem modReservation_ramp (i : FpId) (f : Reservation → Reservation) : (modReservation i f s).ramp = s.ramp := rfl
@[simp] theorem modReservation_fps (i : FpId) (f : Reservation → Reservation) : (modReservation i f s).fps = s.fps := rfl
@[simp] theorem modReservation_vlr (i : FpId) (f : Reservation → Reservation) : (modReservation i f s).vlr = s.vlr := rfl
@[simp] theorem modReservation_mtu (i : FpId) (f : Reservation → Reservation) : (modReservation i f s).mtu = s.mtu := rfl
@[simp] theorem modReservation_prices (i : FpId) (f : Reservation → Reservation) : (modReservation i f s).prices = s.prices := rfl
@[simp] theorem modReservation_cqr (i : FpId) (f : Reservation → Reservation) : (modReservation i f s).cqr = s.cqr := rfl
@[simp] theorem modReservation_site (i : FpId) (f : Reservation → Reservation) : (modReservation i f s).site = s.site := rfl
@[simp] theorem modReservation_sli (i : FpId) (f : Reservation → Reservation) : (modReservation i f s).sli = s.sli := rfl
@[simp] theorem modReservation_orderCount (i : FpId) (f : Reservation → Reservation) : (modReservation i f s).orderCount = s.orderCount := rfl
@[simp] theorem modReservation_pending (i : FpId) (f : Reservation → Reservation) : (modReservation i f s).pending = s.pending := rfl
@[simp] theorem modReservation_chan (i : FpId) (f : Reservation → Reservation) (j : ChanId) : (modReservation i f s).chan j = s.chan j := rfl
@[simp] theorem modReservation_line (i : FpId) (f : Reservation → Reservation) (j : LineId) : (modReservation i f s).line j = s.line j := rfl
@[simp] theorem modReservation_bank (i : FpId) (f : Reservation → Reservation) (j : BankId) : (modReservation i f s).bank j = s.bank j := rfl
@[simp] theorem modReservation_holderOf (i : FpId) (f : Reservation → Reservation) (j : BankId) : (modReservation i f s).holderOf j = s.holderOf j := rfl
@[simp] theorem modReservation_stackedAt (i : FpId) (f : Reservation → Reservation) (j : BankId) : (modReservation i f s).stackedAt j = s.stackedAt j := rfl
@[simp] theorem modReservation_comp (i : FpId) (f : Reservation → Reservation) (j : CompId) : (modReservation i f s).comp j = s.comp j := rfl
@[simp] theorem modReservation_fp (i : FpId) (f : Reservation → Reservation) (j : FpId) : (modReservation i f s).fp j = s.fp j := rfl
@[simp] theorem modReservation_link (i : FpId) (f : Reservation → Reservation) (j : FpId) : (modReservation i f s).link j = s.link j := rfl
@[simp] theorem modReservation_meter (i : FpId) (f : Reservation → Reservation) (j : FpId) : (modReservation i f s).meter j = s.meter j := rfl
theorem modReservation_reservation (i : FpId) (f : Reservation → Reservation) (j : FpId) : (modReservation i f s).reservation j = if i = j then f (s.reservation i) else s.reservation j := by
  simp [modReservation, State.reservation, sel_upd]
@[simp] theorem modReservation_reservation_self (i : FpId) (f : Reservation → Reservation) : (modReservation i f s).reservation i = f (s.reservation i) := by simp [modReservation_reservation]
theorem modReservation_reservation_ne (i : FpId) (f : Reservation → Reservation) (j : FpId) (h : i ≠ j) : (modReservation i f s).reservation j = s.reservation j := by simp [modReservation_reservation, h]

/-! ### modPcm -/

@[simp] theorem modPcm_chans (f : Pcm → Pcm) : (modPcm f s).chans = s.chans := rfl
@[simp] theorem modPcm_lines (f : Pcm → Pcm) : (modPcm f s).lines = s.lines := rfl
@[simp] theorem modPcm_roleMap (f : Pcm → Pcm) : (modPcm f s).roleMap = s.roleMap := rfl
@[simp] theorem modPcm_lineModes (f : Pcm → Pcm) : (modPcm f s).lineModes = s.lineModes := rfl
@[simp] theorem modPcm_events (f : Pcm → Pcm) : (modPcm f s).events = s.events := rfl
@[simp] theorem modPcm_density (f : Pcm → Pcm) : (modPcm f s).density = s.density := rfl
@[simp] theorem modPcm_banks (f : Pcm → Pcm) : (modPcm f s).banks = s.banks := rfl
@[simp] theorem modPcm_refill (f : Pcm → Pcm) : (modPcm f s).refill = s.refill := rfl
@[simp] theorem modPcm_holder (f : Pcm → Pcm) : (modPcm f s).holder = s.holder := rfl
@[simp] theorem modPcm_stacked (f : Pcm → Pcm) : (modPcm f s).stacked = s.stacked := rfl
@[simp] theorem modPcm_cs (f : Pcm → Pcm) : (modPcm f s).cs = s.cs := rfl
@[simp] theorem modPcm_csInbox (f : Pcm → Pcm) : (modPcm f s).csInbox = s.csInbox := rfl
theorem modPcm_pcm (f : Pcm → Pcm) : (modPcm f s).pcm = f s.pcm := rfl
@[simp] theorem modPcm_ramp (f : Pcm → Pcm) : (modPcm f s).ramp = s.ramp := rfl
@[simp] theorem modPcm_fps (f : Pcm → Pcm) : (modPcm f s).fps = s.fps := rfl
@[simp] theorem modPcm_vlr (f : Pcm → Pcm) : (modPcm f s).vlr = s.vlr := rfl
@[simp] theorem modPcm_mtu (f : Pcm → Pcm) : (modPcm f s).mtu = s.mtu := rfl
@[simp] theorem modPcm_prices (f : Pcm → Pcm) : (modPcm f s).prices = s.prices := rfl
@[simp] theorem modPcm_cqr (f : Pcm → Pcm) : (modPcm f s).cqr = s.cqr := rfl
@[simp] theorem modPcm_site (f : Pcm → Pcm) : (modPcm f s).site = s.site := rfl
@[simp] theorem modPcm_sli (f : Pcm → Pcm) : (modPcm f s).sli = s.sli := rfl
@[simp] theorem modPcm_orderCount (f : Pcm → Pcm) : (modPcm f s).orderCount = s.orderCount := rfl
@[simp] theorem modPcm_pending (f : Pcm → Pcm) : (modPcm f s).pending = s.pending := rfl
@[simp] theorem modPcm_chan (f : Pcm → Pcm) (j : ChanId) : (modPcm f s).chan j = s.chan j := rfl
@[simp] theorem modPcm_line (f : Pcm → Pcm) (j : LineId) : (modPcm f s).line j = s.line j := rfl
@[simp] theorem modPcm_bank (f : Pcm → Pcm) (j : BankId) : (modPcm f s).bank j = s.bank j := rfl
@[simp] theorem modPcm_holderOf (f : Pcm → Pcm) (j : BankId) : (modPcm f s).holderOf j = s.holderOf j := rfl
@[simp] theorem modPcm_stackedAt (f : Pcm → Pcm) (j : BankId) : (modPcm f s).stackedAt j = s.stackedAt j := rfl
@[simp] theorem modPcm_comp (f : Pcm → Pcm) (j : CompId) : (modPcm f s).comp j = s.comp j := rfl
@[simp] theorem modPcm_fp (f : Pcm → Pcm) (j : FpId) : (modPcm f s).fp j = s.fp j := rfl
@[simp] theorem modPcm_link (f : Pcm → Pcm) (j : FpId) : (modPcm f s).link j = s.link j := rfl
@[simp] theorem modPcm_meter (f : Pcm → Pcm) (j : FpId) : (modPcm f s).meter j = s.meter j := rfl

/-! ### modCqr -/

@[simp] theorem modCqr_chans (f : Cqr → Cqr) : (modCqr f s).chans = s.chans := rfl
@[simp] theorem modCqr_lines (f : Cqr → Cqr) : (modCqr f s).lines = s.lines := rfl
@[simp] theorem modCqr_roleMap (f : Cqr → Cqr) : (modCqr f s).roleMap = s.roleMap := rfl
@[simp] theorem modCqr_lineModes (f : Cqr → Cqr) : (modCqr f s).lineModes = s.lineModes := rfl
@[simp] theorem modCqr_events (f : Cqr → Cqr) : (modCqr f s).events = s.events := rfl
@[simp] theorem modCqr_density (f : Cqr → Cqr) : (modCqr f s).density = s.density := rfl
@[simp] theorem modCqr_banks (f : Cqr → Cqr) : (modCqr f s).banks = s.banks := rfl
@[simp] theorem modCqr_refill (f : Cqr → Cqr) : (modCqr f s).refill = s.refill := rfl
@[simp] theorem modCqr_holder (f : Cqr → Cqr) : (modCqr f s).holder = s.holder := rfl
@[simp] theorem modCqr_stacked (f : Cqr → Cqr) : (modCqr f s).stacked = s.stacked := rfl
@[simp] theorem modCqr_cs (f : Cqr → Cqr) : (modCqr f s).cs = s.cs := rfl
@[simp] theorem modCqr_csInbox (f : Cqr → Cqr) : (modCqr f s).csInbox = s.csInbox := rfl
@[simp] theorem modCqr_pcm (f : Cqr → Cqr) : (modCqr f s).pcm = s.pcm := rfl
@[simp] theorem modCqr_ramp (f : Cqr → Cqr) : (modCqr f s).ramp = s.ramp := rfl
@[simp] theorem modCqr_fps (f : Cqr → Cqr) : (modCqr f s).fps = s.fps := rfl
@[simp] theorem modCqr_vlr (f : Cqr → Cqr) : (modCqr f s).vlr = s.vlr := rfl
@[simp] theorem modCqr_mtu (f : Cqr → Cqr) : (modCqr f s).mtu = s.mtu := rfl
@[simp] theorem modCqr_prices (f : Cqr → Cqr) : (modCqr f s).prices = s.prices := rfl
theorem modCqr_cqr (f : Cqr → Cqr) : (modCqr f s).cqr = f s.cqr := rfl
@[simp] theorem modCqr_site (f : Cqr → Cqr) : (modCqr f s).site = s.site := rfl
@[simp] theorem modCqr_sli (f : Cqr → Cqr) : (modCqr f s).sli = s.sli := rfl
@[simp] theorem modCqr_orderCount (f : Cqr → Cqr) : (modCqr f s).orderCount = s.orderCount := rfl
@[simp] theorem modCqr_pending (f : Cqr → Cqr) : (modCqr f s).pending = s.pending := rfl
@[simp] theorem modCqr_chan (f : Cqr → Cqr) (j : ChanId) : (modCqr f s).chan j = s.chan j := rfl
@[simp] theorem modCqr_line (f : Cqr → Cqr) (j : LineId) : (modCqr f s).line j = s.line j := rfl
@[simp] theorem modCqr_bank (f : Cqr → Cqr) (j : BankId) : (modCqr f s).bank j = s.bank j := rfl
@[simp] theorem modCqr_holderOf (f : Cqr → Cqr) (j : BankId) : (modCqr f s).holderOf j = s.holderOf j := rfl
@[simp] theorem modCqr_stackedAt (f : Cqr → Cqr) (j : BankId) : (modCqr f s).stackedAt j = s.stackedAt j := rfl
@[simp] theorem modCqr_comp (f : Cqr → Cqr) (j : CompId) : (modCqr f s).comp j = s.comp j := rfl
@[simp] theorem modCqr_fp (f : Cqr → Cqr) (j : FpId) : (modCqr f s).fp j = s.fp j := rfl
@[simp] theorem modCqr_link (f : Cqr → Cqr) (j : FpId) : (modCqr f s).link j = s.link j := rfl
@[simp] theorem modCqr_meter (f : Cqr → Cqr) (j : FpId) : (modCqr f s).meter j = s.meter j := rfl
@[simp] theorem modCqr_reservation (f : Cqr → Cqr) (j : FpId) : (modCqr f s).reservation j = s.reservation j := rfl

/-! ### modSite -/

@[simp] theorem modSite_chans (f : Site → Site) : (modSite f s).chans = s.chans := rfl
@[simp] theorem modSite_lines (f : Site → Site) : (modSite f s).lines = s.lines := rfl
@[simp] theorem modSite_roleMap (f : Site → Site) : (modSite f s).roleMap = s.roleMap := rfl
@[simp] theorem modSite_lineModes (f : Site → Site) : (modSite f s).lineModes = s.lineModes := rfl
@[simp] theorem modSite_events (f : Site → Site) : (modSite f s).events = s.events := rfl
@[simp] theorem modSite_density (f : Site → Site) : (modSite f s).density = s.density := rfl
@[simp] theorem modSite_banks (f : Site → Site) : (modSite f s).banks = s.banks := rfl
@[simp] theorem modSite_refill (f : Site → Site) : (modSite f s).refill = s.refill := rfl
@[simp] theorem modSite_holder (f : Site → Site) : (modSite f s).holder = s.holder := rfl
@[simp] theorem modSite_stacked (f : Site → Site) : (modSite f s).stacked = s.stacked := rfl
@[simp] theorem modSite_cs (f : Site → Site) : (modSite f s).cs = s.cs := rfl
@[simp] theorem modSite_csInbox (f : Site → Site) : (modSite f s).csInbox = s.csInbox := rfl
@[simp] theorem modSite_pcm (f : Site → Site) : (modSite f s).pcm = s.pcm := rfl
@[simp] theorem modSite_ramp (f : Site → Site) : (modSite f s).ramp = s.ramp := rfl
@[simp] theorem modSite_fps (f : Site → Site) : (modSite f s).fps = s.fps := rfl
@[simp] theorem modSite_vlr (f : Site → Site) : (modSite f s).vlr = s.vlr := rfl
@[simp] theorem modSite_mtu (f : Site → Site) : (modSite f s).mtu = s.mtu := rfl
@[simp] theorem modSite_prices (f : Site → Site) : (modSite f s).prices = s.prices := rfl
@[simp] theorem modSite_cqr (f : Site → Site) : (modSite f s).cqr = s.cqr := rfl
theorem modSite_site (f : Site → Site) : (modSite f s).site = f s.site := rfl
@[simp] theorem modSite_sli (f : Site → Site) : (modSite f s).sli = s.sli := rfl
@[simp] theorem modSite_orderCount (f : Site → Site) : (modSite f s).orderCount = s.orderCount := rfl
@[simp] theorem modSite_pending (f : Site → Site) : (modSite f s).pending = s.pending := rfl
@[simp] theorem modSite_chan (f : Site → Site) (j : ChanId) : (modSite f s).chan j = s.chan j := rfl
@[simp] theorem modSite_line (f : Site → Site) (j : LineId) : (modSite f s).line j = s.line j := rfl
@[simp] theorem modSite_bank (f : Site → Site) (j : BankId) : (modSite f s).bank j = s.bank j := rfl
@[simp] theorem modSite_holderOf (f : Site → Site) (j : BankId) : (modSite f s).holderOf j = s.holderOf j := rfl
@[simp] theorem modSite_stackedAt (f : Site → Site) (j : BankId) : (modSite f s).stackedAt j = s.stackedAt j := rfl
@[simp] theorem modSite_comp (f : Site → Site) (j : CompId) : (modSite f s).comp j = s.comp j := rfl
@[simp] theorem modSite_fp (f : Site → Site) (j : FpId) : (modSite f s).fp j = s.fp j := rfl
@[simp] theorem modSite_link (f : Site → Site) (j : FpId) : (modSite f s).link j = s.link j := rfl
@[simp] theorem modSite_meter (f : Site → Site) (j : FpId) : (modSite f s).meter j = s.meter j := rfl
@[simp] theorem modSite_reservation (f : Site → Site) (j : FpId) : (modSite f s).reservation j = s.reservation j := rfl

/-! ### modSli -/

@[simp] theorem modSli_chans (f : Sli → Sli) : (modSli f s).chans = s.chans := rfl
@[simp] theorem modSli_lines (f : Sli → Sli) : (modSli f s).lines = s.lines := rfl
@[simp] theorem modSli_roleMap (f : Sli → Sli) : (modSli f s).roleMap = s.roleMap := rfl
@[simp] theorem modSli_lineModes (f : Sli → Sli) : (modSli f s).lineModes = s.lineModes := rfl
@[simp] theorem modSli_events (f : Sli → Sli) : (modSli f s).events = s.events := rfl
@[simp] theorem modSli_density (f : Sli → Sli) : (modSli f s).density = s.density := rfl
@[simp] theorem modSli_banks (f : Sli → Sli) : (modSli f s).banks = s.banks := rfl
@[simp] theorem modSli_refill (f : Sli → Sli) : (modSli f s).refill = s.refill := rfl
@[simp] theorem modSli_holder (f : Sli → Sli) : (modSli f s).holder = s.holder := rfl
@[simp] theorem modSli_stacked (f : Sli → Sli) : (modSli f s).stacked = s.stacked := rfl
@[simp] theorem modSli_cs (f : Sli → Sli) : (modSli f s).cs = s.cs := rfl
@[simp] theorem modSli_csInbox (f : Sli → Sli) : (modSli f s).csInbox = s.csInbox := rfl
@[simp] theorem modSli_pcm (f : Sli → Sli) : (modSli f s).pcm = s.pcm := rfl
@[simp] theorem modSli_ramp (f : Sli → Sli) : (modSli f s).ramp = s.ramp := rfl
@[simp] theorem modSli_fps (f : Sli → Sli) : (modSli f s).fps = s.fps := rfl
@[simp] theorem modSli_vlr (f : Sli → Sli) : (modSli f s).vlr = s.vlr := rfl
@[simp] theorem modSli_mtu (f : Sli → Sli) : (modSli f s).mtu = s.mtu := rfl
@[simp] theorem modSli_prices (f : Sli → Sli) : (modSli f s).prices = s.prices := rfl
@[simp] theorem modSli_cqr (f : Sli → Sli) : (modSli f s).cqr = s.cqr := rfl
@[simp] theorem modSli_site (f : Sli → Sli) : (modSli f s).site = s.site := rfl
theorem modSli_sli (f : Sli → Sli) : (modSli f s).sli = f s.sli := rfl
@[simp] theorem modSli_orderCount (f : Sli → Sli) : (modSli f s).orderCount = s.orderCount := rfl
@[simp] theorem modSli_pending (f : Sli → Sli) : (modSli f s).pending = s.pending := rfl
@[simp] theorem modSli_chan (f : Sli → Sli) (j : ChanId) : (modSli f s).chan j = s.chan j := rfl
@[simp] theorem modSli_line (f : Sli → Sli) (j : LineId) : (modSli f s).line j = s.line j := rfl
@[simp] theorem modSli_bank (f : Sli → Sli) (j : BankId) : (modSli f s).bank j = s.bank j := rfl
@[simp] theorem modSli_holderOf (f : Sli → Sli) (j : BankId) : (modSli f s).holderOf j = s.holderOf j := rfl
@[simp] theorem modSli_stackedAt (f : Sli → Sli) (j : BankId) : (modSli f s).stackedAt j = s.stackedAt j := rfl
@[simp] theorem modSli_comp (f : Sli → Sli) (j : CompId) : (modSli f s).comp j = s.comp j := rfl
@[simp] theorem modSli_fp (f : Sli → Sli) (j : FpId) : (modSli f s).fp j = s.fp j := rfl
@[simp] theorem modSli_link (f : Sli → Sli) (j : FpId) : (modSli f s).link j = s.link j := rfl
@[simp] theorem modSli_meter (f : Sli → Sli) (j : FpId) : (modSli f s).meter j = s.meter j := rfl
@[simp] theorem modSli_reservation (f : Sli → Sli) (j : FpId) : (modSli f s).reservation j = s.reservation j := rfl

/-! ### post -/

@[simp] theorem post_chans (n : Nat) : (post n s).chans = s.chans := rfl
@[simp] theorem post_lines (n : Nat) : (post n s).lines = s.lines := rfl
@[simp] theorem post_roleMap (n : Nat) : (post n s).roleMap = s.roleMap := rfl
@[simp] theorem post_lineModes (n : Nat) : (post n s).lineModes = s.lineModes := rfl
@[simp] theorem post_events (n : Nat) : (post n s).events = s.events := rfl
@[simp] theorem post_density (n : Nat) : (post n s).density = s.density := rfl
@[simp] theorem post_banks (n : Nat) : (post n s).banks = s.banks := rfl
@[simp] theorem post_refill (n : Nat) : (post n s).refill = s.refill := rfl
@[simp] theorem post_holder (n : Nat) : (post n s).holder = s.holder := rfl
@[simp] theorem post_stacked (n : Nat) : (post n s).stacked = s.stacked := rfl
@[simp] theorem post_cs (n : Nat) : (post n s).cs = s.cs := rfl
@[simp] theorem post_csInbox (n : Nat) : (post n s).csInbox = s.csInbox := rfl
@[simp] theorem post_pcm (n : Nat) : (post n s).pcm = s.pcm := rfl
@[simp] theorem post_ramp (n : Nat) : (post n s).ramp = s.ramp := rfl
@[simp] theorem post_fps (n : Nat) : (post n s).fps = s.fps := rfl
@[simp] theorem post_vlr (n : Nat) : (post n s).vlr = s.vlr := rfl
@[simp] theorem post_mtu (n : Nat) : (post n s).mtu = s.mtu := rfl
@[simp] theorem post_prices (n : Nat) : (post n s).prices = s.prices := rfl
@[simp] theorem post_cqr (n : Nat) : (post n s).cqr = s.cqr := rfl
@[simp] theorem post_site (n : Nat) : (post n s).site = s.site := rfl
theorem post_sli (n : Nat) : (post n s).sli = { s.sli with summary := s.sli.summary ||| BitVec.twoPow 15 n } := rfl
@[simp] theorem post_orderCount (n : Nat) : (post n s).orderCount = s.orderCount := rfl
@[simp] theorem post_pending (n : Nat) : (post n s).pending = s.pending := rfl
@[simp] theorem post_chan (n : Nat) (j : ChanId) : (post n s).chan j = s.chan j := rfl
@[simp] theorem post_line (n : Nat) (j : LineId) : (post n s).line j = s.line j := rfl
@[simp] theorem post_bank (n : Nat) (j : BankId) : (post n s).bank j = s.bank j := rfl
@[simp] theorem post_holderOf (n : Nat) (j : BankId) : (post n s).holderOf j = s.holderOf j := rfl
@[simp] theorem post_stackedAt (n : Nat) (j : BankId) : (post n s).stackedAt j = s.stackedAt j := rfl
@[simp] theorem post_comp (n : Nat) (j : CompId) : (post n s).comp j = s.comp j := rfl
@[simp] theorem post_fp (n : Nat) (j : FpId) : (post n s).fp j = s.fp j := rfl
@[simp] theorem post_link (n : Nat) (j : FpId) : (post n s).link j = s.link j := rfl
@[simp] theorem post_meter (n : Nat) (j : FpId) : (post n s).meter j = s.meter j := rfl
@[simp] theorem post_reservation (n : Nat) (j : FpId) : (post n s).reservation j = s.reservation j := rfl

/-! ### A transaction is part of its meter -/

theorem modTxn_eq (i : FpId) (f : Txn → Txn) : modTxn i f s = modMeter i (fun m => { m with txn := m.txn.map f }) s := rfl

end Sys2Proof.Machine
end

