-- ==== Sys2Proof/Laws/Answers.lean ====
section
/-!
SUPPORT. What a request answers, said once: the owner's answer is SLI's, and apart from the answer the state is the owner's
(R202, R203).
-/
namespace Sys2Proof.Machine

variable {s u : State} {c : Instr} {a : Answer}

@[simp] theorem unanswered_answer (r : State × Answer) : (answer c r).unanswered = r.1.unanswered := by
  unfold answer State.unanswered
  split
  · split <;> rfl
  · rfl

@[simp] theorem answer_answer (r : State × Answer) : (answer c r).sli.answer = some r.2 := by
  unfold answer
  split
  · split <;> rfl
  · rfl

/-- A request answers what its owner answers. -/
theorem answers_of {own : State → State × Answer} (e : exec c s = request c own s) (h : own s = (u, a)) : Answers c s a u :=
  ⟨answer c (own s), e, by simp [h], by simp [h]⟩

/-- A request is refused where its owner refuses it. -/
theorem refuses_of {own : State → State × Answer} {r : RefusalCode} (e : exec c s = request c own s)
    (h : own s = refuse s r) : Refuses c s r := answers_of e h

@[simp] theorem unitOf_lt {n x : Nat} (h : x < n) : unitOf n x = some ⟨x, h⟩ := by simp [unitOf, h]
@[simp] theorem unitOf_val {n : Nat} (i : Fin n) : unitOf n i.val = some i := by simp [unitOf]
theorem unitOf_ge {n x : Nat} (h : n ≤ x) : unitOf n x = none := by simp [unitOf, Nat.not_lt.mpr h]

theorem loadsTaken_iff (s : State) : loadsTaken s = true ↔ s.TakesLoads := by
  unfold loadsTaken State.TakesLoads
  split <;> simp_all

/-- A load is its body where loads are taken, and is refused elsewhere. -/
theorem load_taken {body : State → State × Answer} (h : s.TakesLoads) : load body s = body s := by
  simp [load, (loadsTaken_iff s).mpr h]
theorem load_refused {body : State → State × Answer} (h : ¬ s.TakesLoads) : load body s = refuse s .badState := by
  simp [load, mt (loadsTaken_iff s).mp h]

/-- A request that waits for its reply gets it, once (R203). -/
theorem answer_reply {h : Header} (r : State × Answer) (w : r.1.sli.awaiting = some (h, c)) :
    (answer c r).sli.awaiting = none ∧ (answer c r).sli.reply = replyFrame h r.2 := by
  unfold answer
  rw [w]
  simp [modSli]

end Sys2Proof.Machine
end

