-- ==== Sys2Proof/Laws/Runs.lean ====
section
/-!
SUPPORT. What the running of the blocks can do, said once: no operation below the site controller moves a loaded table, a
channel, a line, a price, the site record, the queue of commands or SLI's state but for its summary, and each keeps the
arbiter's invariant (R50), the numbering of the completion queue (R176) and the sums of the draw lists (R163, R175). Every
lemma adds one operation to a run.
-/
namespace Sys2Proof.Machine

/-- The state `t` is reached from `s` by the running of the blocks; where `w` is false no bank's live state is written. -/
structure Runs (w : Bool) (s t : State) : Prop where
  fixed : t.fixed = s.fixed
  arb : s.ArbiterOk → t.ArbiterOk
  queue : s.QueueOk → t.QueueOk
  sums : s.SumsOk → t.SumsOk
  banks : w = false → t.banks = s.banks
  wait : s.WaitOk → t.WaitOk
  posts : ∀ n, s.sli.summary.getLsbD n = true → t.sli.summary.getLsbD n = true

variable {w : Bool} {s0 s t : State}

theorem Runs.refl (s : State) : Runs w s s := ⟨rfl, id, id, id, fun _ => rfl, id, fun _ => id⟩

theorem Runs.trans {u : State} (h : Runs w s t) (k : Runs w t u) : Runs w s u :=
  ⟨k.fixed.trans h.fixed, k.arb ∘ h.arb, k.queue ∘ h.queue, k.sums ∘ h.sums, fun e => (k.banks e).trans (h.banks e),
    k.wait ∘ h.wait, fun n => k.posts n ∘ h.posts n⟩

@[simp] theorem Runs.ite {c : Prop} [Decidable c] (h : Runs w s0 s) (k : Runs w s0 t) : Runs w s0 (if c then s else t) := by
  split <;> assumption

/-- A map over a table does not see a change of one entry that keeps what is mapped. -/
theorem map_upd {α β : Type} {n : Nat} (g : α → β) (v : Vector α n) (i : Fin n) (x : α) (h : g x = g (sel v i)) :
    (upd v i x).map g = v.map g := by
  apply Vector.ext
  intro j hj
  by_cases e : i.val = j
  · subst e; simp [upd, h, sel]
  · simp [upd, e]

/-- A state with the same arbiter, queue and fixed part. -/
theorem Runs.same (h : Runs w s0 s) (f : t.fixed = s.fixed) (ho : t.holder = s.holder) (st : t.stacked = s.stacked)
    (q : t.cqr.queue = s.cqr.queue) (n : t.cqr.nextNumber = s.cqr.nextNumber)
    (m : (∀ i t, (s.meter i).txn = some t → drawSum t.draw = t.mass) →
      ∀ i u, (t.meter i).txn = some u → drawSum u.draw = u.mass)
    (bk : w = false → t.banks = s.banks := by intro; rfl)
    (wt : s.WaitOk → t.WaitOk := by exact fun a => ⟨a.once, a.members⟩)
    (ps : ∀ n, s.sli.summary.getLsbD n = true → t.sli.summary.getLsbD n = true := by exact fun _ => id) : Runs w s0 t := by
  refine ⟨f.trans h.fixed, fun a => ?_, fun a => ?_, fun a => ?_, fun e => (bk e).trans (h.banks e), wt ∘ h.wait,
    fun n => ps n ∘ h.posts n⟩
  · have b := h.arb a
    have e1 : t.holderOf = s.holderOf := funext fun i => by simp [State.holderOf, ho]
    have e2 : t.stackedAt = s.stackedAt := funext fun i => by simp [State.stackedAt, st]
    exact ⟨by rw [e1]; exact b.oneGrant, by rw [e1, e2]; exact b.noHolderWaits, by rw [e2]; exact b.oneSet,
      by rw [e2]; exact b.once⟩
  · have b := h.queue a
    unfold State.QueueOk at *; rw [q, n]; exact b
  · have b := h.sums a
    exact ⟨m b.txns, by rw [q]; exact b.records⟩

/-! ### The updates of one unit -/

@[simp] theorem Runs.modFp {i f} (h : Runs w s0 s) (k : ∀ x, (f x).entry = x.entry ∧ (f x).loaded = x.loaded) :
    Runs w s0 (modFp i f s) :=
  h.same (by simp only [State.fixed, modFp_fps]; rw [map_upd]; rotate_left; simp [k, State.fp]; rfl) rfl rfl rfl rfl id

@[simp] theorem Runs.modComp {i f} (h : Runs w s0 s) (k : ∀ x, (f x).entry = x.entry ∧ (f x).loaded = x.loaded) :
    Runs w s0 (modComp i f s) :=
  h.same (by simp only [State.fixed, modComp_cs]; rw [map_upd]; rotate_left; simp [k, State.comp]; rfl) rfl rfl rfl rfl id

@[simp] theorem Runs.modBank {i f} (h : Runs true s0 s) (k : ∀ x, (f x).entry = x.entry) : Runs true s0 (modBank i f s) :=
  h.same (by simp only [State.fixed, modBank_banks]; rw [map_upd]; rotate_left; simp [k, State.bank]; rfl) rfl rfl rfl rfl id
    nofun

/-- The precool entry stands, and the wait list still agrees with the records. -/
theorem Runs.waits {f : Pcm → Pcm} (h : Runs w s0 s) (k : ∀ x, (f x).entry = x.entry ∧ (f x).loaded = x.loaded)
    (wt : s.WaitOk → (Machine.modPcm f s).WaitOk) : Runs w s0 (Machine.modPcm f s) :=
  h.same (by simp [State.fixed, modPcm_pcm, k]) rfl rfl rfl rfl id (wt := wt)

@[simp] theorem Runs.modPcm {f} (h : Runs w s0 s) (k : ∀ x, (f x).entry = x.entry ∧ (f x).loaded = x.loaded)
    (r : ∀ x, (f x).waitList = x.waitList ∧ (f x).records = x.records) : Runs w s0 (modPcm f s) :=
  h.waits k fun a => ⟨by simpa [modPcm_pcm, r] using a.once,
    fun i => by simpa [modPcm_pcm, r, State.reservation] using a.members i⟩

@[simp] theorem Runs.modReservation {i f} (h : Runs w s0 s) (k : (f (s.reservation i)).state = (s.reservation i).state) :
    Runs w s0 (modReservation i f s) :=
  h.same rfl rfl rfl rfl rfl id (wt := fun a => ⟨a.once, fun j => by
    rw [modReservation_reservation]; split
    · next e => subst e; rw [k]; exact a.members _
    · exact a.members j⟩)

@[simp] theorem Runs.modLink {i f} (h : Runs w s0 s) : Runs w s0 (modLink i f s) := h.same rfl rfl rfl rfl rfl id

@[simp] theorem Runs.modMeter {i f} (h : Runs w s0 s)
    (k : ∀ m : Meter, (∀ t, m.txn = some t → drawSum t.draw = t.mass) →
      ∀ t, (f m).txn = some t → drawSum t.draw = t.mass) : Runs w s0 (modMeter i f s) :=
  h.same rfl rfl rfl rfl rfl fun a j u => by
    simp only [modMeter_meter]; split
    · exact k _ (a i) u
    · exact a j u

@[simp] theorem Runs.modTxn {i f} (h : Runs w s0 s)
    (k : ∀ t : Txn, drawSum t.draw = t.mass → drawSum (f t).draw = (f t).mass) : Runs w s0 (modTxn i f s) :=
  h.modMeter fun m a t e => by
    cases x : m.txn with
    | none => simp [x] at e
    | some t' => simp only [x, Option.map_some, Option.some.injEq] at e; subst e; exact k t' (a t' x)

@[simp] theorem Runs.modCqr {f} (h : Runs w s0 s) (q : (f s.cqr).queue = s.cqr.queue)
    (n : (f s.cqr).nextNumber = s.cqr.nextNumber) : Runs w s0 (modCqr f s) := h.same rfl rfl rfl q n id

@[simp] theorem Runs.inbox {l} (h : Runs w s0 s) : Runs w s0 { s with csInbox := l } := h.same rfl rfl rfl rfl rfl id
@[simp] theorem Runs.order {n} (h : Runs w s0 s) : Runs w s0 { s with orderCount := n } := h.same rfl rfl rfl rfl rfl id
@[simp] theorem Runs.refill {l} (h : Runs w s0 s) : Runs w s0 { s with refill := l } := h.same rfl rfl rfl rfl rfl id

/-! ### Flags and states (Flags) -/

@[simp] theorem Runs.post {n} (h : Runs w s0 s) : Runs w s0 (post n s) :=
  h.same rfl rfl rfl rfl rfl id (ps := fun m e => by simp [post_sli, e])
@[simp] theorem Runs.postIf {b n} (h : Runs w s0 s) : Runs w s0 (postIf b n s) := by unfold Machine.postIf; simp [h]
@[simp] theorem Runs.setFill {i st} (h : Runs w s0 s) : Runs w s0 (setFill i st s) := by unfold Machine.setFill; simp [h]
@[simp] theorem Runs.setCompState {k st} (h : Runs w s0 s) : Runs w s0 (setCompState k st s) := by
  unfold Machine.setCompState; simp [h]
@[simp] theorem Runs.setChiller {c} (h : Runs w s0 s) : Runs w s0 (setChiller c s) := by unfold Machine.setChiller; simp [h]

end Sys2Proof.Machine
end

