-- ==== Sys2Proof/Laws/ArbiterRuns.lean ====
section
/-!
SUPPORT. The Bank Arbiter keeps its invariant (R50): one lemma for each of its operations, and for what a grant does at its
winner.
-/
namespace Sys2Proof.Machine

variable {w : Bool} {s0 s t : State}

/-- Events taken in any order run where each of them does. -/
theorem Runs.takeAll {n : Nat} {fs : List (State → State)} (k : ∀ f ∈ fs, ∀ u, Runs w s0 u → Runs w s0 (f u)) (h : Runs w s0 s) :
    Runs w s0 (takeAll n fs s) := by
  induction n generalizing fs s with
  | zero => exact h
  | succ n ih =>
    match fs with
    | [] => exact h
    | [f] => exact k f (by simp) _ h
    | f :: g :: rest =>
      unfold Machine.takeAll
      refine ih (fun x hx => k x (List.mem_of_mem_eraseIdx hx)) ?_
      have ho : Runs w s0 (freeChoice (f :: g :: rest).length s).2 := h.order
      cases e : (f :: g :: rest)[(freeChoice (f :: g :: rest).length s).1]? with
      | none => simpa [e] using ho
      | some x => simpa [e] using k x (List.mem_of_getElem? e) _ ho

theorem Runs.inAnyOrder {fs : List (State → State)} (k : ∀ f ∈ fs, ∀ u, Runs w s0 u → Runs w s0 (f u)) (h : Runs w s0 s) :
    Runs w s0 (inAnyOrder fs s) := h.takeAll k

/-- A fold of events runs where each of them does. -/
theorem Runs.fold {α : Type} {f : State → α → State} {l : List α} (k : ∀ a u, Runs w s0 u → Runs w s0 (f u a))
    (h : Runs w s0 s) : Runs w s0 (l.foldl f s) := by
  induction l generalizing s with
  | nil => exact h
  | cons a l ih => exact ih (k a _ h)

/-! ### Holders and stacked sets -/

/-- A change of holders and stacked sets alone that keeps the invariant. -/
theorem Runs.arbiter (h : Runs w s0 s) (f : t.fixed = s.fixed) (q : t.cqr = s.cqr) (m : t.mtu = s.mtu)
    (k : s.ArbiterOk → t.ArbiterOk) (bk : t.banks = s.banks := by rfl)
    (wt : t.pcm = s.pcm := by rfl) (ps : t.sli = s.sli := by rfl) : Runs w s0 t :=
  ⟨f.trans h.fixed, k ∘ h.arb, fun a => by have := h.queue a; unfold State.QueueOk at *; rw [q]; exact this,
    fun a => ⟨by have := (h.sums a).txns; unfold State.meter at *; rw [m]; exact this,
      by have := (h.sums a).records; rw [q]; exact this⟩, fun e => bk.trans (h.banks e),
    fun a => ⟨by rw [wt]; exact (h.wait a).once, fun i => by
      have := (h.wait a).members i; unfold State.reservation at *; rw [wt]; exact this⟩,
    fun n e => by rw [ps]; exact h.posts n e⟩

@[simp] theorem Runs.freed {b : BankId} (h : Runs w s0 s) : Runs w s0 (setHolder b none s) := by
  refine h.arbiter rfl rfl rfl fun a => ⟨?_, ?_, a.oneSet, a.once⟩
  · intro r c d; simp only [setHolder_holderOf]
    split <;> split <;> first | exact a.oneGrant r c d | simp
  · intro r c d; simp only [setHolder_holderOf, setHolder_stackedAt]
    split <;> first | exact a.noHolderWaits r c d | simp

/-- A smaller stacked set. -/
theorem Runs.fewer {b : BankId} {l : List Requester} (h : Runs w s0 s) (k : List.Sublist l (s.stackedAt b)) :
    Runs w s0 (setStacked b l s) := by
  refine h.arbiter rfl rfl rfl fun a => ⟨a.oneGrant, ?_, ?_, ?_⟩
  · intro r c d hc; simp only [setStacked_stackedAt]
    split
    · next e => subst e; exact fun m => a.noHolderWaits r c _ hc (k.subset m)
    · exact a.noHolderWaits r c d hc
  · have sub : ∀ r c, r ∈ (setStacked b l s).stackedAt c → r ∈ s.stackedAt c := by
      intro r c; simp only [setStacked_stackedAt]
      split
      · next e => subst e; exact fun m => k.subset m
      · exact id
    exact fun r c d hc hd => a.oneSet r c d (sub r c hc) (sub r d hd)
  · intro c; simp only [setStacked_stackedAt]
    split
    · next e => subst e; exact (a.once b).sublist k
    · exact a.once c

@[simp] theorem Runs.withdrawBank {r b} (h : Runs w s0 s) : Runs w s0 (withdrawBank r b s) := h.fewer List.erase_sublist

/-- The winner of a competition at a FREE bank leaves the set and becomes the holder. -/
theorem Runs.wins {r : Requester} {b : BankId} (h : Runs w s0 s) (m : r ∈ s.stackedAt b) :
    Runs w s0 (setHolder b (some r) (setStacked b ((s.stackedAt b).erase r) s)) := by
  refine h.arbiter rfl rfl rfl fun a => ?_
  have no : ∀ c, s.holderOf c ≠ some r := fun c e => a.noHolderWaits r c b e m
  have out : r ∉ (s.stackedAt b).erase r := (a.once b).not_mem_erase
  constructor
  · intro r' c d; simp only [setHolder_holderOf, setStacked_holderOf]
    split
    · next e =>
      subst e; intro x; cases x
      split
      · next e2 => intro _; exact e2
      · intro x; exact absurd x (no d)
    · split
      · next e => subst e; intro x y; cases y; exact absurd x (no c)
      · exact a.oneGrant r' c d
  · intro r' c d; simp only [setHolder_holderOf, setStacked_holderOf, setHolder_stackedAt, setStacked_stackedAt]
    split
    · intro x; cases x
      split
      · next e => subst e; exact out
      · next e => exact fun y => e (a.oneSet r b d m y)
    · intro x
      split
      · exact fun y => a.noHolderWaits r' c b x (List.mem_of_mem_erase y)
      · exact a.noHolderWaits r' c d x
  · intro r' c d; simp only [setHolder_stackedAt, setStacked_stackedAt]
    split <;> split <;> intro x y
    · next e1 e2 => exact e1.symm.trans e2
    · next e1 _ => subst e1; exact a.oneSet r' b d (List.mem_of_mem_erase x) y
    · next _ e2 => subst e2; exact a.oneSet r' c b x (List.mem_of_mem_erase y)
    · exact a.oneSet r' c d x y
  · intro c; simp only [setHolder_stackedAt, setStacked_stackedAt]
    split
    · exact (a.once b).erase r
    · exact a.once c

/-! ### What a grant does at its winner -/

/-- Closing entries keeps their masses. -/
theorem drawSum_close (p : DrawEntry → Nat) (l : List DrawEntry) :
    drawSum (l.map fun e => match e.closeP with
      | none => { e with closeP := some (p e) }
      | some _ => e) = drawSum l := by
  induction l with
  | nil => rfl
  | cons e l ih =>
    simp only [drawSum, List.map_cons, List.sum_cons] at *
    rw [ih]; congr 1; split <;> rfl

@[simp] theorem Runs.closeDraw {i} (h : Runs w s0 s) : Runs w s0 (closeDraw i s) :=
  h.modTxn fun _ a => (drawSum_close _ _).trans a
@[simp] theorem Runs.openDraw {i b} (h : Runs w s0 s) : Runs w s0 (openDraw i b s) :=
  h.modTxn fun _ a => by simpa [drawSum] using a
@[simp] theorem Runs.setFlags {i f} (h : Runs w s0 s) : Runs w s0 (setFlags i f s) := h.modTxn fun _ a => a

theorem flowTimers_entry (o n l d) (f : Fps) :
    (flowTimers o n l d f).entry = f.entry ∧ (flowTimers o n l d f).loaded = f.loaded := by
  unfold flowTimers; split
  · split <;> simp
  · simp

@[simp] theorem Runs.setSub {i n} (h : Runs w s0 s) : Runs w s0 (setSub i n s) := by
  unfold Machine.setSub; simp [h, flowTimers_entry]
@[simp] theorem Runs.rederive {i} (h : Runs w s0 s) : Runs w s0 (rederive i s) := h.setSub
@[simp] theorem Runs.rebase {i} (h : Runs w s0 s) : Runs w s0 (rebase i s) := by unfold Machine.rebase; simp [h]
@[simp] theorem Runs.beginPulse {i} (h : Runs w s0 s) : Runs w s0 (beginPulse i s) := by unfold Machine.beginPulse; simp [h]

@[simp] theorem Runs.fpsTake {i b} (h : Runs w s0 s) : Runs w s0 (fpsTake i b s) := by
  unfold Machine.fpsTake; dsimp only
  split <;> simp (maxDischargeDepth := 20) [h]

@[simp] theorem Runs.tellGranted {r b} (h : Runs w s0 s) : Runs w s0 (tellGranted r b s).1 := by
  unfold Machine.tellGranted
  split <;> split <;> simp (maxDischargeDepth := 20) [h]

/-! ### Competitions, requests, releases -/

theorem winner_mem (s : State) (l : List Requester) (r : Requester) (h : s.winner l = some r) : r ∈ l := by
  induction l generalizing r with
  | nil => simp [State.winner] at h
  | cons x rest ih =>
    unfold State.winner at h
    split at h
    · simp_all
    · next w e =>
      split at h
      · simp_all
      · simp only [Option.some.injEq] at h; subst h; exact List.mem_cons_of_mem _ (ih w e)

theorem Runs.competeFor {n b} (h : Runs w s0 s) (free : s.holderOf b = none) : Runs w s0 (competeFor n b s) := by
  induction n generalizing s with
  | zero => exact h
  | succ n ih =>
    unfold Machine.competeFor
    split
    · exact h
    · next r e =>
      have g := (h.wins (winner_mem s _ r e)).tellGranted (r := r) (b := b)
      dsimp only; split
      · exact ih g.freed (by simp)
      · exact g

@[simp] theorem Runs.compete {b} (h : Runs w s0 s) : Runs w s0 (compete b s) := by
  unfold Machine.compete; split
  · next e => exact h.competeFor e
  · exact h

@[simp] theorem Runs.releaseBank {r b} (h : Runs w s0 s) : Runs w s0 (releaseBank r b s) := by
  unfold Machine.releaseBank; split
  · exact h.freed.compete
  · exact h

@[simp] theorem Runs.letGo {r b} (h : Runs w s0 s) : Runs w s0 (letGo r b s) := h.releaseBank.withdrawBank

theorem mem_insertReq (r x : Requester) (l : List Requester) : x ∈ insertReq r l ↔ x = r ∨ x ∈ l := by
  induction l with
  | nil => simp [insertReq]
  | cons y l ih => unfold insertReq; split <;> simp [ih, or_left_comm]

theorem insertReq_nodup (r : Requester) (l : List Requester) (h : l.Nodup) (n : r ∉ l) : (insertReq r l).Nodup := by
  induction l with
  | nil => simp [insertReq]
  | cons y l ih =>
    unfold insertReq; split
    · simp_all
    · simp only [List.nodup_cons, List.mem_cons, not_or] at *
      exact ⟨by rw [mem_insertReq]; rintro (e | m); exacts [n.1 e.symm, h.1 m], ih h.2 n.2⟩

/-- A requester that is not engaged holds no bank and stands in no set. -/
theorem not_engaged (s : State) (r : Requester) (h : s.engaged r = false) (b : BankId) :
    s.holderOf b ≠ some r ∧ r ∉ s.stackedAt b := by
  have m : b ∈ allBanks := by fin_cases b <;> decide
  simp only [State.engaged, List.any_eq_false, Bool.or_eq_true, beq_iff_eq, List.contains_iff_mem, not_or] at h
  exact h b m

/-- request(b) keeps the invariant, whatever it answers (R50, R51). -/
@[simp] theorem Runs.requestBank {r b} (h : Runs w s0 s) : Runs w s0 (requestBank r b s).1 := by
  unfold Machine.requestBank
  split
  · exact h
  · next ne =>
    have free := not_engaged s r (by simp at ne; exact ne.2)
    split
    · next e =>
      simp only [Bool.and_eq_true, Option.isNone_iff_eq_none, List.isEmpty_iff] at e
      refine h.arbiter rfl rfl rfl fun a => ⟨?_, ?_, a.oneSet, a.once⟩
      · intro r' c d; simp only [setHolder_holderOf]
        split
        · next e => 
          intro x; cases x
          split
          · next e2 => intro _; exact e.symm.trans e2
          · exact fun y => absurd y (free d).1
        · split
          · intro x y; cases y; exact absurd x (free c).1
          · exact a.oneGrant r' c d
      · intro r' c d; simp only [setHolder_holderOf, setHolder_stackedAt]
        split
        · intro x; cases x; exact (free d).2
        · exact a.noHolderWaits r' c d
    · refine h.arbiter rfl rfl rfl fun a => ⟨a.oneGrant, ?_, ?_, ?_⟩
      · intro r' c d x; simp only [setStacked_stackedAt]
        split
        · rw [mem_insertReq]; rintro (e | m)
          · subst e; exact (free c).1 x
          · exact a.noHolderWaits r' c b x m
        · exact a.noHolderWaits r' c d x
      · intro r' c d; simp only [setStacked_stackedAt]
        split <;> split <;> intro x y
        · next e1 e2 => exact e1.symm.trans e2
        · next e1 _ =>
          rw [mem_insertReq] at x
          rcases x with e | m
          · subst e; exact absurd y (free d).2
          · subst e1; exact a.oneSet r' b d m y
        · next _ e2 =>
          rw [mem_insertReq] at y
          rcases y with e | m
          · subst e; exact absurd x (free c).2
          · subst e2; exact a.oneSet r' c b x m
        · exact a.oneSet r' c d x y
      · intro c; simp only [setStacked_stackedAt]
        split
        · exact insertReq_nodup r _ (a.once b) (free b).2
        · exact a.once c

/-- The arbiter emptied satisfies the invariant (R55). -/
@[simp] theorem Runs.emptyArbiter (h : Runs w s0 s) : Runs w s0 (emptyArbiter s) :=
  h.arbiter rfl rfl rfl fun _ => by
    constructor <;> simp [Machine.emptyArbiter, State.holderOf, State.stackedAt]

end Sys2Proof.Machine
end

