-- ==== Sys2Proof/Laws/BlockRuns.lean ====
section
/-!
SUPPORT. Every operation of the running blocks, added to a run (Runs): the completion queue, the meters, the receivers, the
fuelling point sequencers, the Precool Manager, the compressor sequencers and the Storage Manager.
-/
namespace Sys2Proof.Machine

variable {w : Bool} {s0 s t : State}

/-! ### Completion queue and retained store -/

theorem consecutive_append (l : List Record) (n : Nat) (r : Record) (h : consecutive l n = true) (e : r.number = n) :
    consecutive (l ++ [r]) (nextNumber n) = true := by
  induction l with
  | nil => simp [consecutive, e]
  | cons a l ih =>
    cases l with
    | nil => simp_all [consecutive]
    | cons b l => simp_all [consecutive]

theorem consecutive_tail (r : Record) (l : List Record) (n : Nat) (h : consecutive (r :: l) n = true) :
    consecutive l n = true := by
  cases l <;> simp_all [consecutive]

@[simp] theorem startWrite_queue (c : Cqr) : c.startWrite.queue = c.queue := rfl
@[simp] theorem startWrite_nextNumber (c : Cqr) : c.startWrite.nextNumber = c.nextNumber := rfl
@[simp] theorem mark_queue (c : Cqr) : c.mark.queue = c.queue := by unfold Cqr.mark; split <;> rfl
@[simp] theorem mark_nextNumber (c : Cqr) : c.mark.nextNumber = c.nextNumber := by unfold Cqr.mark; split <;> rfl
@[simp] theorem afterWrite_queue (c : Cqr) : c.afterWrite.queue = c.queue := by unfold Cqr.afterWrite; split <;> rfl
@[simp] theorem afterWrite_nextNumber (c : Cqr) : c.afterWrite.nextNumber = c.nextNumber := by
  unfold Cqr.afterWrite; split <;> rfl

/-- A change of the completion queue alone that keeps its numbering. -/
theorem Runs.queued {f : Cqr → Cqr} (h : Runs w s0 s)
    (k : consecutive s.cqr.queue s.cqr.nextNumber = true → consecutive (f s.cqr).queue (f s.cqr).nextNumber = true)
    (d : s.SumsOk → ∀ r ∈ (f s.cqr).queue, drawSum r.draw = r.mass) :
    Runs w s0 (Machine.modCqr f s) := by
  refine ⟨h.fixed, fun a => ?_, fun a => k (h.queue a), fun a => ⟨(h.sums a).txns, d (h.sums a)⟩, h.banks,
    fun a => ⟨(h.wait a).once, (h.wait a).members⟩, h.posts⟩
  have b := h.arb a
  exact ⟨b.oneGrant, b.noHolderWaits, b.oneSet, b.once⟩

@[simp] theorem Runs.markChange  (h : Runs w s0 s) : Runs w s0 (markChange  s) := by
  unfold Machine.markChange; simp (maxDischargeDepth := 40) [h]
@[simp] theorem Runs.writeDone {x} (h : Runs w s0 s) : Runs w s0 (writeDone x s) := by
  unfold Machine.writeDone; simp (maxDischargeDepth := 40) [h]
@[simp] theorem Runs.writeFailed {x} (h : Runs w s0 s) : Runs w s0 (writeFailed x s) := by
  unfold Machine.writeFailed; simp (maxDischargeDepth := 40) [h]
theorem Runs.loadRecord {r : Record} (h : Runs w s0 s) (e : s.SumsOk → drawSum r.draw = r.mass) : Runs w s0 (loadRecord r s) := by
  have q : Runs w s0 (Machine.modCqr (fun c =>
      { c with queue := c.queue ++ [{ r with number := c.nextNumber }]
               nextNumber := nextNumber c.nextNumber
               totals := upd c.totals r.fp ((sel c.totals r.fp).add r.mass r.amount) }) s) :=
    h.queued (fun k => consecutive_append _ _ _ k rfl) fun a x m => by
      rcases List.mem_append.mp m with m | m
      · exact a.records x m
      · simp only [List.mem_singleton] at m; subst m; exact e a
  exact q.markChange.post
@[simp] theorem Runs.reserveSlot  (h : Runs w s0 s) : Runs w s0 (reserveSlot  s) := by
  unfold Machine.reserveSlot; simp (maxDischargeDepth := 40) [h]
@[simp] theorem Runs.releaseSlot  (h : Runs w s0 s) : Runs w s0 (releaseSlot  s) := by
  unfold Machine.releaseSlot; simp (maxDischargeDepth := 40) [h]

/-! ### Meters -/

@[simp] theorem Runs.cancelAuthorization {i} (h : Runs w s0 s) : Runs w s0 (cancelAuthorization i s) := by
  unfold Machine.cancelAuthorization; simp (maxDischargeDepth := 40) [h]
@[simp] theorem Runs.meterStart {i} (h : Runs w s0 s) : Runs w s0 (meterStart i s) := h.modMeter fun m _ t e => by simp only [Option.some.injEq] at e; subst e; rfl
@[simp] theorem Runs.notePulse {i} (h : Runs w s0 s) : Runs w s0 (notePulse i s) := by
  unfold Machine.notePulse; simp (maxDischargeDepth := 40) [h]
/-- A mass joins a draw list that holds an entry (R165). -/
theorem drawSum_add (mg : Nat) (l : List DrawEntry) (h : l ≠ []) : drawSum (addToDraw mg l) = drawSum l + mg := by
  induction l with
  | nil => exact absurd rfl h
  | cons e l ih =>
    unfold addToDraw
    split
    · simp [drawSum]; omega
    · next c =>
      have : l ≠ [] := by rintro rfl; simp at c
      have := ih this
      simp [drawSum] at *; omega

/-- A pulse joins the transaction where its window is open and its draw list holds an entry (R165). -/
theorem Runs.pulseToTxn {i mg} (h : Runs w s0 s) (c : (s.meter i).counts = true) : Runs w s0 (pulseToTxn i mg s) := by
  refine h.same rfl rfl rfl rfl rfl fun a j u => ?_
  simp only [Machine.pulseToTxn, modMeter_meter]
  split
  · intro e
    cases x : (s.meter i).txn with
    | none => simp [x] at e
    | some t =>
      simp only [x, Option.map_some, Option.some.injEq] at e; subst e
      have : t.draw ≠ [] := by
        rintro e; simp [Meter.counts, x, e] at c
      simp [Txn.pulse, drawSum_add _ _ this, a i t x]
  · exact a j u
@[simp] theorem Runs.pulseToCreep {i mg} (h : Runs w s0 s) : Runs w s0 (pulseToCreep i mg s) := by
  unfold Machine.pulseToCreep; simp (maxDischargeDepth := 40) [h]
@[simp] theorem Runs.handOver {i r b} (h : Runs w s0 s) : Runs w s0 (handOver i r b s) := by
  have h1 : Runs w s0 (Machine.closeDraw i (Machine.modMeter i (fun m => { m with window := false }) s)) := by simp [h]
  unfold Machine.handOver; dsimp only
  split
  · exact h1
  · next t e =>
    refine Runs.modMeter (Runs.loadRecord (h1.same rfl rfl rfl rfl rfl fun a j u x => ?_) fun a => ?_) fun _ k => k
    · simp only [modMeter_meter] at x; split at x
      · cases x; exact a i t e
      · exact a j u x
    · exact a.txns i (t.close r b s.site.calendar) (by simp)

/-! ### Vehicle link receivers -/

@[simp] theorem Runs.endLink {i} (h : Runs w s0 s) : Runs w s0 (endLink i s) := by
  unfold Machine.endLink; simp (maxDischargeDepth := 40) [h]

/-! ### Fuelling point sequencers: ends and bank choices -/

@[simp] theorem Runs.takeReason {i r} (h : Runs w s0 s) : Runs w s0 (takeReason i r s) := by
  unfold Machine.takeReason; simp (maxDischargeDepth := 40) [h]
@[simp] theorem Runs.letGoOfBank {i} (h : Runs w s0 s) : Runs w s0 (letGoOfBank i s) := by
  unfold Machine.letGoOfBank
  split <;> simp (maxDischargeDepth := 40) [h]
@[simp] theorem Runs.stopFill {i r} (h : Runs w s0 s) : Runs w s0 (stopFill i r s) := by
  unfold Machine.stopFill; simp (maxDischargeDepth := 40) [h, Fps.closed]
@[simp] theorem Runs.closeFill {i r} (h : Runs w s0 s) : Runs w s0 (closeFill i r s) := by
  unfold Machine.closeFill; simp (maxDischargeDepth := 40) [h]
@[simp] theorem Runs.finish {i} (h : Runs w s0 s) : Runs w s0 (finish i s) := by
  unfold Machine.finish; dsimp only
  split <;> (try split) <;> simp (maxDischargeDepth := 40) [h]
@[simp] theorem Runs.ventDone {i} (h : Runs w s0 s) : Runs w s0 (ventDone i s) := by
  unfold Machine.ventDone; simp (maxDischargeDepth := 40) [h]
@[simp] theorem Runs.tryBanks {i l why} (h : Runs w s0 s) : Runs w s0 (tryBanks i l why s) := by
  induction l generalizing s why with
  | nil => exact h.closeFill
  | cons b rest ih =>
    unfold Machine.tryBanks
    split
    · dsimp only; split
      · simp (maxDischargeDepth := 40) [h]
      · simp (maxDischargeDepth := 40) [h]
      · exact ih (by simp (maxDischargeDepth := 40) [h])
    · exact ih h
@[simp] theorem Runs.tryAfter {i why} (h : Runs w s0 s) : Runs w s0 (tryAfter i why s) := by
  unfold Machine.tryAfter
  split <;> simp (maxDischargeDepth := 40) [h]
@[simp] theorem Runs.unlink {i} (h : Runs w s0 s) : Runs w s0 (unlink i s) := by
  unfold Machine.unlink; simp (maxDischargeDepth := 40) [h]
@[simp] theorem Runs.cascadeStep {i} (h : Runs w s0 s) : Runs w s0 (cascadeStep i s) := by
  unfold Machine.cascadeStep
  split <;> simp (maxDischargeDepth := 40) [h]
@[simp] theorem Runs.fpsWithdrawn {i b} (h : Runs w s0 s) : Runs w s0 (fpsWithdrawn i b s) := by
  unfold Machine.fpsWithdrawn; simp (maxDischargeDepth := 40) [h]
@[simp] theorem Runs.fpsRejected {i b} (h : Runs w s0 s) : Runs w s0 (fpsRejected i b s) := by
  unfold Machine.fpsRejected; simp (maxDischargeDepth := 40) [h]
@[simp] theorem Runs.enterLeakCheck {i} (h : Runs w s0 s) : Runs w s0 (enterLeakCheck i s) := by
  unfold Machine.enterLeakCheck; dsimp only
  split <;> simp (maxDischargeDepth := 40) [h]

/-! ### Ramp entries, samples, mass and flow -/

@[simp] theorem Runs.stage {i c} (h : Runs w s0 s) : Runs w s0 (stage i c s) := by
  unfold Machine.stage; dsimp only
  split <;> (try split) <;> simp (maxDischargeDepth := 40) [h]
@[simp] theorem Runs.fpsBand {i b} (h : Runs w s0 s) : Runs w s0 (fpsBand i b s) := by
  unfold Machine.fpsBand; dsimp only
  split
  · exact h
  · split
    · split <;> simp (maxDischargeDepth := 40) [h]
    · simp (maxDischargeDepth := 40) [h]
@[simp] theorem Runs.downgrade {i} (h : Runs w s0 s) : Runs w s0 (downgrade i s) := by
  unfold Machine.downgrade
  split <;> simp (maxDischargeDepth := 40) [h]
@[simp] theorem Runs.enterFilling {i} (h : Runs w s0 s) : Runs w s0 (enterFilling i s) := by
  unfold Machine.enterFilling; simp (maxDischargeDepth := 40) [h, Fps.rampStart, freeChoice]
@[simp] theorem Runs.stepTests {i b} (h : Runs w s0 s) : Runs w s0 (stepTests i s b) := by
  unfold Machine.stepTests; dsimp only
  split <;> simp (maxDischargeDepth := 40) [h]
@[simp] theorem Runs.bandTests {i v p} (h : Runs w s0 s) : Runs w s0 (bandTests i v p s) := by
  unfold Machine.bandTests
  split <;> (try split) <;> simp (maxDischargeDepth := 40) [h]
@[simp] theorem Runs.fillingSample {i v} (h : Runs w s0 s) : Runs w s0 (fillingSample i v s) := by
  unfold Machine.fillingSample; simp (maxDischargeDepth := 40) [h]
@[simp] theorem Runs.nozzleSample {i v} (h : Runs w s0 s) : Runs w s0 (nozzleSample i v s) := by
  unfold Machine.nozzleSample; dsimp only
  split <;> simp (maxDischargeDepth := 40) [h]
@[simp] theorem Runs.gasSample {i v} (h : Runs w s0 s) : Runs w s0 (gasSample i v s) := by
  unfold Machine.gasSample; dsimp only
  split
  · split <;> simp (maxDischargeDepth := 40) [h]
  · simp (maxDischargeDepth := 40) [h]
@[simp] theorem Runs.gasHeld {i v} (h : Runs w s0 s) : Runs w s0 (gasHeld i v s) := by
  unfold Machine.gasHeld; simp (maxDischargeDepth := 40) [h]
@[simp] theorem Runs.fpsBankSample {i b} (h : Runs w s0 s) : Runs w s0 (fpsBankSample i b s) := by
  unfold Machine.fpsBankSample; simp (maxDischargeDepth := 40) [h]
@[simp] theorem Runs.presetTests {i} (h : Runs w s0 s) : Runs w s0 (presetTests i s) := by
  unfold Machine.presetTests; dsimp only
  split <;> simp (maxDischargeDepth := 40) [h]
@[simp] theorem Runs.flowUpdate {i} (h : Runs w s0 s) : Runs w s0 (flowUpdate i s) := by
  unfold Machine.flowUpdate; simp (maxDischargeDepth := 40) [h]

/-! ### Precool Manager -/

@[simp] theorem Runs.evalChiller  (h : Runs w s0 s) : Runs w s0 (evalChiller  s) := by
  unfold Machine.evalChiller; simp (maxDischargeDepth := 40) [h]
/-- A record leaves or keeps the wait list as its fuelling point does: one that stands in no list becomes ADMITTED (R91). -/
theorem Runs.record {i : FpId} {f : Reservation → Reservation} (h : Runs w s0 s) (o : s.WaitOk → i ∉ s.pcm.waitList)
    (k : (f (s.reservation i)).state ≠ .waiting) : Runs w s0 (Machine.modReservation i f s) :=
  h.same rfl rfl rfl rfl rfl id (wt := fun a => ⟨a.once, fun j => by
    rw [modReservation_reservation]; split
    · next e => subst e; exact ⟨fun m => absurd m (o a), fun m => absurd m k⟩
    · exact a.members j⟩)
/-- The head leaves the list and its record becomes ADMITTED (R92). -/
theorem Runs.headOut {i : FpId} {rest : List FpId} {r : Reservation} (h : Runs w s0 s) (e : s.pcm.waitList = i :: rest)
    (k : r.state ≠ .waiting) :
    Runs w s0 (Machine.modReservation i (fun _ => r) (Machine.modPcm (fun p => { p with waitList := rest }) s)) := by
  refine h.same (by simp [State.fixed, modPcm_pcm, modReservation_pcm]) rfl rfl rfl rfl id (wt := fun a => ?_)
  have n := a.once; rw [e, List.nodup_cons] at n
  refine ⟨by simpa [modPcm_pcm, modReservation_pcm] using n.2, fun j => ?_⟩
  have m := a.members j; rw [e] at m
  rw [modReservation_reservation]; split
  · next q => subst q; exact ⟨fun x => absurd x n.1, fun x => absurd x k⟩
  · next q =>
    rw [List.mem_cons] at m
    exact Iff.trans (b := j = i ∨ j ∈ rest) ⟨.inr, fun x => x.resolve_left (Ne.symm q)⟩ m
theorem Runs.admitFill {i e t c} (h : Runs w s0 s) (o : s.WaitOk → i ∉ s.pcm.waitList) : Runs w s0 (admitFill i e t c s) := by
  unfold Machine.admitFill; dsimp only
  have := h.record (f := fun _ => admittedRecord e t c s.pcm.band (reservationFor e (qOf s.pcm.entry c))) o (by simp [admittedRecord])
  split
  · exact this.evalChiller
  · exact this
theorem Runs.admitHead {i e t c rest} (h : Runs w s0 s) (l : s.pcm.waitList = i :: rest) :
    Runs w s0 (Machine.admitFill i e t c (Machine.modPcm (fun p => { p with waitList := rest }) s)) := by
  unfold Machine.admitFill; dsimp only
  have := h.headOut (r := admittedRecord e t c s.pcm.band (reservationFor e (qOf s.pcm.entry c))) l (by simp [admittedRecord])
  split
  · exact this.evalChiller
  · exact this
@[simp] theorem Runs.fpsAdmitted {i c b} (h : Runs w s0 s) : Runs w s0 (fpsAdmitted i c b s) := by
  unfold Machine.fpsAdmitted; simp (maxDischargeDepth := 40) [h]
theorem Runs.joinWaitList {i e c} (h : Runs w s0 s) (k : (s.reservation i).state = .noRecord) :
    Runs w s0 (joinWaitList i e c s) := by
  unfold Machine.joinWaitList
  refine Runs.setFill (h.same (by simp [State.fixed, modPcm_pcm, modReservation_pcm]) rfl rfl rfl rfl id (wt := fun a => ?_))
  have o : i ∉ s.pcm.waitList := fun m => by have := (a.members i).mp m; rw [k] at this; cases this
  refine ⟨?_, fun j => ?_⟩
  · rw [modPcm_pcm, modReservation_pcm]; exact List.nodup_append.mpr ⟨a.once, by simp, fun x y z q => by
      rw [List.mem_singleton] at q; subst q; rintro rfl; exact o y⟩
  · simp only [modPcm_pcm, modReservation_pcm, State.reservation, sel_upd]
    split
    · next q => subst q; simp
    · next q => simpa [Ne.symm q, State.reservation] using a.members j
@[simp] theorem Runs.requestAdmission {i e c} (h : Runs w s0 s) : Runs w s0 (requestAdmission i e c s) := by
  unfold Machine.requestAdmission
  split
  · exact h
  · next k =>
    have k := of_not_not k
    have o : s.WaitOk → i ∉ s.pcm.waitList := fun a m => by have := (a.members i).mp m; rw [k] at this; cases this
    split
    · split
      · exact (h.admitFill o).fpsAdmitted
      · exact h.joinWaitList k
    · exact h.joinWaitList k
@[simp] theorem Runs.evalHeads {n} (h : Runs w s0 s) : Runs w s0 (evalHeads n s) := by
  induction n generalizing s with
  | zero => exact h
  | succ n ih =>
    unfold Machine.evalHeads
    split
    · exact h
    · next i rest e =>
      dsimp only; split
      · exact h
      · exact ih (h.admitHead e).fpsAdmitted
@[simp] theorem Runs.evalHead  (h : Runs w s0 s) : Runs w s0 (evalHead  s) := by
  unfold Machine.evalHead; simp (maxDischargeDepth := 40) [h]
@[simp] theorem Runs.leaveWaitList {i} (h : Runs w s0 s) : Runs w s0 (leaveWaitList i s) := by
  unfold Machine.leaveWaitList
  refine h.same (by simp [State.fixed, modPcm_pcm, modReservation_pcm]) rfl rfl rfl rfl id (wt := fun a => ⟨a.once.erase i, fun j => ?_⟩)
  simp only [modPcm_pcm, modReservation_pcm, State.reservation, sel_upd]
  split
  · next e => subst e; simp [a.once.mem_erase_iff, Reservation.empty]
  · next e => simpa [a.once.mem_erase_iff, Ne.symm e, State.reservation] using a.members j
@[simp] theorem Runs.withdrawAdmission {i} (h : Runs w s0 s) : Runs w s0 (withdrawAdmission i s) := by
  unfold Machine.withdrawAdmission; simp (maxDischargeDepth := 40) [h]
@[simp] theorem Runs.afterFall  (h : Runs w s0 s) : Runs w s0 (afterFall  s) := by
  unfold Machine.afterFall; simp (maxDischargeDepth := 40) [h]
@[simp] theorem Runs.releaseReservation {i} (h : Runs w s0 s) : Runs w s0 (releaseReservation i s) := by
  unfold Machine.releaseReservation; dsimp only
  split
  · next e =>
    have : Runs w s0 (Machine.modReservation i (fun _ => Reservation.empty) s) :=
      h.record (fun a m => by have := (a.members i).mp m; rw [e] at this; cases this) (by simp [Reservation.empty])
    split <;> simp [this]
  · exact h.withdrawAdmission
  · exact h
@[simp] theorem Runs.coldUpdate {i} (h : Runs w s0 s) : Runs w s0 (coldUpdate i s) := by
  unfold Machine.coldUpdate; dsimp only
  split <;> simp (maxDischargeDepth := 40) [h]
@[simp] theorem Runs.coldSwap {i c} (h : Runs w s0 s) : Runs w s0 (coldSwap i c s) := by
  have k : ∀ (r : Reservation) q m, (swapRecord r c q m).state = r.state := fun r q m => by unfold swapRecord; split <;> rfl
  unfold Machine.coldSwap; dsimp only
  split <;> (try split) <;> simp (maxDischargeDepth := 40) [h, k]
@[simp] theorem Runs.coldStoreSample {v} (h : Runs w s0 s) : Runs w s0 (coldStoreSample v s) := by
  unfold Machine.coldStoreSample; simp (maxDischargeDepth := 40) [h]
@[simp] theorem Runs.coldStoreHeld {v} (h : Runs w s0 s) : Runs w s0 (coldStoreHeld v s) := by
  unfold Machine.coldStoreHeld; simp (maxDischargeDepth := 40) [h]
@[simp] theorem Runs.pcmBand {b} (h : Runs w s0 s) : Runs w s0 (pcmBand b s) := by
  unfold Machine.pcmBand; simp (maxDischargeDepth := 40) [h]
@[simp] theorem Runs.chillerTrip  (h : Runs w s0 s) : Runs w s0 (chillerTrip  s) := by
  unfold Machine.chillerTrip
  split <;> simp (maxDischargeDepth := 40) [h]
@[simp] theorem Runs.chillerHeldIdle  (h : Runs w s0 s) : Runs w s0 (chillerHeldIdle  s) := by
  unfold Machine.chillerHeldIdle
  split <;> simp (maxDischargeDepth := 40) [h]
@[simp] theorem Runs.emptyWaitList  (h : Runs w s0 s) : Runs w s0 (emptyWaitList  s) := by
  unfold Machine.emptyWaitList
  refine h.waits (by simp) fun _ => ⟨by simp [modPcm_pcm], fun i => ?_⟩
  simp only [modPcm_pcm, State.reservation, sel, Vector.getElem_map, List.not_mem_nil, false_iff]
  split <;> simp_all [Reservation.empty]
@[simp] theorem Runs.endEarly {i r} (h : Runs w s0 s) : Runs w s0 (endEarly i r s) := by
  unfold Machine.endEarly; simp (maxDischargeDepth := 40) [h]
@[simp] theorem Runs.endFill {i r} (h : Runs w s0 s) : Runs w s0 (endFill i r s) := by
  unfold Machine.endFill
  split <;> simp (maxDischargeDepth := 40) [h]
@[simp] theorem Runs.nozzleHeld {i v} (h : Runs w s0 s) : Runs w s0 (nozzleHeld i v s) := by
  unfold Machine.nozzleHeld; simp (maxDischargeDepth := 40) [h]

/-! ### Fills across blocks -/

@[simp] theorem Runs.startFill {i} (h : Runs w s0 s) : Runs w s0 (startFill i s) := by
  unfold Machine.startFill; simp (maxDischargeDepth := 40) [h, Fps.started]
@[simp] theorem Runs.tryStart {i} (h : Runs w s0 s) : Runs w s0 (tryStart i s) := by
  unfold Machine.tryStart; simp (maxDischargeDepth := 40) [h]
@[simp] theorem Runs.formEstimate {i} (h : Runs w s0 s) : Runs w s0 (formEstimate i s) := by
  unfold Machine.formEstimate; dsimp only
  split <;> simp (maxDischargeDepth := 40) [h]
@[simp] theorem Runs.leaveLinkWait {i} (h : Runs w s0 s) : Runs w s0 (leaveLinkWait i s) := by
  unfold Machine.leaveLinkWait; simp (maxDischargeDepth := 40) [h]
@[simp] theorem Runs.leaveIfFree {i} (h : Runs w s0 s) : Runs w s0 (leaveIfFree i s) := by
  unfold Machine.leaveIfFree; simp (maxDischargeDepth := 40) [h]
@[simp] theorem Runs.holdsChanged {i b} (h : Runs w s0 s) : Runs w s0 (holdsChanged i b s) := by
  unfold Machine.holdsChanged; dsimp only
  split <;> simp (maxDischargeDepth := 40) [h]
@[simp] theorem Runs.syncHold {i} (h : Runs w s0 s) : Runs w s0 (syncHold i s) := by
  unfold Machine.syncHold; simp (maxDischargeDepth := 40) [h]
@[simp] theorem Runs.takeSoc {i d} (h : Runs w s0 s) : Runs w s0 (takeSoc i d s) := by
  unfold Machine.takeSoc; simp (maxDischargeDepth := 40) [h]
@[simp] theorem Runs.vehicleAct {i c} (h : Runs w s0 s) : Runs w s0 (vehicleAct i c s) := by
  unfold Machine.vehicleAct; dsimp only
  split <;> simp (maxDischargeDepth := 40) [h]
@[simp] theorem Runs.linkUpReport {i v c d} (h : Runs w s0 s) : Runs w s0 (linkUpReport i v c d s) := by
  unfold Machine.linkUpReport; dsimp only
  split
  · split
    · simp (maxDischargeDepth := 40) [h]
    · split <;> simp (maxDischargeDepth := 40) [h]
  · exact h
@[simp] theorem Runs.frameReport {i d} (h : Runs w s0 s) : Runs w s0 (frameReport i d s) := by
  unfold Machine.frameReport; dsimp only
  split
  · split <;> (try split) <;> simp (maxDischargeDepth := 40) [h]
  · exact h
@[simp] theorem Runs.switchMode {i b} (h : Runs w s0 s) : Runs w s0 (switchMode i b s) := by
  unfold Machine.switchMode; simp (maxDischargeDepth := 40) [h]
@[simp] theorem Runs.frameInUp {i d} (h : Runs w s0 s) : Runs w s0 (frameInUp i d s) := by
  unfold Machine.frameInUp; simp (maxDischargeDepth := 40) [h]
@[simp] theorem Runs.takeFrame {i d} (h : Runs w s0 s) : Runs w s0 (takeFrame i d s) := by
  unfold Machine.takeFrame
  split <;> simp (maxDischargeDepth := 40) [h]
@[simp] theorem Runs.swap {i p} (h : Runs w s0 s) : Runs w s0 (swap i p s) := by
  unfold Machine.swap; simp (maxDischargeDepth := 40) [h]
@[simp] theorem Runs.boundary {i} (h : Runs w s0 s) : Runs w s0 (boundary i s) := by
  unfold Machine.boundary; dsimp only
  split <;> simp (maxDischargeDepth := 40) [h]
@[simp] theorem Runs.windUp {i r b} (h : Runs w s0 s) : Runs w s0 (windUp i r b s) := by
  unfold Machine.windUp
  split <;> simp (maxDischargeDepth := 40) [h]
theorem toIdle_entry (f : Fps) : f.toIdle.entry = f.entry ∧ f.toIdle.loaded = f.loaded := ⟨rfl, rfl⟩

@[simp] theorem Runs.resetFp {i} (h : Runs w s0 s) : Runs w s0 (resetFp i s) := by
  unfold Machine.resetFp; simp (maxDischargeDepth := 40) [h, toIdle_entry]
@[simp] theorem Runs.softResetFp {i} (h : Runs w s0 s) : Runs w s0 (softResetFp i s) := by
  unfold Machine.softResetFp; simp (maxDischargeDepth := 40) [h, toIdle_entry]
@[simp] theorem Runs.shutdownFp {i} (h : Runs w s0 s) : Runs w s0 (shutdownFp i s) := by
  unfold Machine.shutdownFp
  split <;> simp (maxDischargeDepth := 40) [h]
@[simp] theorem Runs.powerdownFp {i} (h : Runs w s0 s) : Runs w s0 (powerdownFp i s) := by
  unfold Machine.powerdownFp
  split <;> simp (maxDischargeDepth := 40) [h]

/-! ### Compressor sequencers -/

@[simp] theorem Runs.setTarget {k b} (h : Runs w s0 s) : Runs w s0 (setTarget k b s) := by
  unfold Machine.setTarget; dsimp only
  split
  · exact h
  · exact Runs.inbox (h.modComp fun _ => ⟨rfl, rfl⟩)
@[simp] theorem Runs.enterStarting {k b} (h : Runs w s0 s) : Runs w s0 (enterStarting k b s) := by
  unfold Machine.enterStarting; simp (maxDischargeDepth := 40) [h]
@[simp] theorem Runs.evalNeed {k} (h : Runs w s0 s) : Runs w s0 (evalNeed k s) := by
  unfold Machine.evalNeed
  split <;> simp (maxDischargeDepth := 40) [h]
@[simp] theorem Runs.evalPermission {k} (h : Runs w s0 s) : Runs w s0 (evalPermission k s) := by
  unfold Machine.evalPermission
  split <;> simp (maxDischargeDepth := 40) [h]
@[simp] theorem Runs.enterOff {k} (h : Runs w s0 s) : Runs w s0 (enterOff k s) := by
  unfold Machine.enterOff; simp (maxDischargeDepth := 40) [h, Compressor.timersOff]
@[simp] theorem Runs.enterDisabled {k} (h : Runs w s0 s) : Runs w s0 (enterDisabled k s) := by
  unfold Machine.enterDisabled; simp (maxDischargeDepth := 40) [h, Compressor.timersOff]
@[simp] theorem Runs.letGoOfTarget {k b} (h : Runs w s0 s) : Runs w s0 (letGoOfTarget k b s) := by
  unfold Machine.letGoOfTarget
  split <;> simp (maxDischargeDepth := 40) [h]
@[simp] theorem Runs.enterStopping {k} (h : Runs w s0 s) : Runs w s0 (enterStopping k s) := by
  unfold Machine.enterStopping; simp (maxDischargeDepth := 40) [h]
@[simp] theorem Runs.enterTripped {k c} (h : Runs w s0 s) : Runs w s0 (enterTripped k c s) := by
  unfold Machine.enterTripped; simp (maxDischargeDepth := 40) [h, Compressor.timersOff]
@[simp] theorem Runs.tripIfRunning {k c} (h : Runs w s0 s) : Runs w s0 (tripIfRunning k c s) := by
  unfold Machine.tripIfRunning; simp (maxDischargeDepth := 40) [h]
@[simp] theorem Runs.tripInput {k} (h : Runs w s0 s) : Runs w s0 (tripInput k s) := by
  unfold Machine.tripInput
  split <;> simp (maxDischargeDepth := 40) [h]
@[simp] theorem Runs.becomeIdle {k} (h : Runs w s0 s) : Runs w s0 (becomeIdle k s) := by
  unfold Machine.becomeIdle; simp (maxDischargeDepth := 40) [h]
@[simp] theorem Runs.requestTarget {n k b} (h : Runs w s0 s) : Runs w s0 (requestTarget n k b s) := by
  induction n generalizing s b with
  | zero => exact h.becomeIdle
  | succ n ih =>
    unfold Machine.requestTarget; dsimp only
    split
    · simp (maxDischargeDepth := 40) [h]
    · simp (maxDischargeDepth := 40) [h]
    · split
      · exact ih (by simp (maxDischargeDepth := 40) [h])
      · simp (maxDischargeDepth := 40) [h]
@[simp] theorem Runs.seek {k e} (h : Runs w s0 s) : Runs w s0 (seek k e s) := by
  unfold Machine.seek
  split <;> simp (maxDischargeDepth := 40) [h]
@[simp] theorem Runs.seekIdle {k} (h : Runs w s0 s) : Runs w s0 (seekIdle k s) := by
  unfold Machine.seekIdle
  split <;> simp (maxDischargeDepth := 40) [h]
@[simp] theorem Runs.endFilling {k b} (h : Runs w s0 s) : Runs w s0 (endFilling k b s) := by
  unfold Machine.endFilling; simp (maxDischargeDepth := 40) [h]
@[simp] theorem Runs.refillOff {k b} (h : Runs w s0 s) : Runs w s0 (refillOff k b s) := by
  unfold Machine.refillOff; simp (maxDischargeDepth := 40) [h]
@[simp] theorem Runs.csBankSample {k b} (h : Runs w s0 s) : Runs w s0 (csBankSample k b s) := by
  unfold Machine.csBankSample; simp (maxDischargeDepth := 40) [h]
@[simp] theorem Runs.csWithdrawn {k b} (h : Runs w s0 s) : Runs w s0 (csWithdrawn k b s) := by
  unfold Machine.csWithdrawn; simp (maxDischargeDepth := 40) [h]
@[simp] theorem Runs.csRejected {k b} (h : Runs w s0 s) : Runs w s0 (csRejected k b s) := by
  unfold Machine.csRejected; simp (maxDischargeDepth := 40) [h]
@[simp] theorem Runs.recheckStarting {k} (h : Runs w s0 s) : Runs w s0 (recheckStarting k s) := by
  unfold Machine.recheckStarting
  split <;> simp (maxDischargeDepth := 40) [h]
@[simp] theorem Runs.recheckRecirc {k} (h : Runs w s0 s) : Runs w s0 (recheckRecirc k s) := by
  unfold Machine.recheckRecirc
  split <;> simp (maxDischargeDepth := 40) [h]
@[simp] theorem Runs.csNotice {k} (h : Runs w s0 s) : Runs w s0 (csNotice k s) := by
  unfold Machine.csNotice
  split <;> simp (maxDischargeDepth := 40) [h]
@[simp] theorem Runs.settleFor {n} (h : Runs w s0 s) : Runs w s0 (settleFor n s) := by
  induction n generalizing s with
  | zero => exact h
  | succ n ih =>
    unfold Machine.settleFor; dsimp only
    split
    · exact h
    · exact ih h.inbox.csNotice
    · exact ih (Runs.csNotice (Runs.inbox h.order))
@[simp] theorem Runs.settle  (h : Runs w s0 s) : Runs w s0 (settle  s) := by
  unfold Machine.settle; simp (maxDischargeDepth := 40) [h]
@[simp] theorem Runs.tellRefill  (h : Runs w s0 s) : Runs w s0 (tellRefill  s) := h.inbox
@[simp] theorem Runs.supplySample {v k} (h : Runs w s0 s) : Runs w s0 (supplySample v k s) := by
  unfold Machine.supplySample; simp (maxDischargeDepth := 40) [h]
@[simp] theorem Runs.supplyHeld {v k} (h : Runs w s0 s) : Runs w s0 (supplyHeld v k s) := by
  unfold Machine.supplyHeld; simp (maxDischargeDepth := 40) [h]
@[simp] theorem Runs.dischargeSample {v k} (h : Runs w s0 s) : Runs w s0 (dischargeSample v k s) := by
  unfold Machine.dischargeSample; simp (maxDischargeDepth := 40) [h]
@[simp] theorem Runs.dischargeHeld {v k} (h : Runs w s0 s) : Runs w s0 (dischargeHeld v k s) := by
  unfold Machine.dischargeHeld; simp (maxDischargeDepth := 40) [h]
@[simp] theorem Runs.deferredToOff {k} (h : Runs w s0 s) : Runs w s0 (deferredToOff k s) := by
  unfold Machine.deferredToOff; simp (maxDischargeDepth := 40) [h]
@[simp] theorem Runs.csShutdown {k} (h : Runs w s0 s) : Runs w s0 (csShutdown k s) := by
  unfold Machine.csShutdown
  split <;> simp (maxDischargeDepth := 40) [h]
@[simp] theorem Runs.csDecommission {k} (h : Runs w s0 s) : Runs w s0 (csDecommission k s) := by
  unfold Machine.csDecommission
  split <;> simp (maxDischargeDepth := 40) [h]
@[simp] theorem Runs.csSoftReset {k} (h : Runs w s0 s) : Runs w s0 (csSoftReset k s) := by
  unfold Machine.csSoftReset; dsimp only
  split <;> simp (maxDischargeDepth := 40) [h]

/-! ### Storage Manager -/

@[simp] theorem Runs.tellWithdrawn {r b} (h : Runs w s0 s) : Runs w s0 (tellWithdrawn r b s) := by
  unfold Machine.tellWithdrawn
  split <;> simp (maxDischargeDepth := 40) [h]
@[simp] theorem Runs.tellRejected {b r} (h : Runs w s0 s) : Runs w s0 (tellRejected b r s) := by
  unfold Machine.tellRejected
  split <;> simp (maxDischargeDepth := 40) [h]
@[simp] theorem Runs.withdrawGrant {b} (h : Runs w s0 s) : Runs w s0 (withdrawGrant b s) := by
  unfold Machine.withdrawGrant
  split <;> simp (maxDischargeDepth := 40) [h]
@[simp] theorem Runs.rejectStacked {b p} (h : Runs w s0 s) : Runs w s0 (rejectStacked b p s) := by
  unfold Machine.rejectStacked
  refine Runs.inAnyOrder (fun f hf u hu => ?_) (h.fewer List.filter_sublist)
  obtain ⟨r, -, rfl⟩ := List.mem_map.mp hf
  exact hu.tellRejected
@[simp] theorem Runs.forceOff {b l p} (h : Runs w s0 s) : Runs w s0 (forceOff b l p s) := by
  unfold Machine.forceOff; simp (maxDischargeDepth := 40) [h]
@[simp] theorem Runs.setRefill {l} (h : Runs w s0 s) : Runs w s0 (setRefill l s) := by
  unfold Machine.setRefill; simp (maxDischargeDepth := 40) [h]
@[simp] theorem Runs.refillEval {b} (h : Runs w s0 s) : Runs w s0 (refillEval b s) := by
  unfold Machine.refillEval; dsimp only
  split
  · simp (maxDischargeDepth := 40) [h]
  · split <;> simp (maxDischargeDepth := 40) [h]
@[simp] theorem Runs.takeSensor {b} (h : Runs w s0 s) : Runs w s0 (takeSensor b s) := by
  unfold Machine.takeSensor; simp (maxDischargeDepth := 40) [h]
@[simp] theorem Runs.sensorIfNew {b u} (h : Runs w s0 s) : Runs w s0 (sensorIfNew b u s) := by
  unfold Machine.sensorIfNew; simp (maxDischargeDepth := 40) [h]
@[simp] theorem Runs.postFault {b u} (h : Runs w s0 s) : Runs w s0 (postFault b u s) := by
  unfold Machine.postFault; simp (maxDischargeDepth := 40) [h]
@[simp] theorem Runs.recomputeInventory {b} (h : Runs true s0 s) : Runs true s0 (recomputeInventory b s) := by
  unfold Machine.recomputeInventory; simp (maxDischargeDepth := 40) [h]
@[simp] theorem Runs.afterDelivery {b u} (h : Runs true s0 s) : Runs true s0 (afterDelivery b u s) := by
  unfold Machine.afterDelivery; simp (maxDischargeDepth := 40) [h]
@[simp] theorem Runs.bankPressureHeld {b v} (h : Runs true s0 s) : Runs true s0 (bankPressureHeld b v s) := by
  unfold Machine.bankPressureHeld; simp (maxDischargeDepth := 40) [h]
@[simp] theorem Runs.bankTemperatureHeld {b v} (h : Runs true s0 s) : Runs true s0 (bankTemperatureHeld b v s) := by
  unfold Machine.bankTemperatureHeld; simp (maxDischargeDepth := 40) [h]
@[simp] theorem Runs.protectionTrip {b} (h : Runs true s0 s) : Runs true s0 (protectionTrip b s) := by
  unfold Machine.protectionTrip; simp (maxDischargeDepth := 40) [h]
@[simp] theorem Runs.passSample {b} (h : Runs w s0 s) : Runs w s0 (passSample b s) := by
  unfold Machine.passSample
  split <;> (try split) <;> simp (maxDischargeDepth := 40) [h]
@[simp] theorem Runs.bankPressureSample {b v} (h : Runs true s0 s) : Runs true s0 (bankPressureSample b v s) := by
  unfold Machine.bankPressureSample; simp (maxDischargeDepth := 40) [h]
@[simp] theorem Runs.bankTemperatureSample {b v} (h : Runs true s0 s) : Runs true s0 (bankTemperatureSample b v s) := by
  unfold Machine.bankTemperatureSample; simp (maxDischargeDepth := 40) [h]
@[simp] theorem Runs.clearBankFault {b} (h : Runs true s0 s) : Runs true s0 (clearBankFault b s) := by
  unfold Machine.clearBankFault; simp (maxDischargeDepth := 40) [h]

/-! ### What a delivery does at its consumers (R6) -/

@[simp] theorem Runs.deliver {bd v} (h : Runs true s0 s) : Runs true s0 (deliver bd v s) := by
  cases bd <;> try (simp [Machine.deliver, h]; done)
  · exact Runs.pcmBand (h.fold fun i u hu => hu.fpsBand)
  · exact Runs.inAnyOrder (fun f hf u hu => by simp [allComps] at hf; rcases hf with rfl | rfl <;> simp [hu]) h

@[simp] theorem Runs.tellHeld {bd v} (h : Runs true s0 s) : Runs true s0 (tellHeld bd v s) := by
  cases bd <;> try (simp [Machine.tellHeld, h]; done)
  · exact Runs.pcmBand (h.fold fun i u hu => hu.fpsBand)
  · exact Runs.inAnyOrder (fun f hf u hu => by simp [allComps] at hf; rcases hf with rfl | rfl <;> simp [hu]) h

end Sys2Proof.Machine
end

