-- ==== Sys2Proof/Laws/Bytes.lean ====
section
/-!
SUPPORT. Numbers in and out of the bytes of a request (R205): what stands at the head of a body, what stands behind it, and how
long each field is.
-/
namespace Sys2Proof.Machine

theorem u8_eq (x : Nat) : u8 x = [BitVec.ofNat 8 x] := by simp [u8, be]
theorem u16_eq (x : Nat) : u16 x = [BitVec.ofNat 8 (x / 256), BitVec.ofNat 8 x] := by simp [u16, be]
theorem u32_eq (x : Nat) :
    u32 x = [BitVec.ofNat 8 (x / 16777216), BitVec.ofNat 8 (x / 65536), BitVec.ofNat 8 (x / 256), BitVec.ofNat 8 x] := by
  simp [u32, be]

@[simp] theorem length_u8 (x : Nat) : (u8 x).length = 1 := by rw [u8_eq]; rfl
@[simp] theorem length_u16 (x : Nat) : (u16 x).length = 2 := by rw [u16_eq]; rfl
@[simp] theorem length_u32 (x : Nat) : (u32 x).length = 4 := by rw [u32_eq]; rfl

theorem fits1 (x : Nat) : fitsBytes 1 x = true ↔ x < 256 := by simp [fitsBytes]
theorem fits2 (x : Nat) : fitsBytes 2 x = true ↔ x < 65536 := by simp [fitsBytes]
theorem fits4 (x : Nat) : fitsBytes 4 x = true ↔ x < 4294967296 := by simp [fitsBytes]

/-- The field at the head of a body. -/
theorem num_u8 {x : Nat} (r : List Byte) (h : x < 256) : num (u8 x ++ r) 0 1 = x := by
  rw [u8_eq]; simp [num]; omega
theorem num_u16 {x : Nat} (r : List Byte) (h : x < 65536) : num (u16 x ++ r) 0 2 = x := by
  rw [u16_eq]; simp [num]; omega
theorem num_u32 {x : Nat} (r : List Byte) (h : x < 4294967296) : num (u32 x ++ r) 0 4 = x := by
  rw [u32_eq]; simp [num]; omega
theorem num_u8_end {x : Nat} (h : x < 256) : num (u8 x) 0 1 = x := by simpa using num_u8 [] h
theorem num_u16_end {x : Nat} (h : x < 65536) : num (u16 x) 0 2 = x := by simpa using num_u16 [] h
theorem num_u32_end {x : Nat} (h : x < 4294967296) : num (u32 x) 0 4 = x := by simpa using num_u32 [] h

/-- A field behind another one. -/
theorem num_behind (l r : List Byte) (k n : Nat) : num (l ++ r) (l.length + k) n = num r k n := by
  simp [num]
theorem num_behind_u8 (x : Nat) (r : List Byte) (k n : Nat) : num (u8 x ++ r) (k + 1) n = num r k n := by
  rw [← num_behind (u8 x) r k n, length_u8, Nat.add_comm]
theorem num_behind_u16 (x : Nat) (r : List Byte) (k n : Nat) : num (u16 x ++ r) (k + 2) n = num r k n := by
  rw [← num_behind (u16 x) r k n, length_u16, Nat.add_comm]
theorem num_behind_u32 (x : Nat) (r : List Byte) (k n : Nat) : num (u32 x ++ r) (k + 4) n = num r k n := by
  rw [← num_behind (u32 x) r k n, length_u32, Nat.add_comm]

/-! ### Lists of members: the cascade list, a density row, the pairs of a valve map -/

theorem length_cascadeBytes (l : List Nat) : (cascadeBytes l).length = 9 := by
  simp [cascadeBytes]

theorem num_behind_cascade (l : List Nat) (r : List Byte) (k n : Nat) : num (cascadeBytes l ++ r) (k + 9) n = num r k n := by
  rw [← num_behind (cascadeBytes l) r k n, length_cascadeBytes, Nat.add_comm]

theorem cascadeBody_cascadeBytes (l : List Nat) (h8 : l.length ≤ 8) (h : l.all (fitsBytes 1) = true) (r : List Byte) : cascadeBody (cascadeBytes l ++ r) 0 = l := by
  have en : num (cascadeBytes l ++ r) 0 1 = l.length := by
    unfold cascadeBytes; rw [List.append_assoc, num_u8 _ (by omega)]
  have e8 : ((cascadeBytes l ++ r).drop 1).take 8 = (l.map (BitVec.ofNat 8) ++ List.replicate 8 0#8).take 8 := by
    unfold cascadeBytes; rw [u8_eq]; simp
  have z : l.length - 8 = 0 := by omega
  simp only [cascadeBody, en, Nat.zero_add, e8, z, List.replicate_zero, List.append_nil, ← List.map_take, List.take_take, Nat.min_eq_left h8]
  rw [List.take_append_of_le_length (by simp)]
  rw [List.take_of_length_le (by simp), List.map_map]
  conv => rhs; rw [← List.map_id l]
  apply List.map_congr_left
  intro x hx
  have := (fits1 x).mp (List.all_eq_true.mp h x hx)
  simp; omega

theorem cascadeBody_behind_u8 (x : Nat) (r : List Byte) (k : Nat) : cascadeBody (u8 x ++ r) (k+1) = cascadeBody r k := by
  simp only [cascadeBody, num_behind_u8]; rw [u8_eq]; simp

theorem num_of_u8 (b : List Byte) (k : Nat) (x : Nat) (hx : x < 256) (h : (b.drop k).take 1 = u8 x) : num b k 1 = x := by
  simp only [num, h, u8_eq]; simp; omega

theorem num_of_u16 (b : List Byte) (k : Nat) (x : Nat) (hx : x < 65536) (h : (b.drop k).take 2 = u16 x) : num b k 2 = x := by
  simp only [num, h, u16_eq]; simp; omega

theorem num_of_u32 (b : List Byte) (k : Nat) (x : Nat) (hx : x < 4294967296) (h : (b.drop k).take 4 = u32 x) : num b k 4 = x := by
  simp only [num, h, u32_eq]; simp; omega

theorem length_row (l : List Nat) : (l.flatMap u16).length = 2 * l.length := by
  induction l with
  | nil => rfl
  | cons a l ih => simp [u16_eq, ih]; omega

theorem take_row (l : List Nat) (i : Nat) (h : i < l.length) : (((l.flatMap u16).drop (2*i)).take 2) = u16 l[i] := by
  induction l generalizing i with
  | nil => simp at h
  | cons a l ih =>
    cases i with
    | zero => simp [u16_eq]
    | succ i =>
      have : 2 * (i+1) = 2 + 2 * i := by omega
      rw [this, ← List.drop_drop]
      simp only [List.flatMap_cons, u16_eq a]
      simpa using ih i (by simpa using h)

theorem row_of_bytes (l : List Nat) (n : Nat) (hn : l.length = n) (h : l.all (fitsBytes 2) = true) : (List.range n).map (fun i => num (l.flatMap u16) (2*i) 2) = l := by
  apply List.ext_getElem
  · simp [hn]
  · intro i h1 h2
    simp only [List.getElem_map, List.getElem_range]
    exact num_of_u16 _ _ _ ((fits2 _).mp (List.all_eq_true.mp h _ (List.getElem_mem h2))) (take_row l i h2)

theorem take_pairs (l : List (Nat × Nat)) (i : Nat) (h : i < l.length) : (((l.flatMap (fun p => u8 p.1 ++ u8 p.2)).drop (2*i)).take 2) = u8 l[i].1 ++ u8 l[i].2 := by
  induction l generalizing i with
  | nil => simp at h
  | cons a l ih =>
    cases i with
    | zero => simp [u8_eq]
    | succ i =>
      have : 2 * (i+1) = 2 + 2 * i := by omega
      rw [this, ← List.drop_drop]
      simp only [List.flatMap_cons, u8_eq a.1, u8_eq a.2]
      simpa using ih i (by simpa using h)

theorem length_pairs (l : List (Nat × Nat)) : (l.flatMap (fun p => u8 p.1 ++ u8 p.2)).length = 2 * l.length := by
  induction l with
  | nil => rfl
  | cons a l ih => simp [u8_eq]; omega

theorem pairsBody_of_bytes (l : List (Nat × Nat)) (h : l.all (fun p => fitsBytes 1 p.1 && fitsBytes 1 p.2) = true) :
    pairsBody (u8 l.length ++ l.flatMap (fun p => u8 p.1 ++ u8 p.2)) l.length = l := by
  unfold pairsBody
  apply List.ext_getElem
  · simp
  · intro i h1 h2
    simp only [List.getElem_map, List.getElem_range]
    have hm := List.all_eq_true.mp h _ (List.getElem_mem h2)
    simp only [fits1, Bool.and_eq_true] at hm
    have d := take_pairs l i h2
    refine Prod.ext (num_of_u8 _ _ _ hm.1 ?_) (num_of_u8 _ _ _ hm.2 ?_)
    · have : ∀ X : List Byte, ((u8 l.length ++ X).drop (1 + 2*i)).take 1 = ((X.drop (2*i)).take 2).take 1 := by
        intro X; rw [← List.drop_drop, List.take_take]; simp [u8_eq]
      rw [this, d]; simp [u8_eq]
    · have : ∀ X : List Byte, ((u8 l.length ++ X).drop (2 + 2*i)).take 1 = ((X.drop (2*i)).take 2).drop 1 := by
        intro X
        have : 2 + 2 * i = 1 + (1 + 2*i) := by omega
        rw [this, ← List.drop_drop]; simp [u8_eq, List.drop_take, Nat.add_comm]
      rw [this, d]; simp [u8_eq]

end Sys2Proof.Machine
end

