-- ==== Sys2Proof/Laws/SiteRuns.lean ====
section
/-!
SUPPORT. The site's entries and the line events: each sets the site record and the line modes, and from there on is a run of
the blocks.
-/
namespace Sys2Proof.Machine

variable {w : Bool} {s0 s t : State}

/-! ### The site record and the line modes -/

@[simp] theorem setSite_site (st op c) (s : State) :
    (setSite st op c s).site = { s.site with state := st, forecourtOpen := op, cause := c } := by
  unfold setSite postIf; split <;> rfl
@[simp] theorem setSite_lineModes (st op c) (s : State) : (setSite st op c s).lineModes = s.lineModes := by
  unfold setSite postIf; split <;> rfl
@[simp] theorem closeForced_site (s : State) : (closeForced s).site = s.site := by unfold closeForced; split <;> rfl

/-- After an exit no line stands in FORCE_OPEN where none stood outside MAINTENANCE before (R18). -/
theorem closeForced_forced (s : State) (h : ∀ o, sel s.lineModes o = .forceOpen → s.site.state = .maintenance) (o : Fin 64) :
    sel (closeForced s).lineModes o ≠ .forceOpen := by
  unfold closeForced
  split
  · simp only [sel, Vector.getElem_map]; split <;> simp_all
  · next ne => exact fun e => ne (h o e)

/-! ### Entries (R192 to R195): what follows the record is a run -/

@[simp] theorem Runs.haltBlocks (h : Runs w s0 s) : Runs w s0 (haltBlocks s) := by
  unfold Machine.haltBlocks
  exact Runs.fold (fun _ _ hu => hu.cancelAuthorization) h.emptyArbiter.emptyWaitList.chillerHeldIdle

@[simp] theorem Runs.haltCompressors (h : Runs w s0 s) : Runs w s0 (haltCompressors s) := by
  unfold Machine.haltCompressors
  refine Runs.inAnyOrder (fun f hf u hu => ?_) h
  obtain ⟨k, -, rfl⟩ := List.mem_map.mp hf
  exact hu.csShutdown

theorem enterShutdown_runs (c : ShutCause) (s : State) :
    Runs w (setSite .shutdown false c (closeForced s)) (enterShutdown c s) := by
  unfold enterShutdown
  refine Runs.haltCompressors (Runs.inAnyOrder (fun f hf u hu => ?_) (Runs.haltBlocks (Runs.refl _)))
  obtain ⟨i, -, rfl⟩ := List.mem_map.mp hf
  exact hu.shutdownFp

theorem enterPowerdown_runs (s : State) :
    Runs w (setSite .powerdown false s.site.cause (closeForced s)) (enterPowerdown s) := by
  unfold enterPowerdown
  refine Runs.haltCompressors (Runs.inAnyOrder (fun f hf u hu => ?_) (Runs.haltBlocks (Runs.refl _)))
  rcases List.mem_cons.mp hf with rfl | hf
  · exact hu.markChange
  · obtain ⟨i, -, rfl⟩ := List.mem_map.mp hf
    exact hu.powerdownFp

theorem enterOperating_runs (s : State) : Runs w (setSite .operating false .noCause (closeForced s)) (enterOperating s) := by
  unfold enterOperating
  refine Runs.evalChiller (Runs.inAnyOrder (fun f hf u hu => ?_) (Runs.refl _))
  obtain ⟨k, -, rfl⟩ := List.mem_map.mp hf
  exact hu.evalPermission

theorem enterUnconfigured_runs (s : State) :
    Runs w (setSite .unconfigured false .noCause (closeForced s)) (enterUnconfigured s) := by
  unfold enterUnconfigured
  refine Runs.inAnyOrder (fun f hf u hu => ?_) (Runs.chillerHeldIdle (Runs.refl _))
  obtain ⟨k, -, rfl⟩ := List.mem_map.mp hf
  exact hu.csDecommission

/-- The landing choice is an entry into the state it names (R188). -/
theorem land_enters (s : State) : Runs w (setSite s.landing.1 false s.landing.2 (closeForced s)) (land s) := by
  have m : s.landing.1 ≠ .maintenance := by
    unfold State.landing; split <;> [skip; split <;> [skip; split]] <;> simp
  unfold land
  split
  · next c e =>
    have : c = .noCause := by
      unfold State.landing at e
      split at e <;> [skip; split at e <;> [skip; split at e]] <;> simp_all
    subst this; rw [e]; exact enterUnconfigured_runs s
  · next c e =>
    have : c = .noCause := by
      unfold State.landing at e
      split at e <;> [skip; split at e <;> [skip; split at e]] <;> simp_all
    subst this; rw [e]; exact enterOperating_runs s
  · next c e => rw [e]; exact enterShutdown_runs c s
  · next c e =>
    have : c = s.site.cause := by
      unfold State.landing at e
      split at e <;> [skip; split at e <;> [skip; split at e]] <;> simp_all
    subst this; rw [e]; exact enterPowerdown_runs s
  · next c e => exact absurd (by rw [e]) m

/-! ### The restart of the blocks at SOFT_RESET (R195) -/

theorem Runs.cancelAll (h : Runs w s0 s) : Runs w s0 (allFps.foldl (fun s i => Machine.cancelAuthorization i s) s) :=
  Runs.fold (fun _ _ hu => hu.cancelAuthorization) h

theorem Runs.softResetFps (h : Runs w s0 s) : Runs w s0 (Machine.inAnyOrder (allFps.map Machine.softResetFp) s) := by
  refine Runs.inAnyOrder (fun f hf u hu => ?_) h
  obtain ⟨i, -, rfl⟩ := List.mem_map.mp hf
  exact hu.softResetFp

theorem Runs.csSoftResets (h : Runs w s0 s) : Runs w s0 (Machine.inAnyOrder (allComps.map Machine.csSoftReset) s) := by
  refine Runs.inAnyOrder (fun f hf u hu => ?_) h
  obtain ⟨k, -, rfl⟩ := List.mem_map.mp hf
  exact hu.csSoftReset

theorem Runs.pcmSoftReset (h : Runs w s0 s) : Runs w s0 (pcmSoftReset s) := by
  unfold Machine.pcmSoftReset
  refine Runs.chillerHeldIdle (h.waits (by simp) fun _ => ⟨by simp [modPcm_pcm], fun i => ?_⟩)
  simp [modPcm_pcm, State.reservation, Reservation.empty]

end Sys2Proof.Machine
end

