-- ==== Sys2Proof/Laws/Events.lean ====
section
/-!
SUPPORT. The events that may move the site (R12, R192 to R194): a run of the blocks with, in it, entries into other site states.
What such an event leaves alone, and that it keeps the invariants, the site record's among them (R17, R18, R186, R198).
-/
namespace Sys2Proof.Machine

variable {w : Bool} {s0 s t : State}

/-- The fixed part with the site state, the forecourt, the cause and the line modes blanked. -/
def Fixed.unsited (f : Fixed) : Fixed :=
  { f with lineModes := Vector.replicate 64 .auto
           site := { f.site with state := .unconfigured, forecourtOpen := false, cause := .noCause } }

/-- The state `t` is reached from `s` by the blocks' running and by entries into site states. -/
structure Event (w : Bool) (s t : State) : Prop where
  rest : t.fixed.unsited = s.fixed.unsited
  arb : s.ArbiterOk → t.ArbiterOk
  queue : s.QueueOk → t.QueueOk
  sums : s.SumsOk → t.SumsOk
  banks : w = false → t.banks = s.banks
  site : s.SiteOk → t.SiteOk
  wait : s.WaitOk → t.WaitOk

theorem Event.refl (s : State) : Event w s s := ⟨rfl, id, id, id, fun _ => rfl, id, id⟩

theorem Event.trans {u : State} (h : Event w s t) (k : Event w t u) : Event w s u :=
  ⟨k.rest.trans h.rest, k.arb ∘ h.arb, k.queue ∘ h.queue, k.sums ∘ h.sums, fun e => (k.banks e).trans (h.banks e),
    k.site ∘ h.site, k.wait ∘ h.wait⟩

/-- The site's invariant reads the site record and the line modes only. -/
theorem siteOk_of (h : s.SiteOk) (e : t.site = s.site) (m : t.lineModes = s.lineModes) : t.SiteOk := by
  obtain ⟨a, b, c, d, f, g⟩ := h
  exact ⟨by rwa [e], by rwa [e], by rwa [e], by rwa [e], by rwa [e, m], by rwa [e]⟩

theorem Runs.site (h : Runs w s t) : t.site = s.site := congrArg Fixed.site h.fixed
theorem Runs.lineModes (h : Runs w s t) : t.lineModes = s.lineModes := congrArg Fixed.lineModes h.fixed

/-- A run is an event. -/
theorem Runs.event (h : Runs w s t) : Event w s t :=
  ⟨by rw [h.fixed], h.arb, h.queue, h.sums, h.banks, fun k => siteOk_of k h.site h.lineModes, h.wait⟩

theorem Event.then {u : State} (h : Event w s t) (k : Runs w t u) : Event w s u := h.trans k.event

/-- The site takes a state it may take: the arbiter, the queue, the sums and the banks do not see it. -/
theorem event_setSite {st : SiteState} {op : Bool} {c : ShutCause}
    (k : s.SiteOk → (setSite st op c (closeForced s)).SiteOk) : Event w s (setSite st op c (closeForced s)) := by
  have q : (setSite st op c (closeForced s)).unanswered.cqr = s.cqr ∧ (setSite st op c (closeForced s)).holder = s.holder ∧
      (setSite st op c (closeForced s)).stacked = s.stacked ∧ (setSite st op c (closeForced s)).mtu = s.mtu ∧
      (setSite st op c (closeForced s)).banks = s.banks ∧ (setSite st op c (closeForced s)).pcm = s.pcm ∧
      (setSite st op c (closeForced s)).fixed.unsited = s.fixed.unsited := by
    unfold setSite postIf closeForced
    split <;> split <;> exact ⟨rfl, rfl, rfl, rfl, rfl, rfl, rfl⟩
  obtain ⟨h1, h2, h3, h4, h5, h7, h6⟩ := q
  refine ⟨h6, fun a => ?_, fun a => ?_, fun a => ?_, fun _ => h5, k, fun a => ?_⟩
  · have e1 : (setSite st op c (closeForced s)).holderOf = s.holderOf := funext fun i => by simp [State.holderOf, h2]
    have e2 : (setSite st op c (closeForced s)).stackedAt = s.stackedAt := funext fun i => by simp [State.stackedAt, h3]
    exact ⟨by rw [e1]; exact a.oneGrant, by rw [e1, e2]; exact a.noHolderWaits, by rw [e2]; exact a.oneSet,
      by rw [e2]; exact a.once⟩
  · unfold State.QueueOk at *; exact (show (setSite st op c (closeForced s)).cqr = s.cqr from h1) ▸ a
  · have e : (setSite st op c (closeForced s)).cqr = s.cqr := h1
    exact ⟨by have := a.txns; unfold State.meter at *; rw [h4]; exact this, by rw [e]; exact a.records⟩
  · exact ⟨by rw [h7]; exact a.once, fun i => by have := a.members i; unfold State.reservation at *; rw [h7]; exact this⟩

/-- An entry into a state that is no commissioned site's exception keeps the site's invariant. -/
theorem siteOk_enter {st : SiteState} {c : ShutCause} (h : s.SiteOk)
    (u : st = .unconfigured ↔ s.site.commissioned = false) (sd : st = .shutdown → c ≠ .noCause)
    (k : c ≠ .noCause → st = .shutdown ∨ st = .powerdown) : (setSite st false c (closeForced s)).SiteOk := by
  refine ⟨by simp, by simpa using u, by simpa using k, by simpa using sd, fun o e => ?_, by simpa using h.calendar⟩
  rw [setSite_lineModes] at e
  exact absurd e (closeForced_forced s h.forced o)

theorem event_shutdown {c : ShutCause} (hc : c ≠ .noCause) (hs : s.site.state = .operating ∨ s.site.state = .maintenance) :
    Event w s (enterShutdown c s) := by
  refine Event.then (event_setSite fun h => siteOk_enter h ?_ (fun _ => hc) fun _ => .inl rfl) (enterShutdown_runs c s)
  have := h.commissioned
  rcases hs with e | e <;> simp_all

theorem event_powerdown (hs : s.site.state ≠ .unconfigured) : Event w s (enterPowerdown s) := by
  refine Event.then (event_setSite fun h => siteOk_enter h ?_ (by simp) fun _ => .inr rfl) (enterPowerdown_runs s)
  have := h.commissioned
  simp_all

theorem event_operating (hs : s.site.state ≠ .unconfigured) : Event w s (enterOperating s) := by
  refine Event.then (event_setSite fun h => siteOk_enter h ?_ (by simp) (by simp)) (enterOperating_runs s)
  have := h.commissioned
  simp_all

theorem Event.shutdownEvent {c : ShutCause} (hc : c ≠ .noCause) (h : Event w s0 s) : Event w s0 (shutdownEvent c s) := by
  unfold Machine.shutdownEvent
  split
  · next e => exact h.trans (event_shutdown hc (.inl e))
  · next e => exact h.trans (event_shutdown hc (.inr e))
  all_goals exact h

theorem Event.powerFailEvent (h : Event w s0 s) : Event w s0 (powerFailEvent s) := by
  unfold Machine.powerFailEvent
  split <;> first | exact h | (next e => exact h.trans (event_powerdown (by simp [e])))

/-! ### Folds, orders, targets -/

theorem Event.takeAll {n : Nat} {fs : List (State → State)} (k : ∀ f ∈ fs, ∀ u, Event w s0 u → Event w s0 (f u))
    (h : Event w s0 s) : Event w s0 (takeAll n fs s) := by
  induction n generalizing fs s with
  | zero => exact h
  | succ n ih =>
    match fs with
    | [] => exact h
    | [f] => exact k f (by simp) _ h
    | f :: g :: rest =>
      unfold Machine.takeAll
      refine ih (fun x hx => k x (List.mem_of_mem_eraseIdx hx)) ?_
      have ho : Event w s0 (freeChoice (f :: g :: rest).length s).2 := h.then (Runs.order (Runs.refl s))
      cases e : (f :: g :: rest)[(freeChoice (f :: g :: rest).length s).1]? with
      | none => simpa [e] using ho
      | some x => simpa [e] using k x (List.mem_of_getElem? e) _ ho

theorem Event.fold {α : Type} {f : State → α → State} {l : List α} (k : ∀ a u, Event w s0 u → Event w s0 (f u a))
    (h : Event w s0 s) : Event w s0 (l.foldl f s) := by
  induction l generalizing s with
  | nil => exact h
  | cons a l ih => exact ih (k a _ h)

theorem Event.atFp {f : FpId → State → State} {n : Nat} (k : ∀ i u, Event w s0 u → Event w s0 (f i u)) (h : Event w s0 s) :
    Event w s0 (atFp n f s) := by
  unfold Machine.atFp; split
  · exact k _ _ h
  · exact h

theorem Event.atComp {f : CompId → State → State} {n : Nat} (k : ∀ i u, Event w s0 u → Event w s0 (f i u)) (h : Event w s0 s) :
    Event w s0 (atComp n f s) := by
  unfold Machine.atComp; split
  · exact k _ _ h
  · exact h

/-! ### Field events (1.2) -/

theorem Event.levelEvent {fn tg b old} (h : Event w s0 s) : Event w s0 (levelEvent fn tg b old s) := by
  unfold Machine.levelEvent
  split <;> (try split) <;> first
    | exact h
    | exact h.shutdownEvent (by simp)
    | exact h.powerFailEvent
    | exact h.then (Runs.chillerTrip (Runs.refl _))
    | exact h.atFp fun i u hu => hu.then (Runs.endFill (Runs.refl _))
    | exact h.atComp fun i u hu => hu.then (Runs.tripInput (Runs.refl _))
    | exact h.atComp fun i u hu => hu.then (Runs.evalPermission (Runs.refl _))
    | exact h.takeAll fun f hf u hu => by
        obtain ⟨k, -, rfl⟩ := List.mem_map.mp hf
        exact hu.then (Runs.holdsChanged (Runs.refl _))

theorem Event.edgeEvent {fn tg} (h : Event w s0 s) : Event w s0 (edgeEvent fn tg s) := by
  unfold Machine.edgeEvent
  split <;> first
    | exact h
    | exact h.shutdownEvent (by simp)
    | exact h.powerFailEvent
    | exact h.then (Runs.chillerTrip (Runs.refl _))
    | exact h.atFp fun i u hu => hu.then (Runs.tryStart (Runs.refl _))
    | exact h.atFp fun i u hu => hu.then (Runs.endFill (Runs.refl _))
    | exact h.atComp fun i u hu => hu.then (Runs.tripInput (Runs.refl _))
    | exact h.takeAll fun f hf u hu => by
        obtain ⟨k, -, rfl⟩ := List.mem_map.mp hf
        exact hu.then (Runs.syncHold (Runs.refl _))

theorem Event.nozzleEvent {i c} (h : Event w s0 s) : Event w s0 (nozzleEvent i c s) := by
  unfold Machine.nozzleEvent
  split <;> (try split) <;> first
    | exact h
    | exact h.then (Runs.tryStart (Runs.refl _))
    | exact h.then (Runs.endFill (Runs.refl _))
    | exact h.then (Runs.setFill (Runs.refl _))

theorem Event.lineChanged {l old} (h : Event w s0 s) : Event w s0 (lineChanged l old s) := by
  unfold Machine.lineChanged; dsimp only
  split
  · refine h.atFp fun i u hu => ?_
    unfold nozzleMoved; split
    · exact hu
    · exact hu.nozzleEvent
  · split
    · unfold levelMoved; split
      · exact h
      · exact h.levelEvent
    · split
      · exact h.edgeEvent
      · exact h

theorem Event.settle (h : Event w s0 s) : Event w s0 (settle s) := h.then (Runs.settle (Runs.refl _))

/-- What a loaded line brings about, after its entry stands (R14). -/
theorem event_installLine (l : LineId) (fn : LineFn) (t : Nat) (p : Polarity) (m : DetectMode) (s : State) :
    Event w (modLine l (fun l => { l with fn := fn, target := t, polarity := p, mode := m }) s)
      (installLine l fn t p m s) := by
  unfold installLine; dsimp only
  refine Event.fold (fun i u hu => ?_) ?_
  · split
    · split
      · exact hu
      · exact hu.nozzleEvent
    · exact hu
  · repeat' split
    all_goals first
      | exact Event.refl _
      | exact (Event.refl _).levelEvent
      | exact (Event.refl _).levelEvent.levelEvent

end Sys2Proof.Machine
end

