-- ==== Sys2Proof/Laws/Spares.lean ====
section
/-!
SUPPORT. What the running of other units leaves to fuelling points that wait for no bank: the sequencer, meter and receiver of
each, the completion queue, the refill list, and, but for PCM's own operations, PCM. The end of a fill is said with it
(Laws/FillEnds.lean).
-/
namespace Sys2Proof.Machine

/-- From `s` to `t` other units ran: each fuelling point of `P`, none of which waits for a bank, is as it was. Where `p` is
false PCM is as it was, too. -/
structure Spares (p : Bool) (P : FpId → Prop) (s t : State) : Prop where
  quiet : ∀ i, P i → ∀ b, (s.fp i).waitsFor b = false
  fp : ∀ i, P i → t.fp i = s.fp i
  meter : ∀ i, P i → t.meter i = s.meter i
  link : ∀ i, P i → t.link i = s.link i
  cqr : t.cqr = s.cqr
  refill : t.refill = s.refill
  pcm : p = false → t.pcm = s.pcm
  runs : Runs false s t

variable {p : Bool} {P : FpId → Prop} {i : FpId} {s0 s t : State}

theorem Spares.refl (q : ∀ i, P i → ∀ b, (s.fp i).waitsFor b = false) : Spares p P s s :=
  ⟨q, fun _ _ => rfl, fun _ _ => rfl, fun _ _ => rfl, rfl, rfl, fun _ => rfl, Runs.refl s⟩

theorem Spares.still (h : Spares p P s0 s) (i : FpId) (m : P i) (b : BankId) : (s.fp i).waitsFor b = false := by
  rw [h.fp i m]; exact h.quiet i m b

theorem Spares.trans {u : State} (h : Spares p P s t) (k : Spares p P t u) : Spares p P s u :=
  ⟨h.quiet, fun i m => (k.fp i m).trans (h.fp i m), fun i m => (k.meter i m).trans (h.meter i m),
    fun i m => (k.link i m).trans (h.link i m), k.cqr.trans h.cqr, k.refill.trans h.refill,
    fun e => (k.pcm e).trans (h.pcm e), h.runs.trans k.runs⟩

/-- One more operation, on other units. -/
theorem Spares.step (h : Spares p P s0 s) (r : Runs false s t) (f : ∀ i, P i → t.fp i = s.fp i := by exact fun _ _ => rfl)
    (m : ∀ i, P i → t.meter i = s.meter i := by exact fun _ _ => rfl)
    (l : ∀ i, P i → t.link i = s.link i := by exact fun _ _ => rfl) (q : t.cqr = s.cqr := by rfl)
    (e : t.refill = s.refill := by rfl) (c : p = false → t.pcm = s.pcm := by exact fun _ => rfl) : Spares p P s0 t :=
  h.trans ⟨h.still, f, m, l, q, e, c, r⟩

@[simp] theorem Spares.ite {c : Prop} [Decidable c] (h : Spares p P s0 s) (k : Spares p P s0 t) :
    Spares p P s0 (if c then s else t) := by split <;> assumption

theorem other {j : FpId} (n : ¬ P j) (i : FpId) (m : P i) : j ≠ i := fun e => n (e ▸ m)

/-! ### Updates of other units -/

@[simp] theorem Spares.modFp {j f} (h : Spares p P s0 s) (n : ¬ P j)
    (k : ∀ x, (f x).entry = x.entry ∧ (f x).loaded = x.loaded) : Spares p P s0 (modFp j f s) :=
  h.step ((Runs.refl s).modFp k) fun i m => by simp [modFp_fp, other n i m]
@[simp] theorem Spares.modMeter {j f} (h : Spares p P s0 s) (n : ¬ P j)
    (k : ∀ m : Meter, (∀ t, m.txn = some t → drawSum t.draw = t.mass) →
      ∀ t, (f m).txn = some t → drawSum t.draw = t.mass) : Spares p P s0 (modMeter j f s) :=
  h.step ((Runs.refl s).modMeter k) (m := fun i m => by simp [modMeter_meter, other n i m])
@[simp] theorem Spares.modTxn {j f} (h : Spares p P s0 s) (n : ¬ P j)
    (k : ∀ t : Txn, drawSum t.draw = t.mass → drawSum (f t).draw = (f t).mass) : Spares p P s0 (modTxn j f s) :=
  h.step ((Runs.refl s).modTxn k) (m := fun i m => by unfold Machine.modTxn; simp [modMeter_meter, other n i m])
@[simp] theorem Spares.modLink {j f} (h : Spares p P s0 s) (n : ¬ P j) : Spares p P s0 (modLink j f s) :=
  h.step (Runs.refl s).modLink (l := fun i m => by simp [modLink_link, other n i m])
@[simp] theorem Spares.modComp {k f} (h : Spares p P s0 s) (q : ∀ x, (f x).entry = x.entry ∧ (f x).loaded = x.loaded) :
    Spares p P s0 (modComp k f s) := h.step ((Runs.refl s).modComp q)
@[simp] theorem Spares.post {n} (h : Spares p P s0 s) : Spares p P s0 (post n s) := h.step (Runs.refl s).post
@[simp] theorem Spares.inbox {l} (h : Spares p P s0 s) : Spares p P s0 { s with csInbox := l } := h.step (Runs.refl s).inbox
@[simp] theorem Spares.order {n} (h : Spares p P s0 s) : Spares p P s0 { s with orderCount := n } := h.step (Runs.refl s).order
@[simp] theorem Spares.postIf {b n} (h : Spares p P s0 s) : Spares p P s0 (postIf b n s) := by
  unfold Machine.postIf; simp [h]
@[simp] theorem Spares.setFill {j st} (h : Spares p P s0 s) (n : ¬ P j) : Spares p P s0 (setFill j st s) := by
  unfold Machine.setFill; simp [h, n]
@[simp] theorem Spares.setCompState {k st} (h : Spares p P s0 s) : Spares p P s0 (setCompState k st s) := by
  unfold Machine.setCompState; simp [h]
@[simp] theorem Spares.setChiller {c} (h : Spares true P s0 s) : Spares true P s0 (setChiller c s) := by
  unfold Machine.setChiller
  exact (h.step (t := Machine.modPcm (fun p => { p with chiller := c }) s) (by simp [Runs.refl]) (c := nofun)).postIf
@[simp] theorem Spares.evalChiller (h : Spares true P s0 s) : Spares true P s0 (evalChiller s) := h.setChiller

/-! ### Draw lists, substates, grants of others -/

@[simp] theorem Spares.openDraw {j b} (h : Spares p P s0 s) (n : ¬ P j) : Spares p P s0 (openDraw j b s) :=
  h.modTxn n fun _ a => by simpa [drawSum] using a
@[simp] theorem Spares.closeDraw {j} (h : Spares p P s0 s) (n : ¬ P j) : Spares p P s0 (closeDraw j s) :=
  h.modTxn n fun _ a => (drawSum_close _ _).trans a
@[simp] theorem Spares.setSub {j st} (h : Spares p P s0 s) (n : ¬ P j) : Spares p P s0 (setSub j st s) := by
  unfold Machine.setSub; simp [h, n, flowTimers_entry]
@[simp] theorem Spares.rederive {j} (h : Spares p P s0 s) (n : ¬ P j) : Spares p P s0 (rederive j s) := h.setSub n
@[simp] theorem Spares.beginPulse {j} (h : Spares p P s0 s) (n : ¬ P j) : Spares p P s0 (beginPulse j s) := by
  unfold Machine.beginPulse; simp [h, n]
@[simp] theorem Spares.fpsTake {j b} (h : Spares p P s0 s) (n : ¬ P j) : Spares p P s0 (fpsTake j b s) := by
  unfold Machine.fpsTake; dsimp only
  split <;> simp (maxDischargeDepth := 20) [h, n]

/-- A grant told to a winner: a fuelling point that waits for no bank takes none. -/
@[simp] theorem Spares.tellGranted {r b} (h : Spares p P s0 s) : Spares p P s0 (tellGranted r b s).1 := by
  unfold Machine.tellGranted
  split
  · next j e =>
    split
    · next w => exact h.fpsTake fun m => by rw [h.still j m b] at w; cases w
    · exact h
  · split <;> simp [h]

theorem Spares.competeFor {n b} (h : Spares p P s0 s) (free : s.holderOf b = none) : Spares p P s0 (competeFor n b s) := by
  induction n generalizing s with
  | zero => exact h
  | succ n ih =>
    unfold Machine.competeFor
    split
    · exact h
    · next r e =>
      have g : Spares p P s0 (Machine.tellGranted r b (setHolder b (some r) (setStacked b ((s.stackedAt b).erase r) s))).1 :=
        (h.step ((Runs.refl s).wins (winner_mem s _ r e))).tellGranted
      dsimp only; split
      · exact ih (g.step (Runs.refl _).freed) (by simp)
      · exact g

@[simp] theorem Spares.compete {b} (h : Spares p P s0 s) : Spares p P s0 (compete b s) := by
  unfold Machine.compete; split
  · next e => exact h.competeFor e
  · exact h
@[simp] theorem Spares.releaseBank {r b} (h : Spares p P s0 s) : Spares p P s0 (releaseBank r b s) := by
  unfold Machine.releaseBank; split
  · exact (h.step (Runs.refl s).freed).compete
  · exact h
@[simp] theorem Spares.withdrawBank {r b} (h : Spares p P s0 s) : Spares p P s0 (withdrawBank r b s) :=
  h.step (Runs.refl s).withdrawBank
@[simp] theorem Spares.letGo {r b} (h : Spares p P s0 s) : Spares p P s0 (letGo r b s) := h.releaseBank.withdrawBank
@[simp] theorem Spares.requestBank {r b} (h : Spares p P s0 s) : Spares p P s0 (requestBank r b s).1 := by
  have k := (Runs.refl (w := false) s).requestBank (r := r) (b := b)
  refine h.step k ?_ ?_ ?_ ?_ ?_ ?_ <;> unfold Machine.requestBank <;> split <;> (try split) <;>
    first | rfl | exact fun _ _ => rfl | exact fun _ => rfl

/-! ### Ends, choices and admissions of others -/

@[simp] theorem Spares.takeReason {j r} (h : Spares p P s0 s) (n : ¬ P j) : Spares p P s0 (takeReason j r s) := by
  unfold Machine.takeReason; simp (maxDischargeDepth := 20) [h, n]
@[simp] theorem Spares.letGoOfBank {j} (h : Spares p P s0 s) : Spares p P s0 (letGoOfBank j s) := by
  unfold Machine.letGoOfBank; split <;> simp [h]
@[simp] theorem Spares.stopFill {j r} (h : Spares p P s0 s) (n : ¬ P j) : Spares p P s0 (stopFill j r s) := by
  unfold Machine.stopFill endLink; simp (maxDischargeDepth := 20) [h, n, Fps.closed]
@[simp] theorem Spares.closeFill {j r} (h : Spares p P s0 s) (n : ¬ P j) : Spares p P s0 (closeFill j r s) := by
  unfold Machine.closeFill; simp (maxDischargeDepth := 20) [h, n]
@[simp] theorem Spares.tryBanks {j l why} (h : Spares p P s0 s) (n : ¬ P j) : Spares p P s0 (tryBanks j l why s) := by
  induction l generalizing s why with
  | nil => exact h.closeFill n
  | cons b rest ih =>
    unfold Machine.tryBanks
    split
    · dsimp only; split
      · simp (maxDischargeDepth := 20) [h, n]
      · simp (maxDischargeDepth := 20) [h, n]
      · exact ih (by simp (maxDischargeDepth := 20) [h, n])
    · exact ih h
@[simp] theorem Spares.enterLeakCheck {j} (h : Spares p P s0 s) (n : ¬ P j) : Spares p P s0 (enterLeakCheck j s) := by
  unfold Machine.enterLeakCheck; dsimp only
  split <;> simp (maxDischargeDepth := 20) [h, n]
@[simp] theorem Spares.fpsAdmitted {j c b} (h : Spares p P s0 s) (n : ¬ P j) : Spares p P s0 (fpsAdmitted j c b s) := by
  unfold Machine.fpsAdmitted; simp (maxDischargeDepth := 20) [h, n]

theorem evalChiller_parts : (evalChiller s).fps = s.fps ∧ (evalChiller s).mtu = s.mtu ∧ (evalChiller s).vlr = s.vlr ∧
    (evalChiller s).cqr = s.cqr ∧ (evalChiller s).refill = s.refill := by
  unfold evalChiller setChiller postIf; split <;> exact ⟨rfl, rfl, rfl, rfl, rfl⟩
theorem admit_parts {j e t c} : (admitFill j e t c s).fps = s.fps ∧ (admitFill j e t c s).mtu = s.mtu ∧
    (admitFill j e t c s).vlr = s.vlr ∧ (admitFill j e t c s).cqr = s.cqr ∧ (admitFill j e t c s).refill = s.refill := by
  unfold admitFill; dsimp only; split
  · exact evalChiller_parts
  · exact ⟨rfl, rfl, rfl, rfl, rfl⟩

/-- An admission of another moves PCM's own record and the force on the chiller alone. -/
@[simp] theorem admit_waitList {j e t c} : (admitFill j e t c s).pcm.waitList = s.pcm.waitList := by
  unfold admitFill evalChiller setChiller postIf; dsimp only; split <;> (try split) <;> rfl
@[simp] theorem evalChiller_reservation : (evalChiller s).reservation i = s.reservation i := by
  unfold evalChiller setChiller postIf; split <;> rfl
@[simp] theorem evalChiller_waitList : (evalChiller s).pcm.waitList = s.pcm.waitList := by
  unfold evalChiller setChiller postIf; split <;> rfl
theorem admit_reservation {j e t c} (n : j ≠ i) : (admitFill j e t c s).reservation i = s.reservation i := by
  unfold admitFill; dsimp only
  split
  · rw [evalChiller_reservation]; exact modReservation_reservation_ne s j _ i n
  · exact modReservation_reservation_ne s j _ i n
theorem fpsAdmitted_pcm {j c b} : (fpsAdmitted j c b s).pcm = s.pcm :=
  (Spares.fpsAdmitted (p := false) (P := fun _ => False) (Spares.refl nofun) id).pcm rfl

/-- The heads of the wait list are taken: a fuelling point that stands in no list keeps its record, too. -/
theorem Spares.evalHeads {n} (h : Spares true P s0 s) (o : ∀ i, P i → i ∉ s.pcm.waitList)
    (e : ∀ i, P i → s.reservation i = s0.reservation i) :
    Spares true P s0 (evalHeads n s) ∧ ∀ i, P i → (Machine.evalHeads n s).reservation i = s0.reservation i := by
  induction n generalizing s with
  | zero => exact ⟨h, e⟩
  | succ n ih =>
    unfold Machine.evalHeads
    split
    · exact ⟨h, e⟩
    · next j rest l =>
      dsimp only; split
      · exact ⟨h, e⟩
      · next c _ =>
        have nj : ¬ P j := fun m => o j m (by rw [l]; exact List.mem_cons_self)
        have a : Spares true P s0 (admitFill j (s.reservation j).estimate ((s.reservation j).category.getD .s) c
            (modPcm (fun p => { p with waitList := rest }) s)) := by
          have k := admit_parts (s := modPcm (fun p => { p with waitList := rest }) s) (j := j)
            (e := (s.reservation j).estimate) (t := (s.reservation j).category.getD .s) (c := c)
          refine h.step ((Runs.refl s).admitHead l) (fun i _ => ?_) (fun i _ => ?_) (fun i _ => ?_) k.2.2.2.1 k.2.2.2.2 nofun
          · unfold State.fp; rw [k.1]; rfl
          · unfold State.meter; rw [k.2.1]; rfl
          · unfold State.link; rw [k.2.2.1]; rfl
        refine ih (a.fpsAdmitted nj) (fun i m => ?_) (fun i m => ?_)
        · rw [fpsAdmitted_pcm, admit_waitList]
          exact fun x => o i m (by rw [l]; exact List.mem_cons_of_mem _ x)
        · unfold State.reservation; rw [fpsAdmitted_pcm]
          exact (admit_reservation (other nj i m)).trans (e i m)

theorem Spares.evalHead (h : Spares true P s0 s) (o : ∀ i, P i → i ∉ s.pcm.waitList)
    (e : ∀ i, P i → s.reservation i = s0.reservation i) :
    Spares true P s0 (evalHead s) ∧ ∀ i, P i → (Machine.evalHead s).reservation i = s0.reservation i := h.evalHeads o e

/-- The same after an event that lowered a reservation. -/
theorem Spares.afterFall (h : Spares true P s0 s) (o : ∀ i, P i → i ∉ s.pcm.waitList)
    (e : ∀ i, P i → s.reservation i = s0.reservation i) :
    Spares true P s0 (afterFall s) ∧ ∀ i, P i → (Machine.afterFall s).reservation i = s0.reservation i := by
  have := h.evalHead o e
  unfold Machine.afterFall; split
  · refine ⟨this.1.evalChiller, fun i m => ?_⟩
    rw [← this.2 i m, evalChiller_reservation]
  · exact this

/-! ### Compressors -/

@[simp] theorem Spares.setTarget {k b} (h : Spares p P s0 s) : Spares p P s0 (setTarget k b s) := by
  unfold Machine.setTarget; dsimp only
  split
  · exact h
  · exact Spares.inbox (h.modComp fun _ => ⟨rfl, rfl⟩)
@[simp] theorem Spares.enterStarting {k b} (h : Spares p P s0 s) : Spares p P s0 (enterStarting k b s) := by
  unfold Machine.enterStarting; simp (maxDischargeDepth := 40) [h]
@[simp] theorem Spares.evalNeed {k} (h : Spares p P s0 s) : Spares p P s0 (evalNeed k s) := by
  unfold Machine.evalNeed
  split <;> simp (maxDischargeDepth := 40) [h]
@[simp] theorem Spares.evalPermission {k} (h : Spares p P s0 s) : Spares p P s0 (evalPermission k s) := by
  unfold Machine.evalPermission
  split <;> simp (maxDischargeDepth := 40) [h]
@[simp] theorem Spares.enterOff {k} (h : Spares p P s0 s) : Spares p P s0 (enterOff k s) := by
  unfold Machine.enterOff; simp (maxDischargeDepth := 40) [h, Compressor.timersOff]
@[simp] theorem Spares.enterDisabled {k} (h : Spares p P s0 s) : Spares p P s0 (enterDisabled k s) := by
  unfold Machine.enterDisabled; simp (maxDischargeDepth := 40) [h, Compressor.timersOff]
@[simp] theorem Spares.letGoOfTarget {k b} (h : Spares p P s0 s) : Spares p P s0 (letGoOfTarget k b s) := by
  unfold Machine.letGoOfTarget
  split <;> simp (maxDischargeDepth := 40) [h]
@[simp] theorem Spares.enterStopping {k} (h : Spares p P s0 s) : Spares p P s0 (enterStopping k s) := by
  unfold Machine.enterStopping; simp (maxDischargeDepth := 40) [h]
@[simp] theorem Spares.enterTripped {k c} (h : Spares p P s0 s) : Spares p P s0 (enterTripped k c s) := by
  unfold Machine.enterTripped; simp (maxDischargeDepth := 40) [h, Compressor.timersOff]
@[simp] theorem Spares.tripIfRunning {k c} (h : Spares p P s0 s) : Spares p P s0 (tripIfRunning k c s) := by
  unfold Machine.tripIfRunning; simp (maxDischargeDepth := 40) [h]
@[simp] theorem Spares.tripInput {k} (h : Spares p P s0 s) : Spares p P s0 (tripInput k s) := by
  unfold Machine.tripInput
  split <;> simp (maxDischargeDepth := 40) [h]
@[simp] theorem Spares.becomeIdle {k} (h : Spares p P s0 s) : Spares p P s0 (becomeIdle k s) := by
  unfold Machine.becomeIdle; simp (maxDischargeDepth := 40) [h]
@[simp] theorem Spares.requestTarget {n k b} (h : Spares p P s0 s) : Spares p P s0 (requestTarget n k b s) := by
  induction n generalizing s b with
  | zero => exact h.becomeIdle
  | succ n ih =>
    unfold Machine.requestTarget; dsimp only
    split
    · simp (maxDischargeDepth := 40) [h]
    · simp (maxDischargeDepth := 40) [h]
    · split
      · exact ih (by simp (maxDischargeDepth := 40) [h])
      · simp (maxDischargeDepth := 40) [h]
@[simp] theorem Spares.seek {k e} (h : Spares p P s0 s) : Spares p P s0 (seek k e s) := by
  unfold Machine.seek
  split <;> simp (maxDischargeDepth := 40) [h]
@[simp] theorem Spares.seekIdle {k} (h : Spares p P s0 s) : Spares p P s0 (seekIdle k s) := by
  unfold Machine.seekIdle
  split <;> simp (maxDischargeDepth := 40) [h]
@[simp] theorem Spares.endFilling {k b} (h : Spares p P s0 s) : Spares p P s0 (endFilling k b s) := by
  unfold Machine.endFilling; simp (maxDischargeDepth := 40) [h]
@[simp] theorem Spares.refillOff {k b} (h : Spares p P s0 s) : Spares p P s0 (refillOff k b s) := by
  unfold Machine.refillOff; simp (maxDischargeDepth := 40) [h]
@[simp] theorem Spares.csWithdrawn {k b} (h : Spares p P s0 s) : Spares p P s0 (csWithdrawn k b s) := by
  unfold Machine.csWithdrawn; simp (maxDischargeDepth := 40) [h]
@[simp] theorem Spares.csRejected {k b} (h : Spares p P s0 s) : Spares p P s0 (csRejected k b s) := by
  unfold Machine.csRejected; simp (maxDischargeDepth := 40) [h]
@[simp] theorem Spares.recheckStarting {k} (h : Spares p P s0 s) : Spares p P s0 (recheckStarting k s) := by
  unfold Machine.recheckStarting
  split <;> simp (maxDischargeDepth := 40) [h]
@[simp] theorem Spares.recheckRecirc {k} (h : Spares p P s0 s) : Spares p P s0 (recheckRecirc k s) := by
  unfold Machine.recheckRecirc
  split <;> simp (maxDischargeDepth := 40) [h]
@[simp] theorem Spares.csNotice {k} (h : Spares p P s0 s) : Spares p P s0 (csNotice k s) := by
  unfold Machine.csNotice
  split <;> simp (maxDischargeDepth := 40) [h]
@[simp] theorem Spares.settleFor {n} (h : Spares p P s0 s) : Spares p P s0 (settleFor n s) := by
  induction n generalizing s with
  | zero => exact h
  | succ n ih =>
    unfold Machine.settleFor; dsimp only
    split
    · exact h
    · exact ih h.inbox.csNotice
    · exact ih (Spares.csNotice (Spares.inbox h.order))
@[simp] theorem Spares.settle  (h : Spares p P s0 s) : Spares p P s0 (settle  s) := by
  unfold Machine.settle; simp (maxDischargeDepth := 40) [h]

end Sys2Proof.Machine
end

