-- ==== Sys2Proof/Laws/FillEnds.lean ====
section
/-!
SUPPORT. The two ways a fill ends, said once each: closing it in LEAK_CHECK or FILLING (R110), ending it in LINK_WAIT or
PRECOOL_WAIT (R109).
-/
namespace Sys2Proof.Machine

variable {i : FpId} {s t : State}

/-! ### A requester that waits for no bank gets none -/

@[simp] theorem postIf_holder (b : Bool) (n : Nat) : (postIf b n s).holder = s.holder := by unfold postIf; split <;> rfl
@[simp] theorem setSub_holder (j : FpId) (x : Substate) : (setSub j x s).holder = s.holder := by unfold setSub; simp
@[simp] theorem fpsTake_holder (j : FpId) (b : BankId) : (fpsTake j b s).holder = s.holder := by
  unfold fpsTake; dsimp only; split <;> (try split) <;> first | rfl | exact (setSub_holder _ _)
@[simp] theorem tellGranted_holder (r : Requester) (b : BankId) : (tellGranted r b s).1.holder = s.holder := by
  unfold tellGranted setCompState; split <;> split <;> simp

theorem reqUnit_fpReq (i : FpId) : reqUnit (fpReq i) = .inl i := by
  have := i.isLt; simp [reqUnit, fpReq]

/-- A grant to a requester that waits for no bank has crossed its withdrawal. -/
theorem tellGranted_crosses {b : BankId} (h : (s.fp i).waitsFor b = false) : tellGranted (fpReq i) b s = (s, true) := by
  simp [tellGranted, reqUnit_fpReq, h]

theorem competeFor_not {n : Nat} {b : BankId} (h : ∀ c, (s.fp i).waitsFor c = false) (free : s.holderOf b = none) :
    (competeFor n b s).holderOf b ≠ some (fpReq i) := by
  induction n generalizing s with
  | zero => simp [competeFor, free]
  | succ n ih =>
    unfold competeFor
    split
    · simp [free]
    · next r e =>
      have g := (Spares.refl (p := false) (P := (· = i)) (s := setHolder b (some r) (setStacked b ((s.stackedAt b).erase r) s))
        (by rintro _ rfl c; exact h c)).tellGranted (r := r) (b := b)
      dsimp only; split
      · exact ih (fun c => g.still i rfl c) (by simp)
      · next x =>
        rintro q
        have : r = fpReq i := by simpa [State.holderOf, setHolder] using q
        subst this
        simp [tellGranted, reqUnit_fpReq, h] at x

theorem compete_not {b : BankId} (h : ∀ c, (s.fp i).waitsFor c = false) (n : s.holderOf b ≠ some (fpReq i)) :
    (compete b s).holderOf b ≠ some (fpReq i) := by
  unfold compete; split
  · next e => exact competeFor_not h e
  · exact n

theorem letGo_not {b : BankId} (h : ∀ c, (s.fp i).waitsFor c = false) : (letGo (fpReq i) b s).holderOf b ≠ some (fpReq i) := by
  show (releaseBank (fpReq i) b s).holderOf b ≠ _
  unfold releaseBank; split
  · exact compete_not h (by simp)
  · assumption

/-! ### Closing a fill (R110) -/

/-- The fill as its bank is still to be let go: reason, draw list, timers. -/
def beforeRelease (i : FpId) (r : Reason) (s : State) : State :=
  modFp i Fps.closed (closeDraw i (takeReason i r (setFill i .settling
    (modFp i (fun f => { f with settle := some s.site.params.settleWindow }) s))))

theorem closeFill_eq (r : Reason) : closeFill i r s = endLink i (letGoOfBank i (beforeRelease i r s)) := rfl

@[simp] theorem postIf_fp (b : Bool) (n : Nat) (j : FpId) : (postIf b n s).fp j = s.fp j := by unfold postIf; split <;> rfl
@[simp] theorem postIf_meter (b : Bool) (n : Nat) (j : FpId) : (postIf b n s).meter j = s.meter j := by
  unfold postIf; split <;> rfl
@[simp] theorem postIf_pcm (b : Bool) (n : Nat) : (postIf b n s).pcm = s.pcm := by unfold postIf; split <;> rfl
@[simp] theorem postIf_cqr (b : Bool) (n : Nat) : (postIf b n s).cqr = s.cqr := by unfold postIf; split <;> rfl
@[simp] theorem postIf_refill (b : Bool) (n : Nat) : (postIf b n s).refill = s.refill := by unfold postIf; split <;> rfl
@[simp] theorem postIf_link (b : Bool) (n : Nat) (j : FpId) : (postIf b n s).link j = s.link j := by
  unfold postIf; split <;> rfl
@[simp] theorem postIf_lines (b : Bool) (n : Nat) : (postIf b n s).lines = s.lines := by unfold postIf; split <;> rfl

theorem setFill_fp (st : FillState) : (setFill i st s).fp i =
    { s.fp i with fill := st, sub := if st = .filling then (s.fp i).sub else none } := by simp [setFill]
@[simp] theorem setFill_meter (j k : FpId) (st : FillState) : (setFill j st s).meter k = s.meter k := by simp [setFill]
@[simp] theorem setFill_pcm (j : FpId) (st : FillState) : (setFill j st s).pcm = s.pcm := by simp [setFill]
@[simp] theorem setFill_cqr (j : FpId) (st : FillState) : (setFill j st s).cqr = s.cqr := by simp [setFill]
@[simp] theorem setFill_refill (j : FpId) (st : FillState) : (setFill j st s).refill = s.refill := by simp [setFill]
@[simp] theorem setFill_link (j k : FpId) (st : FillState) : (setFill j st s).link k = s.link k := by simp [setFill]
@[simp] theorem setFill_lines (j : FpId) (st : FillState) : (setFill j st s).lines = s.lines := by simp [setFill]

theorem takeReason_fp (r : Reason) : (takeReason i r s).fp i = { s.fp i with reason := some r, hostHold := false } := by
  unfold takeReason; dsimp only; split <;> simp [modTxn]
@[simp] theorem takeReason_pcm (j : FpId) (r : Reason) : (takeReason j r s).pcm = s.pcm := by
  unfold takeReason; dsimp only; split <;> simp [modTxn]
@[simp] theorem takeReason_cqr (j : FpId) (r : Reason) : (takeReason j r s).cqr = s.cqr := by
  unfold takeReason; dsimp only; split <;> simp [modTxn]
@[simp] theorem takeReason_refill (j : FpId) (r : Reason) : (takeReason j r s).refill = s.refill := by
  unfold takeReason; dsimp only; split <;> simp [modTxn]
@[simp] theorem takeReason_lines (j : FpId) (r : Reason) : (takeReason j r s).lines = s.lines := by
  unfold takeReason; dsimp only; split <;> simp [modTxn]

/-- Taking a reason moves the transaction's final SOC alone (R153). -/
theorem takeReason_meter (r : Reason) : (takeReason i r s).meter i =
    { s.meter i with txn := (s.meter i).txn.map fun t =>
        if (s.fp i).mode = .communication then { t with finalSoc := (s.fp i).presentSoc } else t } := by
  unfold takeReason; dsimp only; split
  · simp [modTxn]
  · simp

theorem beforeRelease_fp (r : Reason) : (beforeRelease i r s).fp i =
    { s.fp i with fill := .settling, sub := none, reason := some r, hostHold := false, settle := some s.site.params.settleWindow,
                  link := .unlinked, bankWait := none, leakPulse := none, leakHold := none, maxFill := none, grace := none,
                  lowFlow := none } := by
  simp [beforeRelease, Fps.closed, closeDraw, modTxn, takeReason_fp, setFill_fp]

theorem beforeRelease_runs (r : Reason) : Runs false s (beforeRelease i r s) := by
  unfold beforeRelease; simp (maxDischargeDepth := 20) [Runs.refl, Fps.closed]

theorem beforeRelease_rest (r : Reason) : (beforeRelease i r s).pcm = s.pcm ∧ (beforeRelease i r s).cqr = s.cqr ∧
    (beforeRelease i r s).refill = s.refill := by
  simp [beforeRelease, closeDraw, modTxn]

theorem beforeRelease_draw (r : Reason) (x : Txn) (h : ((beforeRelease i r s).meter i).txn = some x) :
    (∀ e ∈ x.draw, e.closeP ≠ none) ∧ ((s.fp i).mode = .communication → x.finalSoc = (s.fp i).presentSoc) := by
  simp only [beforeRelease, modFp_meter, closeDraw, modTxn, modMeter_meter, if_pos, takeReason_meter, setFill_meter,
    setFill_fp, modFp_fp, Option.map_map, Option.map_eq_some_iff] at h
  obtain ⟨y, -, rfl⟩ := h
  refine ⟨fun e m => ?_, fun c => by simp [c]⟩
  obtain ⟨e', -, rfl⟩ := List.mem_map.mp m
  split <;> simp_all

/-- What is left of a fill's close once its bank is let go. -/
theorem letGoOfBank_spares (r : Reason) :
    Spares false (· = i) (beforeRelease i r s) (letGoOfBank i (beforeRelease i r s)) := by
  refine Spares.letGoOfBank (Spares.refl ?_)
  rintro _ rfl b; rw [beforeRelease_fp]; simp [Fps.waitsFor]

theorem letGoOfBank_not (r : Reason) (b : BankId) (e : (s.fp i).cascadePos = some b) :
    (letGoOfBank i (beforeRelease i r s)).holderOf b ≠ some (fpReq i) := by
  have p : ((beforeRelease i r s).fp i).cascadePos = some b := by rw [beforeRelease_fp]; exact e
  unfold letGoOfBank; rw [p]
  exact letGo_not fun c => by rw [beforeRelease_fp]; simp [Fps.waitsFor]

/-- A fill that is closed is closed as R110 says. -/
theorem closeFill_closes (r : Reason) : s.ClosedBy (closeFill i r s) i r := by
  have k := letGoOfBank_spares (i := i) (s := s) r
  have n : Runs false s (closeFill i r s) := by simp [Runs.refl]
  have l := letGoOfBank_not (i := i) (s := s) r
  obtain ⟨e1, e2, e3⟩ := beforeRelease_rest (i := i) (s := s) r
  have g : (closeFill i r s).fp i = _ := (modLink_fp _ _ _ _).trans ((k.fp i rfl).trans (beforeRelease_fp r))
  have m : (closeFill i r s).meter i = _ := (modLink_meter _ _ _ _).trans (k.meter i rfl)
  have o : ((closeFill i r s).link i).state = .idle := by rw [closeFill_eq, endLink, modLink_link_self]; rfl
  have c1 : (closeFill i r s).refill = s.refill := (modLink_refill _ _ _).trans (k.refill.trans e3)
  have c2 : (closeFill i r s).cqr = s.cqr := (modLink_cqr _ _ _).trans (k.cqr.trans e2)
  have c3 : (closeFill i r s).pcm = s.pcm := (modLink_pcm _ _ _).trans ((k.pcm rfl).trans e1)
  have c4 : ∀ b, (s.fp i).cascadePos = some b → (closeFill i r s).holderOf b ≠ some (fpReq i) := fun b e => by
    rw [closeFill_eq, endLink, modLink_holderOf]; exact l b e
  generalize closeFill i r s = t at *
  have d := beforeRelease_draw (i := i) (s := s) r
  rw [← m] at d
  exact ⟨by rw [g], by rw [g], by rw [g], by rw [g]; simp, by rw [g], ⟨by rw [g], c4⟩, o, fun x h => (d x h).1,
    fun c x h => (d x h).2 c, n.fixed, n.banks rfl, c1, c2, c3⟩

/-! ### Ending a fill that waits (R109) -/

/-- The heads that are taken leave the list; none joins it. -/
theorem evalHeads_list (n : Nat) : ∀ j ∈ (evalHeads n s).pcm.waitList, j ∈ s.pcm.waitList := by
  induction n generalizing s with
  | zero => exact fun _ m => m
  | succ n ih =>
    unfold evalHeads
    split
    · exact fun _ m => m
    · next k rest l =>
      dsimp only; split
      · exact fun _ m => m
      · intro j m
        have := ih j m
        rw [fpsAdmitted_pcm, admit_waitList] at this
        rw [l]; exact List.mem_cons_of_mem _ this

/-- A fuelling point that withdraws stands in no list afterwards, and is as it was (R93). -/
theorem withdrawAdmission_spares (w : s.WaitOk) (q : ∀ b, (s.fp i).waitsFor b = false) :
    Spares true (· = i) s (withdrawAdmission i s) ∧ i ∉ (withdrawAdmission i s).pcm.waitList := by
  have s0 : Spares true (· = i) s s := Spares.refl (by rintro _ rfl b; exact q b)
  have s1 : Spares true (· = i) s (leaveWaitList i s) := s0.step (Runs.refl s).leaveWaitList (c := nofun)
  have out : i ∉ (leaveWaitList i s).pcm.waitList := w.once.not_mem_erase
  unfold withdrawAdmission
  split
  · split
    · refine ⟨s1.trans ((Spares.refl ?_).evalHead ?_ fun _ _ => rfl).1, fun m => out (evalHeads_list _ _ m)⟩
      · rintro _ rfl b; exact s1.still _ rfl b
      · rintro _ rfl; exact out
    · exact ⟨s1, out⟩
  · next h => exact ⟨s0, by simpa using h⟩

@[simp] theorem releaseSlot_pcm : (releaseSlot s).pcm = s.pcm := rfl

/-- A hand-over says what its record says (R168, R174, R175). -/
theorem handOver_queue (r : Reason) (b : Bool) (x : Txn) (h : (s.meter i).txn = some x) :
    ((handOver i r b s).meter i).auth = Auth.empty ∧ ∃ q : Record,
      (handOver i r b s).cqr.queue = s.cqr.queue ++ [q] ∧ q.number = s.cqr.nextNumber ∧ q.fp = i ∧ q.reason = r ∧
        q.price = x.price ∧ q.mass = x.mass ∧ q.amount = amountOf x.mass x.price ∧ q.endTime = s.site.calendar ∧
        q.finalSoc = x.finalSoc := by
  obtain ⟨y, e, e1, e2, e3⟩ : ∃ y : Txn, ((closeDraw i (modMeter i (fun m => { m with window := false }) s)).meter i).txn = some y ∧
      y.price = x.price ∧ y.mass = x.mass ∧ y.finalSoc = x.finalSoc := by
    simp only [closeDraw, modTxn, modMeter_meter_self, h, Option.map_some]
    exact ⟨_, rfl, rfl, rfl, rfl⟩
  unfold handOver; dsimp only; rw [e]; dsimp only
  refine ⟨by simp, { recordOf i (y.close r b s.site.calendar) r s.site.calendar with number := s.cqr.nextNumber }, ?_, rfl, rfl,
    rfl, e1, e2, by rw [← e1, ← e2]; rfl, rfl, e3⟩
  simp only [loadRecord, markChange, closeDraw, modTxn, modMeter_cqr, post_cqr, modCqr_cqr, mark_queue, recordOf]

theorem handOver_fp (r : Reason) (b : Bool) (j : FpId) : (handOver i r b s).fp j = s.fp j := by
  unfold handOver; dsimp only; split <;> simp [loadRecord, markChange, closeDraw, modTxn]
theorem handOver_link (r : Reason) (b : Bool) (j : FpId) : (handOver i r b s).link j = s.link j := by
  unfold handOver; dsimp only; split <;> simp [loadRecord, markChange, closeDraw, modTxn]
theorem handOver_pcm (r : Reason) (b : Bool) : (handOver i r b s).pcm = s.pcm := by
  unfold handOver; dsimp only; split <;> simp [loadRecord, markChange, closeDraw, modTxn]
theorem handOver_refill (r : Reason) (b : Bool) : (handOver i r b s).refill = s.refill := by
  unfold handOver; dsimp only; split <;> simp [loadRecord, markChange, closeDraw, modTxn]

theorem nozzleCondition_of (h : t.lines = s.lines) : t.nozzleCondition i = s.nozzleCondition i := by
  unfold State.nozzleCondition State.inputAsserted; rw [h]

/-- COMPLETE, IDLE or FAULT, by the reason and the nozzle (R108, R113). -/
theorem finish_fp (r : Reason) (h : (s.fp i).reason = some r) : (finish i s).fp i = { s.fp i with
    fill := if r.normal then (if s.nozzleCondition i = .holstered then .idle else .complete) else .fault, sub := none } := by
  have e : (setFill i .complete s).nozzleCondition i = s.nozzleCondition i := nozzleCondition_of (by simp)
  unfold finish; rw [h]; dsimp only
  split
  · rw [e]; split <;> simp [setFill_fp, *]
  · simp [setFill_fp, *]
@[simp] theorem finish_pcm : (finish i s).pcm = s.pcm := by unfold finish; dsimp only; split <;> (try split) <;> (try split) <;> simp
@[simp] theorem finish_cqr : (finish i s).cqr = s.cqr := by unfold finish; dsimp only; split <;> (try split) <;> (try split) <;> simp
@[simp] theorem finish_refill : (finish i s).refill = s.refill := by
  unfold finish; dsimp only; split <;> (try split) <;> (try split) <;> simp
@[simp] theorem finish_meter (j : FpId) : (finish i s).meter j = s.meter j := by
  unfold finish; dsimp only; split <;> (try split) <;> (try split) <;> simp
@[simp] theorem finish_link (j : FpId) : (finish i s).link j = s.link j := by
  unfold finish; dsimp only; split <;> (try split) <;> (try split) <;> simp

/-- A fill that waits is ended as R109 says. -/
theorem endEarly_ends (r : Reason) (w : s.WaitOk) (f : (s.fp i).fill = .linkWait ∨ (s.fp i).fill = .precoolWait) :
    s.EndedEarly (endEarly i r s) i r := by
  have n : Runs false s (endEarly i r s) := by simp [Runs.refl]
  have n1 : Runs false s (modFp i (fun f => { f with acquisition := none }) (takeReason i r s)) := by simp [Runs.refl]
  have f1 : (modFp i (fun f => { f with acquisition := none }) (takeReason i r s)).fp i =
      { s.fp i with reason := some r, hostHold := false, acquisition := none } := by simp [takeReason_fp]
  have m1 : (modFp i (fun f => { f with acquisition := none }) (takeReason i r s)).meter i = _ :=
    (modFp_meter _ _ _ _).trans (takeReason_meter r)
  have q1 : (modFp i (fun f => { f with acquisition := none }) (takeReason i r s)).cqr = s.cqr := by simp
  have l1 : (modFp i (fun f => { f with acquisition := none }) (takeReason i r s)).refill = s.refill := by simp
  unfold endEarly at *
  generalize modFp i (fun f => { f with acquisition := none }) (takeReason i r s) = s1 at *
  obtain ⟨k, o⟩ := withdrawAdmission_spares (n1.wait w) (i := i) (by
    intro b; rw [f1]; rcases f with f | f <;> simp [Fps.waitsFor, f])
  have r2 : Runs false s1 (withdrawAdmission i s1) := k.runs
  generalize withdrawAdmission i s1 = s2 at *
  have f3 : (handOver i r false (endLink i s2)).fp i = _ :=
    (handOver_fp _ _ _).trans ((modLink_fp _ _ _ _).trans ((k.fp i rfl).trans f1))
  have l3 : ((handOver i r false (endLink i s2)).link i).state = .idle := by
    rw [handOver_link, endLink, modLink_link_self]; rfl
  have z : (handOver i r false (endLink i s2)).nozzleCondition i = s.nozzleCondition i :=
    nozzleCondition_of (congrArg Fixed.lines (n1.trans (r2.trans (by simp [Runs.refl]))).fixed)
  have g := finish_fp r (s := handOver i r false (endLink i s2)) (i := i) (by rw [f3])
  rw [z, f3] at g
  refine ⟨by rw [g], by rw [g], by rw [g], by rw [g], by rw [finish_link]; exact l3, ?_, fun x h => ?_, n.fixed, n.banks rfl, ?_⟩
  · rw [finish_pcm, handOver_pcm]; exact o
  · have e : ((endLink i s2).meter i).txn = some (if (s.fp i).mode = .communication then { x with finalSoc := (s.fp i).presentSoc } else x) := by
      rw [endLink, modLink_meter, k.meter i rfl, m1]; simp [h]
    obtain ⟨a, q, h1, h2, h3, h4, h5, h6, h7, h8, h9⟩ := handOver_queue r false _ e
    have c : (endLink i s2).cqr = s.cqr := (k.cqr).trans q1
    have cal : (endLink i s2).site.calendar = s.site.calendar :=
      congrArg (fun f => f.site.calendar) (n1.trans (r2.trans (by simp [Runs.refl] : Runs false s2 (endLink i s2)))).fixed
    refine ⟨by rw [finish_meter]; exact a, q, by rw [finish_cqr, h1, c], by rw [h2, c], h3, h4, ?_, ?_, ?_, by rw [h8, cal], fun m => ?_⟩
    · rw [h5]; split <;> rfl
    · rw [h6]; split <;> rfl
    · rw [h7]; split <;> rfl
    · rw [h9, if_pos m]
  · rw [finish_refill, handOver_refill]; exact k.refill.trans l1

end Sys2Proof.Machine
end

