-- ==== Sys2Proof/Laws/Operands.lean ====
section
/-!
SUPPORT. Operand forms and valve roles, said once: marks, lists of bank numbers, the set of classes (R205), the role numbers of
R205, and when every needed role is mapped (R15). With them, that no waiting notice leaves nothing to settle.
-/
namespace Sys2Proof.Machine

theorem onOff_isSome (x : Nat) : (∃ b, onOff x = some b) ↔ x ≤ 1 := by
  constructor
  · rintro ⟨b, h⟩; unfold onOff at h; split at h <;> simp_all
  · intro h; unfold onOff; split <;> simp_all; omega

theorem onOff_of_le {x : Nat} (h : x ≤ 1) : onOff x = some (x == 1) := by
  unfold onOff; split <;> simp_all; omega

theorem number_roleAt : ∀ r : Fin 58, (roleAt r).number = r := by decide

theorem roleAt_number (r : Role) : roleAt r.number = r := by
  cases r with
  | draw i b => revert i b; decide
  | fill i b => revert i b; decide
  | shutoff i => revert i; decide
  | vent i => revert i; decide
  | recirc i => revert i; decide

theorem mappedFor_iff (s : State) (p : Role → Bool) : s.mappedFor p = true ↔ ∀ r, p r = true → s.roleNeeded r = true → sel s.roleMap r.number ≠ none := by
  unfold State.mappedFor
  simp only [List.all_eq_true, Bool.or_eq_true, Bool.not_eq_true', Bool.and_eq_false_iff]
  constructor
  · intro h r hp hn
    have := h r.number (by simp)
    rw [roleAt_number, hp, hn] at this
    simpa [Option.isSome_iff_ne_none] using this
  · intro h x _
    by_cases a : p (roleAt x) = true
    · by_cases b : s.roleNeeded (roleAt x) = true
      · have := h _ a b
        rw [number_roleAt] at this
        right; simpa [Option.isSome_iff_ne_none] using this
      · left; right; simpa using b
    · left; left; simpa using a

theorem allowedOf_of_le (x : Nat) (h : x ≤ 15) (h1 : 1 ≤ x) : allowedOf x = some (classOrder.filter (fun c => x.testBit c.code)) := by
  unfold allowedOf; rw [if_neg (by omega)]

theorem mapM_unitOf (l : List Nat) (h : ∀ b ∈ l, b ≤ 7) : ∃ bs : List BankId, l.mapM (unitOf 8) = some bs ∧ bs.map Fin.val = l := by
  induction l with
  | nil => exact ⟨[], rfl, rfl⟩
  | cons a l ih =>
    obtain ⟨bs, e1, e2⟩ := ih (fun b hb => h b (by simp [hb]))
    have := h a (by simp)
    refine ⟨⟨a, by omega⟩ :: bs, ?_, by simp [e2]⟩
    simp [List.mapM_cons, unitOf_lt (show a < 8 by omega), e1]

theorem mapM_unitOf_none (l : List Nat) (h : ¬ ∀ b ∈ l, b ≤ 7) : l.mapM (unitOf 8) = none := by
  induction l with
  | nil => simp at h
  | cons a l ih =>
    by_cases ha : a ≤ 7
    · have : ¬ ∀ b ∈ l, b ≤ 7 := fun q => h (by simpa [ha] using q)
      simp [List.mapM_cons, ih this, unitOf_lt (show a < 8 by omega)]
    · simp [List.mapM_cons, unitOf_ge (show 8 ≤ a by omega)]

/-- Where no notice waits there is nothing to take. -/
theorem settle_nil (s : State) (h : s.csInbox = []) : settle s = s := by simp [settle, settleFor, h]

end Sys2Proof.Machine
end

