-- ==== Sys2Proof/Laws/CompSpares.lean ====
section
/-!
SUPPORT. What the running of the other compressor, and of the arbiter, leaves to a compressor that waits for no bank: its record,
and that it is granted nothing. With it, what the notices after an event can do to that compressor (R47, R60).
-/
namespace Sys2Proof.Machine

variable {k j : CompId} {s0 s t : State}

/-- From `s` to `t` others ran: compressor `k`, which does not wait for a bank, is as it was, and holds no bank that it did not
hold. -/
structure CompSpares (k : CompId) (s t : State) : Prop where
  quiet : ∀ b, (s.comp k).waitsFor b = false
  comp : t.comp k = s.comp k
  grant : ∀ b, s.holderOf b ≠ some (csReq k) → t.holderOf b ≠ some (csReq k)
  refill : t.refill = s.refill
  site : t.site = s.site

theorem CompSpares.refl (q : ∀ b, (s.comp k).waitsFor b = false) : CompSpares k s s := ⟨q, rfl, fun _ => id, rfl, rfl⟩

theorem CompSpares.still (h : CompSpares k s0 s) (b : BankId) : (s.comp k).waitsFor b = false := by
  rw [h.comp]; exact h.quiet b

theorem CompSpares.trans {u : State} (h : CompSpares k s t) (m : CompSpares k t u) : CompSpares k s u :=
  ⟨h.quiet, m.comp.trans h.comp, fun b => m.grant b ∘ h.grant b, m.refill.trans h.refill, m.site.trans h.site⟩

/-- One more operation, of others. -/
theorem CompSpares.step (h : CompSpares k s0 s) (c : t.comp k = s.comp k := by rfl)
    (g : ∀ b, s.holderOf b ≠ some (csReq k) → t.holderOf b ≠ some (csReq k) := by exact fun _ => id)
    (r : t.refill = s.refill := by rfl) (e : t.site = s.site := by rfl) : CompSpares k s0 t :=
  h.trans ⟨h.still, c, g, r, e⟩

@[simp] theorem CompSpares.ite {c : Prop} [Decidable c] (h : CompSpares k s0 s) (m : CompSpares k s0 t) :
    CompSpares k s0 (if c then s else t) := by split <;> assumption

/-! ### Updates of others -/

@[simp] theorem CompSpares.modComp {f} (h : CompSpares k s0 s) (n : j ≠ k) : CompSpares k s0 (modComp j f s) :=
  h.step (by simp [modComp_comp, n])
@[simp] theorem CompSpares.inbox {l} (h : CompSpares k s0 s) : CompSpares k s0 { s with csInbox := l } := h.step
@[simp] theorem CompSpares.order {n} (h : CompSpares k s0 s) : CompSpares k s0 { s with orderCount := n } := h.step
@[simp] theorem CompSpares.post {n} (h : CompSpares k s0 s) : CompSpares k s0 (post n s) := h.step
@[simp] theorem CompSpares.postIf {b n} (h : CompSpares k s0 s) : CompSpares k s0 (postIf b n s) := by
  unfold Machine.postIf; simp [h]
@[simp] theorem CompSpares.setCompState {st} (h : CompSpares k s0 s) (n : j ≠ k) : CompSpares k s0 (setCompState j st s) := by
  unfold Machine.setCompState; simp [h, n]
@[simp] theorem CompSpares.modFp {i f} (h : CompSpares k s0 s) : CompSpares k s0 (modFp i f s) := h.step
@[simp] theorem CompSpares.modMeter {i f} (h : CompSpares k s0 s) : CompSpares k s0 (modMeter i f s) := h.step
@[simp] theorem CompSpares.openDraw {i b} (h : CompSpares k s0 s) : CompSpares k s0 (openDraw i b s) := by
  unfold Machine.openDraw modTxn; exact h.modMeter
@[simp] theorem CompSpares.rederive {i} (h : CompSpares k s0 s) : CompSpares k s0 (rederive i s) := by
  unfold Machine.rederive setSub; simp [h]
@[simp] theorem CompSpares.fpsTake {i b} (h : CompSpares k s0 s) : CompSpares k s0 (fpsTake i b s) := by
  unfold Machine.fpsTake beginPulse; dsimp only
  split <;> simp (maxDischargeDepth := 20) [h]

/-! ### Grants -/

theorem reqUnit_csReq (k : CompId) : reqUnit (csReq k) = .inr k := by
  unfold reqUnit csReq; simp
theorem csReq_reqUnit {r : Requester} (h : reqUnit r = .inr k) : r = csReq k := by
  unfold reqUnit at h; split at h
  · cases h
  · next n => cases h; exact Fin.ext (by simp [csReq]; omega)

/-- A grant told to a winner: a compressor that does not wait for the bank takes none. -/
theorem CompSpares.tellGranted {r b} (h : CompSpares k s0 s) : CompSpares k s0 (tellGranted r b s).1 := by
  unfold Machine.tellGranted
  split
  · split
    · exact h.fpsTake
    · exact h
  · next i e =>
    split
    · next w =>
      have n : i ≠ k := fun q => by subst q; rw [h.still b] at w; cases w
      simp (maxDischargeDepth := 20) [h, n]
    · exact h
theorem tellGranted_crosses_cs {b : BankId} (h : (s.comp k).waitsFor b = false) : tellGranted (csReq k) b s = (s, true) := by
  unfold tellGranted; rw [reqUnit_csReq]; simp [h]

theorem CompSpares.competeFor {n b} (h : CompSpares k s0 s) (free : s.holderOf b = none) :
    CompSpares k s0 (competeFor n b s) := by
  induction n generalizing s with
  | zero => exact h
  | succ n ih =>
    unfold Machine.competeFor
    split
    · exact h
    · next r e =>
      let s1 := setHolder b (some r) (setStacked b ((s.stackedAt b).erase r) s)
      have c1 : s1.comp k = s.comp k := rfl
      have q : ∀ b, (s1.comp k).waitsFor b = false := h.still
      have w : CompSpares k s1 (Machine.tellGranted r b s1).1 := (CompSpares.refl q).tellGranted
      show CompSpares k s0 (if (Machine.tellGranted r b s1).2 = true then _ else _)
      split
      · refine ih ?_ (by simp)
        refine h.trans ⟨h.still, w.comp.trans c1, fun c m => ?_, w.refill, w.site⟩
        simp only [setHolder_holderOf]; split
        · exact nofun
        · next ne => exact w.grant c (by
            simpa [s1, setHolder_holderOf, setStacked_holderOf, ne] using m)
      · next nc =>
        have nr : r ≠ csReq k := fun x => by
          subst x; rw [tellGranted_crosses_cs (q b)] at nc; exact nc rfl
        refine h.trans ⟨h.still, w.comp.trans c1, fun c m => w.grant c ?_, w.refill, w.site⟩
        simp only [s1, setHolder_holderOf, setStacked_holderOf]; split
        · simpa using nr
        · exact m

@[simp] theorem CompSpares.compete {b} (h : CompSpares k s0 s) : CompSpares k s0 (compete b s) := by
  unfold Machine.compete; split
  · next e => exact h.competeFor e
  · exact h
theorem CompSpares.freed {b} (h : CompSpares k s0 s) : CompSpares k s0 (setHolder b none s) :=
  h.step (g := fun c m => by simp only [setHolder_holderOf]; split; exact nofun; exact m)
@[simp] theorem CompSpares.releaseBank {r b} (h : CompSpares k s0 s) : CompSpares k s0 (releaseBank r b s) := by
  unfold Machine.releaseBank; split
  · exact h.freed.compete
  · exact h
@[simp] theorem CompSpares.withdrawBank {r b} (h : CompSpares k s0 s) : CompSpares k s0 (withdrawBank r b s) := h.step
@[simp] theorem CompSpares.letGo {r b} (h : CompSpares k s0 s) : CompSpares k s0 (letGo r b s) := h.releaseBank.withdrawBank

/-- Where the compressor itself lets go of a bank, it holds it no longer. -/
theorem letGo_not_cs {b : BankId} (q : ∀ c, (s.comp k).waitsFor c = false) :
    (letGo (csReq k) b s).holderOf b ≠ some (csReq k) := by
  unfold letGo releaseBank
  split
  · have f : CompSpares k (setHolder b none s) (compete b (setHolder b none s)) :=
      (CompSpares.refl (s := setHolder b none s) q).compete
    exact f.grant b (by simp)
  · next n => exact n

theorem csReq_ne (n : j ≠ k) : csReq j ≠ csReq k := fun e => n (by
  have := congrArg Fin.val e; simp only [csReq] at this; exact Fin.ext (by omega))

theorem CompSpares.requestBank {b} (h : CompSpares k s0 s) (n : j ≠ k) : CompSpares k s0 (requestBank (csReq j) b s).1 := by
  unfold Machine.requestBank
  split
  · exact h
  · split
    · exact h.step (g := fun c m => by
        simp only [setHolder_holderOf]; split
        · simpa using csReq_ne n
        · exact m)
    · exact h.step

/-! ### The other compressor -/

@[simp] theorem CompSpares.setTarget {b} (h : CompSpares k s0 s) (n : j ≠ k) : CompSpares k s0 (setTarget j b s) := by
  unfold Machine.setTarget; dsimp only
  split
  · exact h
  · exact CompSpares.inbox (h.modComp n)
@[simp] theorem CompSpares.enterStarting {b} (h : CompSpares k s0 s) (n : j ≠ k) : CompSpares k s0 (enterStarting j b s) := by
  unfold Machine.enterStarting; simp (maxDischargeDepth := 40) [h, n]
@[simp] theorem CompSpares.evalNeed (h : CompSpares k s0 s) (n : j ≠ k) : CompSpares k s0 (evalNeed j s) := by
  unfold Machine.evalNeed
  split <;> simp (maxDischargeDepth := 40) [h, n]
@[simp] theorem CompSpares.letGoOfTarget {b} (h : CompSpares k s0 s) : CompSpares k s0 (letGoOfTarget j b s) := by
  unfold Machine.letGoOfTarget
  split <;> simp [h]
@[simp] theorem CompSpares.enterStopping (h : CompSpares k s0 s) (n : j ≠ k) : CompSpares k s0 (enterStopping j s) := by
  unfold Machine.enterStopping; simp (maxDischargeDepth := 40) [h, n]
@[simp] theorem CompSpares.becomeIdle (h : CompSpares k s0 s) (n : j ≠ k) : CompSpares k s0 (becomeIdle j s) := by
  unfold Machine.becomeIdle; simp (maxDischargeDepth := 40) [h, n]
@[simp] theorem CompSpares.requestTarget {m b} (h : CompSpares k s0 s) (n : j ≠ k) :
    CompSpares k s0 (requestTarget m j b s) := by
  induction m generalizing s b with
  | zero => exact h.becomeIdle n
  | succ m ih =>
    unfold Machine.requestTarget; dsimp only
    have r := h.requestBank (b := b) n
    split
    · exact r.setCompState n
    · exact r.modComp n
    · split
      · exact ih (r.setTarget n)
      · exact r.becomeIdle n
@[simp] theorem CompSpares.seek {e} (h : CompSpares k s0 s) (n : j ≠ k) : CompSpares k s0 (seek j e s) := by
  unfold Machine.seek
  split <;> simp (maxDischargeDepth := 40) [h, n]
@[simp] theorem CompSpares.csNotice (h : CompSpares k s0 s) (n : j ≠ k) : CompSpares k s0 (csNotice j s) := by
  unfold Machine.csNotice recheckStarting recheckRecirc seekIdle
  split <;> (try split) <;> (try split) <;> simp (maxDischargeDepth := 40) [h, n]

/-! ### The notices after an event -/

/-- A property of a compressor that its own notices keep, and that the running of others does not see, is kept by all the notices
of an event. -/
theorem settle_keeps (P : State → Prop) (own : ∀ u, P u → P (csNotice k u))
    (others : ∀ u v, P u → CompSpares k u v → P v) (quiet : ∀ u, P u → ∀ b, (u.comp k).waitsFor b = false) (h : P s) :
    P (settle s) := by
  have one : ∀ (c : CsNotice) (u : State), P u → P (csNotice c.unit u) := fun c u p => by
    by_cases e : c.unit = k
    · rw [e]; exact own u p
    · exact others u _ p ((CompSpares.refl (quiet u p)).csNotice e)
  have box : ∀ (l : List CsNotice) (u : State), P u → P { u with csInbox := l } := fun l u p =>
    others u _ p ((CompSpares.refl (quiet u p)).inbox)
  have all : ∀ (m : Nat) (u : State), P u → P (settleFor m u) := by
    intro m
    induction m with
    | zero => exact fun u p => p
    | succ m ih =>
      intro u p
      unfold settleFor; dsimp only
      split
      · exact p
      · exact ih _ (one _ _ (box _ _ p))
      · exact ih _ (one _ _ (box _ _ (others u _ p ((CompSpares.refl (quiet u p)).order))))
  exact all 64 s h

/-- A compressor in a state that takes no notice is as it was, and is granted nothing. -/
theorem settle_deaf (d : (s.comp k).state = .disabled ∨ (s.comp k).state = .filling ∨ (s.comp k).state = .stopping ∨
    (s.comp k).state = .tripped) : CompSpares k s (settle s) := by
  have q : ∀ u : State, u.comp k = s.comp k → ∀ b, (u.comp k).waitsFor b = false := fun u e b => by
    rw [e]; unfold Compressor.waitsFor; rcases d with d | d | d | d <;> rw [d] <;> rfl
  refine settle_keeps (k := k) (P := fun u => CompSpares k s u) (fun u p => ?_) (fun u v p m => p.trans m)
    (fun u p => q u p.comp) (CompSpares.refl (q s rfl))
  have e : (u.comp k).state = (s.comp k).state := by rw [p.comp]
  unfold csNotice; rcases d with d | d | d | d <;> rw [e, d] <;> exact p

/-- A compressor in OFF or START_DEFERRED whose minimum-off timer runs stays there (R62, R64). -/
theorem settle_resting (o : (s.comp k).state = .off ∨ (s.comp k).state = .startDeferred) (m : (s.comp k).minOff ≠ none) :
    (settle s).comp k = { s.comp k with state := .off } ∨ (settle s).comp k = { s.comp k with state := .startDeferred } := by
  refine settle_keeps (k := k) (s := s)
    (P := fun u => u.comp k = { s.comp k with state := .off } ∨ u.comp k = { s.comp k with state := .startDeferred })
    (fun u p => ?_) (fun u v p c => by rw [c.comp]; exact p) (fun u p b => ?_) ?_
  · have np : u.permitted k = false := by
      unfold State.permitted; rcases p with p | p <;> rw [p] <;> simp [m]
    have sc : ∀ st, (setCompState k st u).comp k = { u.comp k with state := st } := fun st => by
      unfold setCompState postIf; split <;> simp
    unfold csNotice
    rcases p with p | p <;> (have e := congrArg Compressor.state p) <;> simp only at e <;> rw [e] <;>
      (try dsimp only) <;> unfold evalNeed <;> rw [e] <;> split <;> (try simp only [np, Bool.false_eq_true, if_false, sc]) <;>
      (try rw [p]) <;> simp_all
  · unfold Compressor.waitsFor; rcases p with p | p <;> rw [p] <;> rfl
  · rcases o with o | o
    · left; rw [← o]
    · right; rw [← o]

end Sys2Proof.Machine
end

