-- ==== Sys2Proof/Tests/Slice0.lean ====
section
/-!
SUPPORT. Tests of the model. test_<what> takes its expected values from the worked cases of the spec, or from a layout written
out by hand from section 12.4; witness_<Obligation> shows states and operands that meet the hypotheses of a statement, clause
by clause, at the ends of their ranges.
-/
open Sys2Proof Sys2Proof.Machine

namespace Sys2Proof.Tests

set_option Elab.async false

/-! ### Helpers -/

/-- The state after a command. -/
def after (c : Instr) (s : State) : State :=
  match exec c s with
  | .next t => t
  | _ => s

/-- The answer to a request. -/
def answerOf (c : Instr) (s : State) : Option Answer := (after c s).sli.answer

/-- The four corners of the worked lookup of section 2.2; every row loaded, no row above a colder one. -/
def workedTable : Vector DensityRow 17 :=
  let row := fun a b => ({ entries := upd (upd (Vector.replicate 19 0) 10 a) 11 b, loaded := true } : DensityRow)
  Vector.ofFn (fun j => if j.val ≤ 8 then row 3200 3450 else if j.val = 9 then row 3115 3364 else row 0 0)

def params : SiteFields :=
  { limitH70 := 87500, limitH35 := 43750, fullH70 := 4024, fullH35 := 2400, minStartH70 := 500, minStartH35 := 10000,
    segment := 50, upperBand := 700, overshootBand := 3500, stepDiff := 2000, stepFlow := 5, stepDwell := 20,
    bankWait := 100, linkAcquisition := 50, linkLoss := 10, plausMargin := 5000, leakPulse := 20, leakHold := 50,
    leakLimit := 500, settleWindow := 30, ventPressure := 500, ventTimeout := 100, supplyMin := 2000 }

def precool : PrecoolFields :=
  { cs := 800, setpoint := 2230, differential := 20, waitLimit := 600,
    t40 := { ceiling := 2280, q := 1150, window := 2330, grace := 100 },
    t30 := { ceiling := 2400, q := 900, window := 2430, grace := 100 },
    t20 := { ceiling := 2500, q := 700, window := 2530, grace := 100 } }

/-- Bank entry and live state: usable, at 66,400 kPa. -/
def bank1 : Bank :=
  { Bank.reset with
    entry := { valid := true, volume := 2000, rated := 90000, floor := 12000, refillOn := 70000, refillOff := 88000,
               drawPermit := true, fillPermit := true, priority := 1 }
    pressure := 66400, pressureGood := true, temperature := 3010, temperatureGood := true }

def compEntry : CompressorFields :=
  { maxDischarge := 95000, startTime := 100, runDown := 80, minRun := 600, minOff := 300, startLimit := 3,
    dischargeLimit := 4000, priority := 5 }

def fpEntry : FpEntry :=
  { pressureClass := .h70, allowed := [.t40, .t30], cascade := [1, 4], category := .s, defaultEstimate := 2000,
    maxMass := 120000, commRequired := false, autoStart := false, authTimeout := 1200, maxFillTime := 3000, priority := 1,
    mgPerPulse := 20, maxPulseRate := 2000, creepLimit := 50, defaultSoc := 980 }

/-- An OPERATING, OPEN site with FP0, K0, B1 and B4 in use; nothing runs. -/
def base : State :=
  { State.reset with
    density := workedTable
    banks := upd (upd (Vector.replicate 8 Bank.reset) 1 bank1) 4 { bank1 with pressure := 85600 }
    cs := upd (Vector.replicate 2 Compressor.reset) 0
      { Compressor.reset with entry := compEntry, loaded := true, state := .off, discharge := 3100, dischargeGood := true,
                              supply := 5000, supplyGood := true }
    pcm := { Pcm.reset with entry := precool, loaded := true, chiller := .running, tcs := 2230, tcsGood := true, band := .a3 }
    ramp := Vector.replicate 120 { rate := 24000, endPressure := 70000, loaded := true }
    fps := upd (Vector.replicate 4 Fps.reset) 0
      { Fps.reset with entry := fpEntry, loaded := true, nozzle := 52300, nozzleGood := true, gas := 2300, gasGood := true,
                       band := .a3 }
    cqr := { Cqr.reset with write := none, lost := false }
    site := { Site.reset with state := .operating, forecourtOpen := true, commissioned := true, params := params,
                              paramsLoaded := true, clock := 30000, calendar := 86400, calendarSet := true }
    sli := { Sli.reset with summary := 0 } }

/-- `base` with the site, fuelling point 0, its receiver, its meter, compressor 0, bank 1 or the queue changed. -/
def siteAt (f : Site → Site) : State := modSite f base
def fpAt (f : Fps → Fps) : State := modFp 0 f base
def linkAt (f : Vlr → Vlr) : State := modLink 0 f base
def compAt (f : Compressor → Compressor) : State := modComp 0 f base
def bankAt (f : Bank → Bank) : State := modBank 1 f base

/-- A line of this function for unit 0, at effective level 1. -/
def asserted (fn : LineFn) (mode : DetectMode := .level) : InLine :=
  { InLine.reset true with fn := fn, mode := mode }

/-- The nozzle of FP0 in the vehicle. -/
def connected (s : State) : State := modLine 31 (fun _ => asserted .nozzleConnect) s

/-- An open transaction at 1,395 with a draw on B1. -/
def txn : Txn :=
  { openTxn Auth.empty 86400 with price := 1395, mass := 700000, draw := [{ bank := 1, mass := 700000, openP := 70000, closeP := none }] }

/-- FP0 in FILLING and FLOW on B1, at ramp clock 300 with 700 g sold. -/
def flowing : State :=
  connected (modMeter 0 (fun m => { m with auth := { Auth.empty with state := .inUse, price := 1395 }, txn := some txn, window := true })
    (modReservation 0 (fun r => { r with state := .admitted, estimate := 976, category := some .s, cls := some .t40, band := some .a3, g := 1123, c := 805 })
      (modLink 0 (fun v => { v with state := .up, volume := some 140, receptacle := some .h70, loss := some 10 })
        (setHolder 1 (some 0)
          (fpAt (fun f => { f with
            fill := .filling, sub := some .flow, mode := .communication, category := some .s, admClass := some .t40,
            admBand := some .a3, cascadePos := some 1, link := .granted, p0 := some 52300, pstart := 52300, clock := 300,
            maxFill := some 2700
            active := some { cls := .t40, band := .a3, category := .s, rate := 24000, endPressure := 70000 } }))))))

/-- `flowing` with the fill state, timers or ramp changed. -/
def flowingAt (f : Fps → Fps) : State := modFp 0 f flowing

/-! ### Worked cases of chapter 2 -/

/-- Section 2.2: the lookup inside the table, and one clamped on both inputs. -/
theorem test_lookup : base.lookup 52300 3010 = { density := 3247, indication := .normal } ∧
    (base.lookup 93500 2080).indication = .clamped ∧ (base.lookup 90000 3730).indication = .normal ∧
    (State.reset.lookup 52300 3010) = { density := 0, indication := .noTable } := by decide +kernel

/-- Section 2.3: SOC, tank mass, target density and mass, and the estimate without and with a preset. -/
theorem test_estimate : socRaw 3247 4024 = 807 ∧ massOf 3247 140 = 4546 ∧ targetDensity 4024 980 = 3944 ∧
    targetMass 4024 980 140 = 5522 ∧ baseEstimate 4024 980 140 4546 = 976 ∧
    estimateOf 976 .noPreset 0 120000 = 976 ∧ estimateOf 976 .mass 800500 120000 = 801 := by decide +kernel

/-- Section 2.4: available cold, the reservation, consumption at two masses, the swap to T30 and consumption after it. -/
theorem test_cold :
    base.avail .t40 = 4000 ∧ reservationFor 976 1150 = 1123 ∧
    (let r := { Reservation.empty with state := .admitted, estimate := 976, cls := some .t40, g := 1123 }
     consumed r 1150 500000 = 575 ∧ consumed r 1150 700000 = 805 ∧
     (let w := swapRecord { r with c := 805 } .t30 900 700000
      w.g = 1054 ∧ w.outstanding = 249 ∧ consumed w 900 900000 = 985)) := by decide +kernel

/-- Sections 2.5 and 2.6: ramp targets with the cap and the floor, and amounts with an exact half. -/
theorem test_ramp_and_amount : rampTarget 52300 24000 300 87500 = 64300 ∧ rampTarget 52300 24000 880 87500 = 87500 ∧
    rampTarget 52300 24000 1000 87500 = 87500 ∧ rampTarget 0 7000 7 87500 = 81 ∧ amountOf 1003620 1395 = 1400 ∧
    amountOf 500000 1001 = 501 ∧ amountOf 1433320 1395 = 1999 ∧ amountOf 1433340 1395 = 2000 ∧ amountOf 1435040 1395 = 2002 := by
  decide +kernel

/-! ### Bytes, checks and frames (8.1, 10.4, 12.1, 12.7) -/

/-- CRC-16 of R143 on its usual check string. -/
theorem test_crc : crc16 [0x31#8, 0x32#8, 0x33#8, 0x34#8, 0x35#8, 0x36#8, 0x37#8, 0x38#8, 0x39#8] = 0x29B1#16 := by
  decide +kernel

/-- The check of the empty retained image that a power-on reset writes is the CRC of its bytes. -/
theorem test_empty_image_check : crc16 RetainedImage.empty.bytes = 0x260A#16 := by
  have a : (List.replicate 20 0#8).foldl crcByte 0xFFFF#16 = 63160#16 := by decide +kernel
  have b : (List.replicate 20 0#8).foldl crcByte 63160#16 = 34265#16 := by decide +kernel
  have c : (List.replicate 20 0#8).foldl crcByte 34265#16 = 42053#16 := by decide +kernel
  have d : (List.replicate 20 0#8).foldl crcByte 42053#16 = 15845#16 := by decide +kernel
  have e : RetainedImage.empty.bytes = List.replicate 20 0#8 ++ (List.replicate 20 0#8 ++ (List.replicate 20 0#8 ++
      (List.replicate 20 0#8 ++ [0#8, 0#8, 0#8, 1#8, 0#8]))) := by decide +kernel
  rw [crc16, e, List.foldl_append, a, List.foldl_append, b, List.foldl_append, c, List.foldl_append, d]
  decide +kernel

/-- Section 12.7 step 8: the payload of the refusal. -/
theorem test_refusal_frame :
    (replyFrame { tag := 0x14#8, unit := 0x00#8, kind := 0x08#8 } (.refused .mismatch)).take 8 =
      [0xA5#8, 0x00#8, 0x04#8, 0xFF#8, 0x14#8, 0x00#8, 0x08#8, 9#8] := by decide +kernel

/-- Requests written out by hand from section 12.4: their fields fall where the catalogue puts them. -/
theorem test_decode_by_hand :
    decodeRequest 0x08 [0x13#8, 0#8, 0#8, 0#8, 0#8, 56#8] = .ok (.removeCompletion 56) ∧
    decodeRequest 0x22 [1#8, 0#8, 2#8, 1#8, 3#8, 0#8, 0x5D#8, 0xC0#8, 0x00#8, 0x01#8, 0x11#8, 0x70#8] =
      .ok (.loadRampEntry { precoolClass := 2, pressureClass := 1, band := 3, category := 0, rate := 24000, endPressure := 70000 }) ∧
    decodeRequest 0x28 [1#8, 5#8, 6#8, 2#8, 1#8, 0#8] =
      .ok (.loadInput 5 { function := 6, target := 2, polarity := 1, mode := 0 }) ∧
    decodeRequest 0x29 [1#8, 0#8, 2#8, 48#8, 7#8, 57#8, 255#8] = .ok (.loadValveMap [(48, 7), (57, 255)]) ∧
    decodeRequest 0x2A [1#8, 7#8, 2#8, 3#8, 1#8] = .ok (.loadEventOutput 7 2 3 1) := by decide +kernel

theorem test_decode_commands_by_hand :
    decodeRequest 0x30 [1#8, 0#8, 1#8, 0#8, 0#8, 0x05#8, 0x8C#8, 0#8, 1#8, 0x52#8, 0xAC#8] = .ok (.setPrice 1 1420 86700) ∧
    decodeRequest 0x40 [1#8, 0#8, 7#8] = .ok .resume ∧ decodeRequest 0x40 [1#8, 0#8, 9#8] = .error .badField ∧
    decodeRequest 0x41 [1#8, 1#8, 2#8, 0#8, 0#8, 0x07#8, 0xD0#8, 1#8, 0x04#8, 0x1A#8] = .ok (.authorize 1 2 2000 1 1050) ∧
    decodeRequest 0x43 [1#8, 3#8, 5#8] = .ok (.fpReset 3) ∧ decodeRequest 0x44 [1#8, 6#8, 0#8] = .ok (.bankClearFault 6) ∧
    decodeRequest 0x45 [1#8, 1#8, 2#8] = .ok (.compressorClearTrip 1) ∧ decodeRequest 0x46 [1#8, 0#8, 1#8] = .ok .chillerDisable ∧
    decodeRequest 0x47 [1#8, 63#8, 2#8] = .ok (.valveMode 63 2) ∧ decodeRequest 0x48 [1#8, 2#8] = .ok (.clearCreep 2) := by
  decide +kernel

/-- The body of LOAD_FP as R205 lays it out: the bank bytes after the count are ignored. -/
theorem test_decode_load_fp : fpBody [1#8, 5#8, 2#8, 6#8, 1#8, 9#8, 9#8, 9#8, 9#8, 9#8, 9#8, 2#8, 0#8, 0#8, 0x07#8, 0xD0#8,
      0#8, 1#8, 0xD4#8, 0xC0#8, 1#8, 0#8, 0x04#8, 0xB0#8, 0x0B#8, 0xB8#8, 3#8, 0#8, 20#8, 0x07#8, 0xD0#8, 0#8, 0#8, 0#8, 50#8,
      0x03#8, 0xD4#8] =
    { pressureClass := 1, allowed := 5, cascade := [6, 1], category := 2, defaultEstimate := 2000, maxMass := 120000,
      commRequired := 1, autoStart := 0, authTimeout := 1200, maxFillTime := 3000, priority := 3, mgPerPulse := 20,
      maxPulseRate := 2000, creepLimit := 50, defaultSoc := 980 } := by decide +kernel

/-- The reply lengths the catalogue gives: a record of two draw-list entries is 63 bytes (12.7). -/
theorem test_record_length : (∀ r : Record, r ∈ [({ number := 57, fp := 2, reason := .targetSoc, flags := (openTxn Auth.empty 0).flags, price := 1395, mass := 1003620, amount := 1400, startTime := 0, endTime := 0, p0 := some 52300, finalSoc := some 980, startClass := some .t40, finalClass := some .t40, draw := [{ bank := 2, mass := 412300, openP := 1, closeP := some 1 }, { bank := 4, mass := 591320, openP := 1, closeP := some 1 }] } : Record)] →
    r.bytes.length = 63) := by decide +kernel

/-! ### Well-formedness: an ill-formed term for each check -/

theorem test_illformed_units : (Instr.readFp 256).wf = false ∧ (Instr.readCompressor 256).wf = false ∧
    (Instr.readChannel 256).wf = false ∧ (Instr.removeCompletion 4294967296).wf = false ∧
    (Instr.loadEventOutput 0 0 256 0).wf = false ∧ (Instr.setPrice 0 4294967296 0).wf = false ∧
    (Instr.setTime 4294967296).wf = false ∧ (Instr.authorize 0 0 0 0 65536).wf = false ∧ (Instr.cancelAuth 256).wf = false ∧
    (Instr.fpStart 256).wf = false ∧ (Instr.fpStop 256).wf = false ∧ (Instr.fpHold 256).wf = false ∧
    (Instr.fpReleaseHold 256).wf = false ∧ (Instr.fpClearFault 256).wf = false ∧ (Instr.fpReset 256).wf = false ∧
    (Instr.bankClearFault 256).wf = false ∧ (Instr.compressorEnable 256).wf = false ∧
    (Instr.compressorDisable 256).wf = false ∧ (Instr.compressorClearTrip 256).wf = false ∧
    (Instr.valveMode 0 256).wf = false ∧ (Instr.clearCreep 256).wf = false := by decide +kernel

theorem test_illformed_loads : (Instr.loadSite { params with supplyMin := 4294967296 }).wf = false ∧
    (Instr.loadDensityRow 0 (List.replicate 18 0)).wf = false ∧ (Instr.loadDensityRow 0 (List.replicate 19 65536)).wf = false ∧
    (Instr.loadRampEntry { precoolClass := 0, pressureClass := 0, band := 0, category := 0, rate := 65536, endPressure := 0 }).wf = false ∧
    (Instr.loadPrecool { precool with t20 := { precool.t20 with grace := 65536 } }).wf = false ∧
    (Instr.loadBank 0 { valid := 256, volume := 0, rated := 0, floor := 0, refillOn := 0, refillOff := 0, drawPermit := 0, fillPermit := 0, priority := 0 }).wf = false ∧
    (Instr.loadCompressor 0 { compEntry with startLimit := 256 }).wf = false ∧
    (Instr.loadFp 0 { pressureClass := 0, allowed := 0, cascade := [256], category := 0, defaultEstimate := 0, maxMass := 0, commRequired := 0, autoStart := 0, authTimeout := 0, maxFillTime := 0, priority := 0, mgPerPulse := 0, maxPulseRate := 0, creepLimit := 0, defaultSoc := 0 }).wf = false ∧
    (Instr.loadChannel 0 { binding := 0, index := 0, scaleLow := 0, scaleHigh := 4294967296, plausLow := 0, plausHigh := 0 }).wf = false ∧
    (Instr.loadInput 0 { function := 0, target := 256, polarity := 0, mode := 0 }).wf = false ∧
    (Instr.loadValveMap [(0, 256)]).wf = false ∧ (Instr.loadValveMap []).listsFit = false := by decide +kernel

/-! ### Worked sequences -/

/-- Section 1.1, the bank pressure channel through a fault: value, status, count after each of the eight samples' kinds, and the
staleness expiry that keeps the count. -/
theorem test_channel_sequence :
    let s0 := modChan 12 (fun c => { c with binding := .bankP 3, scaleHigh := 100000, plausLow := 500, plausHigh := 95000, value := 41200, status := .good }) base
    let good := fun (raw : BitVec 16) (s : State) => after (.sampleArrival 12 raw) s
    let shows := fun (s : State) => ((s.chan 12).value, (s.chan 12).status, (s.chan 12).failCount)
    let s1 := good 26987 s0
    let s3 := good 0 (good 0 s1)
    let s6 := good 0 (good 0 s3)
    shows s1 = (41180, .good, 0) ∧ shows s3 = (41180, .good, 2) ∧ shows s6 = (41180, .failed, 3) ∧
    shows (after (.stalenessExpiry 12) (modChan 12 (fun c => { c with staleTimer := some 0 }) s6)) = (41180, .stale, 3) ∧
    s6.sli.summary.getLsbD 11 = true := by decide +kernel

/-- Section 1.3, the views of a nozzle: HOLSTERED, LIFTED, CONNECTED. -/
theorem test_nozzle_views :
    let holster := fun (b c : Bool) => modLine 4 (fun _ => { asserted .nozzleHolster with target := 1, filtered := b })
      (modLine 5 (fun _ => { asserted .nozzleConnect with target := 1, filtered := c }) base)
    (holster true false).nozzleCondition 1 = .holstered ∧ (holster false false).nozzleCondition 1 = .lifted ∧
    (holster false true).nozzleCondition 1 = .connected ∧ (holster true true).nozzleCondition 1 = .lifted := by decide +kernel

/-- Section 3.7, the contention for B6: the car wins the competition by its priority, the compressor is left stacked. -/
theorem test_contention :
    let wants := fun (i : FpId) (p : Nat) => modFp i (fun f => { f with entry := { fpEntry with priority := p }, fill := .filling, sub := some .bankWait, cascadePos := some 6, link := .stacked })
    let s0 := modComp 1 (fun c => { c with entry := compEntry, state := .recirc, target := some 6 })
      (wants 0 1 (wants 1 1 (setHolder 6 (some 3) (modBank 6 (fun _ => bank1) base))))
    let s3 := (requestBank 0 6 (requestBank 5 6 s0).1).1
    let s4 := releaseBank 3 6 s3
    let s5 := (requestBank 1 6 s4).1
    let s6a := releaseBank 0 6 s5
    let s7b := releaseBank 0 6 (withdrawBank 1 6 s5)
    (s3.holderOf 6, s3.stackedAt 6) = (some 3, [0, 5]) ∧ (s4.holderOf 6, s4.stackedAt 6) = (some 0, [5]) ∧
    (s5.holderOf 6, s5.stackedAt 6) = (some 0, [1, 5]) ∧ (s6a.holderOf 6, s6a.stackedAt 6) = (some 1, [5]) ∧
    (s7b.holderOf 6, s7b.stackedAt 6) = (some 5, []) := by decide +kernel

/-- Section 3.8, step 2: at the rated pressure the compressor loses the bank, the latch is set, the fuelling point is granted. -/
theorem test_protection_trip :
    let s := modFp 2 (fun f => { f with entry := fpEntry, fill := .filling, sub := some .bankWait, cascadePos := some 1, link := .stacked })
      (modComp 0 (fun c => { c with state := .filling, target := some 1 })
        (setHolder 1 (some 4) (setStacked 1 [2] { bankAt (fun b => { b with entry := { b.entry with rated := 45000, refillOn := 38000, refillOff := 44000 }, pressure := 43200 }) with refill := [1] })))
    let t := bankPressureSample 1 45300 s
    (t.bank 1).protect = true ∧ (t.bank 1).reload = false ∧ t.refill = [] ∧ t.holderOf 1 = some 2 ∧ t.stackedAt 1 = [] ∧
    t.sli.summary.getLsbD 6 = true := by decide +kernel

/-- Section 7.9: the pause at 60,350, the flow again at 59,800, and the step to B4 at 64,500. -/
theorem test_ramp_and_step :
    let at_ := fun (c : Nat) (s : State) => modFp 0 (fun f => { f with clock := c }) s
    let s1 := nozzleSample 0 60350 (at_ 180 flowing)
    let s2 := nozzleSample 0 59800 (at_ 190 s1)
    let s3 := nozzleSample 0 64500 (at_ 300 s2)
    (s1.fp 0).sub = some .rampPause ∧ (s2.fp 0).sub = some .flow ∧ s2.holderOf 1 = some 0 ∧
    (s3.fp 0).sub = some .flow ∧ s3.holderOf 1 = none ∧ s3.holderOf 4 = some 0 ∧ (s3.fp 0).cascadePos = some 4 ∧
    ((s3.meter 0).txn.map (fun x => x.draw.map (fun e => (e.bank, e.closeP)))) = some [(1, some 66400), (4, none)] := by
  decide +kernel

/-- Section 7.9 at 30,490: the swap to T30 rebases the ramp, records the class, and lowers the reservation to 249 kJ. -/
theorem test_swap :
    let t := after (.segmentBoundary 0) (flowingAt (fun f => { f with clock := 448, segment := 50, nozzle := 70010, switchPending := true, pendingEntry := some { cls := .t30, band := .a4, category := .s, rate := 12000, endPressure := 70000 } }))
    (t.fp 0).pstart = 70010 ∧ (t.fp 0).clock = 0 ∧ (t.reservation 0).g = 1054 ∧ (t.reservation 0).outstanding = 249 ∧
    ((t.meter 0).txn.map (fun x => (x.finalClass, x.flags.downgraded))) = some (some .t30, true) := by decide +kernel

/-- Section 8.8: the implausibility count of the first three valid frames. -/
theorem test_implausibility : implausAfter 0 true 30200 36100 5000 = 1 ∧ implausAfter 1 true 30400 36300 5000 = 2 ∧
    implausAfter 2 true 31600 36200 5000 = 0 := by decide +kernel

/-- Section 9.8: AUTHORIZE with preset AMOUNT 2,000 and a SOC target of 1,050 clamped to 1,000; START opens the sale. -/
theorem test_authorize_and_start :
    let s := after (.authorize 0 2 2000 1 1050) (connected { base with cqr := { base.cqr with slots := 3 }, prices := Vector.replicate 2 { active := 1395, pending := none } })
    let a := (s.meter 0).auth
    a.state = .pending ∧ a.kind = .amount ∧ (a.value, a.soc, a.price) = (2000, some 1000, 1395) ∧ a.clampSoc = true ∧
    a.timer = some 1200 ∧
    s.cqr.slots = 4 ∧
    ((after (.fpStart 0) s).fp 0).fill = .linkWait ∧ ((after (.fpStart 0) s).meter 0).auth.state = .inUse := by decide +kernel

/-- Section 9.8: pulses count to the open draw entry; a pulse outside the window is creep. -/
theorem test_pulses :
    let t := pulseToTxn 0 20 flowing
    ((t.meter 0).txn.map (fun x => (x.mass, x.amount, x.draw.map (·.mass)))) = some (700020, 977, [700020]) ∧
    ((after (.meterPulse 0) base).meter 0).creep = 20 := by decide +kernel

/-- Section 10.7: a removal takes the head alone, and the record number wraps to 1. -/
theorem test_removal_and_wrap :
    nextNumber 4294967295 = 1 ∧ nextNumber 43 = 44 ∧
    (answerOf (.removeCompletion 41) base = some (.refused .mismatch)) := by decide +kernel

/-- The station link: a whole frame byte by byte; the request is dispatched, and a second start byte's run is counted once. -/
theorem test_link_bytes :
    let bytes := frame 0x09#8 [0x21#8, 0#8]
    let s := bytes.foldl (fun s b => after (.linkByteReceived b) s) base
    s.sli.rx = .held ∧ s.sli.dispatched = some .readTotals ∧ s.sli.errors = 0 ∧
    (after (.linkByteReceived 0#8) (after (.linkByteReceived 1#8) s)).sli.errors = 1 := by decide +kernel

/-- The site: RESUME of SHUTDOWN is refused while the ESD line stands, and every valve line is driven closed. -/
theorem test_shutdown :
    let s := modLine 0 (fun _ => asserted .esd) (siteAt (fun r => { r with state := .shutdown, cause := .esd }))
    s.drive 13 = .drivenClosed ∧ answerOf .resume s = some (.refused .badState) ∧ s.holds .shutdown = true := by decide +kernel

/-! ### Witnesses: the step, the link, reads (chapter 12) -/

theorem witness_StepTakesFrontCommand : ({ base with pending := [.readStatus, .linkGap] } : State).pending = .readStatus :: [.linkGap] :=
  rfl

/-- Each case of an empty queue: nothing due with a timer at 1, an event due with that timer at 0, and a reply that has not
begun. -/
theorem witness_EmptyQueueLetsTimePass :
    (modChan 47 (fun c => { c with staleTimer := some 1 }) base).pending = [] ∧
    (modChan 47 (fun c => { c with staleTimer := some 1 }) base).dueCommands = [] ∧
    (modChan 47 (fun c => { c with staleTimer := some 0 }) base).dueCommands = [.stalenessExpiry 47] ∧ base.sli.rx ≠ .held ∧
    (let s := modSli (fun l => { l with rx := .held }) base
     s.pending = [] ∧ s.dueCommands = [] ∧ s.sli.rx = .held ∧ s.sli.awaiting = none ∧ s.sli.driving = false) := by decide +kernel

/-- A request that waits for its reply. -/
theorem witness_EveryRequestIsAnsweredOnce :
    let h : Header := { tag := 0x21#8, unit := 0#8, kind := 0x09#8 }
    (encodeRequest 0 .readTotals).isSome = true ∧
    (modSli (fun l => { l with awaiting := some (h, .readTotals) }) base).sli.awaiting = some (h, .readTotals) := by decide +kernel

/-- A request that is refused: OPEN in SHUTDOWN. -/
theorem witness_RefusalChangesNothing : ∃ t, (encodeRequest 0 .openForecourt).isSome = true ∧
    exec .openForecourt (siteAt (fun r => { r with state := .shutdown, cause := .host })) = .next t ∧
    t.sli.answer = some (.refused .badState) :=
  ⟨_, by decide +kernel, rfl, by decide +kernel⟩

/-- Requests at the ends of their fields: one pair and 58 pairs, eight banks, the largest numbers. -/
theorem witness_RequestsDecodeToThemselves :
    (∀ c ∈ [Instr.loadValveMap [(0, 0)], .loadValveMap (List.replicate 58 (57, 255)), .setTime 4294967295, .readFp 255,
        .loadFp 255 { pressureClass := 1, allowed := 15, cascade := [0, 1, 2, 3, 4, 5, 6, 7], category := 2, defaultEstimate := 4294967295, maxMass := 120000, commRequired := 1, autoStart := 255, authTimeout := 65535, maxFillTime := 36000, priority := 7, mgPerPulse := 10000, maxPulseRate := 5000, creepLimit := 1000, defaultSoc := 1000 }],
      c.wf = true ∧ c.listsFit = true ∧ (encodeRequest 0xFF#8 c).isSome = true) := by decide +kernel

/-- Kinds just outside the catalogue, bodies one byte short and one long, pair counts of 0, 1, 58 and 59, and the first command
code past each list. -/
theorem witness_BadFramesAreRefused :
    (∀ k ∈ [0x00, 0x0A, 0x1F, 0x2B, 0x2F, 0x32, 0x3F, 0x49, 0x80, 0xFF], k ≠ 0x29 ∧ bodyLength k = none) ∧
    bodyLength 0x08 = some 4 ∧ ((List.replicate 5 0#8).length ≠ 2 + 4 ∧ (List.replicate 7 0#8).length ≠ 2 + 4) ∧
    [1#8, 0#8].length < 3 ∧ num [1#8, 0#8, 0#8] 2 1 = 0 ∧ 58 < num [1#8, 0#8, 59#8] 2 1 ∧
    (3 ≤ [1#8, 0#8, 58#8].length ∧ 1 ≤ num [1#8, 0#8, 58#8] 2 1 ∧ num [1#8, 0#8, 58#8] 2 1 ≤ 58 ∧
      [1#8, 0#8, 58#8].length ≠ 3 + 2 * num [1#8, 0#8, 58#8] 2 1) ∧
    num [1#8, 0#8, 1#8, 4#8] 2 1 = 1 ∧
    (∀ k ∈ [9#8, 6#8, 1#8, 3#8], [1#8, 0#8, k].length = 3 ∧ num [1#8, 0#8, k] 2 1 = k.toNat) := by decide +kernel

/-- The receiver in each state, its reply not begun, being driven and not formed; lengths of 1,024 and 1,025; a frame that is not
whole yet. -/
theorem witness_ReceiverMoves :
    let rx := fun (r : RxState) (b : List Byte) => modSli (fun l => { l with rx := r, buffer := b }) base
    (rx .hunt []).sli.rx = .hunt ∧ (rx .skip []).sli.rx = .skip ∧
    ((rx .held []).sli.rx = .held ∧ (rx .held []).sli.heldRun = false ∧ (rx .held []).sli.driving = false ∧
      (rx .held []).sli.awaiting = none) ∧
    (modSli (fun l => { l with driving := true }) (rx .held [])).sli.driving = true ∧
    (modSli (fun l => { l with awaiting := some (⟨0#8, 0#8, 9#8⟩, .readTotals) }) (rx .held [])).sli.awaiting ≠ none ∧
    (modSli (fun l => { l with heldRun := true }) (rx .held [])).sli.heldRun = true ∧
    ((rx .receive [4#8]).sli.buffer.length = 1 ∧ num ([4#8] ++ [1#8]) 0 2 = 1025 ∧ num ([4#8] ++ [0#8]) 0 2 = 1024) ∧
    ((rx .receive []).sli.buffer.length < 2) ∧
    (rx .receive [0#8, 2#8, 9#8]).sli.buffer.length + 1 ≠ num ([0#8, 2#8, 9#8] ++ [7#8]) 0 2 + 5 := by decide +kernel

/-- A whole frame of READ_TOTALS but for its last byte, which makes the check good or bad. -/
theorem witness_WholeFrameIsDispatched :
    let body := be 2 2 ++ 0x09#8 :: [0x21#8, 0#8]
    let s := modSli (fun l => { l with rx := .receive, buffer := body ++ [(crc16 body).extractLsb' 8 8] }) base
    Instr.readTotals.wf = true ∧ Instr.readTotals.listsFit = true ∧
    encodeRequest 0x21#8 .readTotals = some ((0x09#8 : Byte).toNat, [0x21#8, 0#8]) ∧ s.sli.rx = .receive ∧
    s.sli.buffer = body ++ [(crc16 body).extractLsb' 8 8] ∧
    256 * ((crc16 body).extractLsb' 8 8).toNat + ((crc16 body).extractLsb' 0 8).toNat = (crc16 body).toNat ∧
    256 * ((crc16 body).extractLsb' 8 8).toNat + ((crc16 body).extractLsb' 0 8 + 1#8).toNat ≠ (crc16 body).toNat := by
  decide +kernel

/-- Whole good frames that SLI refuses: an unknown kind without and with a header, and a body one byte short. -/
theorem witness_WholeFrameIsDispatched_refused :
    (∀ x ∈ [(0x0A#8, []), (0xFF#8, [0x21#8, 0#8]), (0x08#8, [0x21#8, 0#8, 0#8, 0#8, 0#8])],
      let body := be 2 (x : Byte × List Byte).2.length ++ x.1 :: x.2
      let s := modSli (fun l => { l with rx := .receive, buffer := body ++ [(crc16 body).extractLsb' 8 8] }) base
      x.2.length ≤ 1024 ∧ s.sli.rx = .receive ∧ s.sli.buffer = body ++ [(crc16 body).extractLsb' 8 8] ∧
      256 * ((crc16 body).extractLsb' 8 8).toNat + ((crc16 body).extractLsb' 0 8).toNat = (crc16 body).toNat) ∧
    decodeRequest 0x0A [] = .error .unknownKind ∧ decodeRequest 0xFF [0x21#8, 0#8] = .error .unknownKind ∧
    decodeRequest 0x08 [0x21#8, 0#8, 0#8, 0#8, 0#8] = .error .badLength := by decide +kernel

/-- A byte that arrives while the part drives its reply is not counted; one that arrives before the reply begins is. -/
theorem test_driven_reply_is_deaf :
    let held := modSli (fun l => { l with rx := .held }) base
    let driven := modSli (fun l => { l with driving := true }) held
    (after (.linkByteReceived 0#8) driven).sli.errors = 0 ∧ (after (.linkByteReceived 0#8) held).sli.errors = 1 := by
  decide +kernel

/-- A temperature takes 2 bytes where a pressure takes 4 (R205). -/
theorem test_temperature_takes_two_bytes :
    (channelBytes { Channel.reset with binding := .gasT 1 }).length + 2 = (channelBytes { Channel.reset with binding := .nozzleP 1 }).length := by
  decide +kernel

/-- A record of the queue, its head removed by its number, with a write in flight and without. -/
def record (n : Nat) : Record :=
  { number := n, fp := 2, reason := .targetSoc, flags := TxnFlags.clear, price := 1395, mass := 0, amount := 0, startTime := 0,
    endTime := 0, p0 := none, finalSoc := none, startClass := none, finalClass := none, draw := [] }

/-- The largest units that exist and the smallest that do not; an empty queue, and one whose head's reason is the first of the
list. -/
theorem witness_ReadsAnswerAndChangeNothing : (3 < 4 ∧ 4 ≤ 4) ∧ (1 < 2 ∧ 2 ≤ 2) ∧ (47 < 48 ∧ 48 ≤ 48) ∧ base.cqr.queue = [] ∧
    (modCqr (fun c => { c with queue := [record 56] }) base).cqr.queue = record 56 :: [] ∧ (record 56).reason = .targetSoc := by
  decide +kernel

theorem witness_RemoveCompletionTakesOnlyTheHead :
    let s := modCqr (fun c => { c with queue := [record 56, record 57], slots := 2, nextNumber := 58 }) base
    (s.cqr.queue = record 56 :: [record 57] ∧ (record 56).number = 56 ∧ (record 56).number ≠ 57 ∧ 56 ≠ 0) ∧
    base.cqr.queue = [] ∧ s.cqr.write = none ∧ (modCqr Cqr.startWrite s).cqr.write.isSome = true := by decide +kernel

/-! ### Witnesses: loads -/

theorem witness_LoadsAreRefusedInRunningSites :
    base.site.state = .operating ∧ (siteAt (fun r => { r with state := .shutdown })).site.state = .shutdown ∧
    (siteAt (fun r => { r with state := .powerdown })).site.state = .powerdown ∧ (List.replicate 19 0).length = 19 ∧
    1 ≤ [(0, 0)].length ∧ (List.replicate 58 (0, 0)).length ≤ 58 := by decide +kernel

/-- A site that takes loads. -/
def open_ : State := siteAt (fun r => { r with state := .maintenance, forecourtOpen := false })

theorem witness_takesLoads : State.reset.TakesLoads ∧ open_.TakesLoads := ⟨.inl rfl, .inr rfl⟩

/-- A set with every parameter in its range, at several ends, and one whose bands are equal. -/
theorem witness_LoadSiteReplacesTheSet : open_.TakesLoads ∧
    siteInRange { params with limitH70 := 95000, segment := 20, supplyMin := 500 } = true ∧
    siteInRange { params with upperBand := 3500, overshootBand := 3500 } = false ∧
    siteInRange { params with ventTimeout := 601 } = false := ⟨.inr rfl, by decide +kernel⟩

theorem witness_LoadDensityRowChecksOrder : open_.TakesLoads ∧ State.reset.TakesLoads ∧
    (List.replicate 19 5000).toArray.size = 19 ∧ 17 ≤ 17 ∧ 16 < 17 ∧
    (∀ i : Fin 19, open_.entryAt (16 - 1) i.val ≥ 0 ∧ open_.entryAt (7 + 1) i.val ≤ 5000) ∧
    ¬ (∀ i : Fin 19, 5000 ≤ open_.entryAt (16 - 1) i.val) :=
  ⟨.inr rfl, .inl rfl, by decide +kernel, by decide, by decide, by decide +kernel, by decide +kernel⟩

/-- Keys and figures at their ends, and one past an end for each. -/
theorem witness_LoadRampEntryReplacesOneRow : open_.TakesLoads ∧
    (3 ≤ 3 ∧ 1 ≤ 1 ∧ 4 ≤ 4 ∧ 2 ≤ 2 ∧ 60000 ≤ 60000 ∧ 100000 ≤ 100000) ∧
    (4 ≤ 4 ∧ 2 ≤ 2 ∧ 5 ≤ 5 ∧ 3 ≤ 3 ∧ 60000 < 60001 ∧ 100000 < 100001) := ⟨.inr rfl, by decide, by decide⟩

theorem witness_LoadPrecoolReplacesTheEntry : open_.TakesLoads ∧ precoolInRange precool = true ∧
    precoolInRange { precool with cs := 10000, waitLimit := 100, setpoint := 1100, differential := 50 } = true ∧
    precoolInRange { precool with cs := 99 } = false ∧ precoolInRange { precool with t30 := precool.t40 } = false :=
  ⟨.inr rfl, by decide +kernel⟩

def bankFields : BankFields :=
  { valid := 1, volume := 50, rated := 100000, floor := 0, refillOn := 1, refillOff := 100000, drawPermit := 1, fillPermit := 0, priority := 7 }

/-- Entries at the ends of their ranges and past them; a bank beyond K0's pressure needs no role, one within it does. -/
theorem witness_LoadBankReplacesTheEntry :
    (bankEntryOf bankFields).isSome = true ∧ (bankEntryOf { bankFields with priority := 8 }).isSome = false ∧
    (bankEntryOf { bankFields with refillOff := 1 }).isSome = false ∧ base.site.state ≠ .unconfigured ∧
    ((base.comp 0).loaded = true ∧ 95000 ≤ (base.comp 0).entry.maxDischarge ∧ sel base.roleMap (Role.fill 0 7).number = none) ∧
    ¬ (∃ k, (base.comp k).loaded = true ∧ 100000 ≤ (base.comp k).entry.maxDischarge) ∧
    State.reset.site.state = .unconfigured := by decide +kernel

/-- Ranges at their ends; in MAINTENANCE a map that lacks the roles, and one that has every role. -/
theorem witness_LoadCompressorReplacesTheEntry : open_.TakesLoads ∧ compressorInRange { compEntry with startLimit := 12, priority := 7 } = true ∧
    compressorInRange { compEntry with startLimit := 13 } = false ∧
    (open_.site.state = .maintenance ∧ sel open_.roleMap (Role.recirc 1).number = none) ∧
    (let m : State := { open_ with roleMap := Vector.ofFn (fun r => some (r.castLE (by decide))) }
     sel m.roleMap (Role.recirc 1).number ≠ none ∧ ∀ b, sel m.roleMap (Role.fill 1 b).number ≠ none) :=
  ⟨.inr rfl, by decide +kernel⟩

def fpFields : FpFields :=
  { pressureClass := 1, allowed := 15, cascade := [0, 1, 2, 3, 4, 5, 6, 7], category := 2, defaultEstimate := 120000, maxMass := 1000, commRequired := 1, autoStart := 1, authTimeout := 9000, maxFillTime := 300, priority := 7, mgPerPulse := 10000, maxPulseRate := 5000, creepLimit := 1, defaultSoc := 500 }

theorem witness_LoadFpReplacesTheEntry : open_.TakesLoads ∧ State.reset.TakesLoads ∧ (fpEntryOf fpFields).isSome = true ∧
    (fpEntryOf { fpFields with cascade := [] }).isSome = false ∧ (fpEntryOf { fpFields with cascade := [1, 1] }).isSome = false ∧
    (fpEntryOf { fpFields with allowed := 16 }).isSome = false ∧ (fpEntryOf { fpFields with defaultSoc := 1001 }).isSome = false ∧
    sel open_.roleMap (Role.shutoff 3).number = none := ⟨.inr rfl, .inl rfl, by decide +kernel⟩

/-- A pressure and a temperature channel at the ends of their scales, one past them, a binding that is taken, and a GOOD
channel whose consumer is told. -/
theorem witness_LoadChannelRestartsTheChannel : open_.TakesLoads ∧
    bindingOf 2 7 = some (.bankP 7) ∧ bindingOf 6 2 = none ∧ bindingOf 9 0 = none ∧ bindingOf 8 255 = some .unused ∧
    scaleInRange (.bankP 7) { binding := 2, index := 7, scaleLow := 0, scaleHigh := 100000, plausLow := 0, plausHigh := 100000 } = true ∧
    scaleInRange .ambientT { binding := 5, index := 0, scaleLow := 999, scaleHigh := 4500, plausLow := 2000, plausHigh := 4000 } = false ∧
    (let s := modChan 3 (fun c => { c with binding := .bankP 7, status := .good }) open_
     (s.chan 3).binding = .bankP 7 ∧ (s.chan 3).status = .good ∧ s.csInbox = [] ∧ (∃ j : ChanId, j.val ≠ 4 ∧ (s.chan j).binding = .bankP 7)) :=
  ⟨.inr rfl, by decide +kernel⟩

theorem witness_LoadInputReplacesTheLine : open_.TakesLoads ∧
    (LineFn.esd.permits .rising = true ∧ LineFn.esd.permits .any = false ∧ LineFn.start.permits .level = false ∧
      LineFn.nozzleConnect.permits .rising = false ∧ LineFn.siteHold.permits .any = true) ∧
    (let s := connected open_
     ∃ j : LineId, j.val ≠ 5 ∧ (s.line j).target = 0 ∧ (s.line j).fn = .nozzleConnect) := ⟨.inr rfl, by decide +kernel⟩

/-- One pair and 58 pairs, a role named twice, two roles on one line, and a needed role that stays unmapped. -/
theorem witness_LoadValveMapIsAllOrNothing : open_.TakesLoads ∧ State.reset.TakesLoads ∧
    (let ps := (List.range 58).map (fun r => (r, r))
     1 ≤ ps.length ∧ ps.length ≤ 58 ∧ (∀ p ∈ ps, p.1 ≤ 57 ∧ (p.2 ≤ 63 ∨ p.2 = 255)) ∧ (ps.map (·.1)).Nodup ∧ (ps.map (·.2)).Nodup) ∧
    ¬ ([(0, 1), (0, 2)].map Prod.fst).Nodup ∧ (∀ p ∈ [(57, 255)], p.1 ≤ 57 ∧ (p.2 ≤ 63 ∨ p.2 = 255)) ∧
    (open_.roleNeeded (roleAt 48) = true ∧ sel open_.roleMap 48 = none) ∧ (∀ r, State.reset.roleNeeded (roleAt r) = false) :=
  ⟨.inr rfl, .inl rfl, by decide +kernel⟩

theorem witness_LoadEventOutputReplacesTheEntry : open_.TakesLoads ∧ (7 < 8 ∧ 8 ≤ 8) ∧ (2 = 2 → 3 ≤ 3) ∧ (2 = 2 ∧ 3 < 4) ∧ 8 < 9 ∧ 1 < 2 :=
  ⟨.inr rfl, by decide⟩

/-! ### Witnesses: prices, the calendar, authorizations, creep -/

/-- A price whose time has come on this very second, and one whose time is the next. -/
theorem witness_SetPriceTakesEffectOrWaits : (1 < 2 ∧ 2 ≤ 2) ∧ (99999 ≤ 99999 ∧ 99999 < 100000) ∧
    86400 ≤ base.site.calendar ∧ base.site.calendar < 86401 := by decide +kernel

/-- A calendar that is set with ten tenths counted, one not counted yet, and prices due and not due at the new second. -/
theorem witness_CalendarMovesAndPricesFollow :
    let s := siteAt (fun r => { r with secondCount := 10 })
    (s.site.calendarSet = true ∧ 10 ≤ s.site.secondCount) ∧ base.site.secondCount < 10 ∧ State.reset.site.calendarSet = false ∧
    (let p : State := { s with prices := upd s.prices 0 { active := 1395, pending := some (1420, 86401) } }
     (sel p.prices 0).pending = some (1420, 86401) ∧ 86401 ≤ min 4294967295 (p.site.calendar + 1) ∧
     (sel p.prices 1).pending = none) := by decide +kernel

/-- Each check of AUTHORIZE: fields at and past their ends, no entry, a closed forecourt, a full slot count, and a PENDING record
formed with clamps. -/
theorem witness_AuthorizeChecksThenReserves :
    (3 < 4 ∧ 4 ≤ 4 ∧ 3 ≤ 3 ∧ 2 ≤ 2 ∧ (1 ≠ 0 ∧ 0 = 0)) ∧ (base.fp 3).loaded = false ∧
    ((base.fp 0).loaded = true ∧ base.site.state = .operating ∧ base.site.forecourtOpen = true ∧ (base.fp 0).fill = .idle ∧
      (base.meter 0).auth.state = .noAuth ∧ (base.meter 0).creepBlock = false ∧ base.cqr.fault = false) ∧
    (siteAt (fun r => { r with forecourtOpen := false })).site.forecourtOpen = false ∧
    (modCqr (fun c => { c with slots := 12 }) base).cqr.slots = 12 ∧ (modCqr (fun c => { c with slots := 11 }) base).cqr.slots < 12 ∧
    (base.fp 0).entry.maxMass * 1000 < 120000001 ∧ 99999999 < 100000000 ∧ (499 < 500 ∧ 1000 < 1001) := by decide +kernel

/-- The same with auto-start and the nozzle connected. -/
theorem witness_AuthorizeChecksThenReserves_autoStart :
    let s := connected (fpAt (fun f => { f with entry := { fpEntry with autoStart := true } }))
    (s.fp 0).entry.autoStart = true ∧ s.nozzleCondition 0 = .connected ∧ s.combined .breakaway 0 = false ∧
    s.combined .meterError 0 = false := by decide +kernel

theorem witness_AuthorizationIsCancelledOrExpires :
    let s := modMeter 3 (fun m => { m with auth := { Auth.empty with state := .pending, timer := some 0 } }) base
    ((s.meter 3).auth.state = .pending ∧ (s.meter 3).auth.timer = some 0) ∧ (base.meter 0).auth.state ≠ .pending ∧ (3 < 4 ∧ 4 ≤ 4) := by
  decide +kernel

theorem witness_ClearCreepReportsAndClears : 3 < 4 ∧ 4 ≤ 4 := by decide

/-! ### Witnesses: the site -/

theorem witness_ForecourtAndMaintenance :
    let s := fpAt (fun f => { f with fill := .complete })
    (s.site.state = .operating ∧ (∀ i : FpId, (s.meter i).auth.state ≠ .pending ∧
        ((s.fp i).fill = .idle ∨ (s.fp i).fill = .complete ∨ (s.fp i).fill = .fault)) ∧
      ∀ k : CompId, (s.comp k).state = .off ∨ (s.comp k).state = .disabled ∨ (s.comp k).state = .tripped) ∧
    State.reset.site.state ≠ .operating ∧ (compAt (fun c => { c with state := .startDeferred })).site.state = .operating := by
  decide +kernel

/-- A site ready to be commissioned: every channel bound, every role on a line of its own. -/
def ready : State :=
  { siteAt (fun r => { r with state := .unconfigured, forecourtOpen := false, commissioned := false }) with
    roleMap := Vector.ofFn (fun r => some (r.castLE (by decide)))
    chans := Vector.ofFn (fun i =>
      let bind := fun b => { Channel.reset with binding := b }
      match i.val with
      | 0 => bind (.nozzleP 0)
      | 1 => bind (.gasT 0)
      | 2 => bind (.bankP 1)
      | 3 => bind (.bankT 1)
      | 4 => bind (.bankP 4)
      | 5 => bind (.bankT 4)
      | 6 => bind .coldStoreT
      | 7 => bind .ambientT
      | 8 => bind (.dischargeT 0)
      | 9 => bind .supplyP
      | _ => Channel.reset) }

/-- Every check of COMMISSION passed, and each one failed in turn. -/
theorem witness_CommissionChecksInOrder :
    (ready.site.state = .unconfigured ∧ ready.site.paramsLoaded = true ∧ ready.commissionFault = none) ∧
    (State.reset.site.paramsLoaded = false ∧ base.site.state ≠ .unconfigured) ∧
    ({ ready with density := State.reset.density } : State).commissionFault = some .tableOrder ∧
    ({ ready with chans := State.reset.chans } : State).commissionFault = some .notConfigured ∧
    ({ ready with roleMap := State.reset.roleMap } : State).commissionFault = some .unmapped := by decide +kernel

/-- The explicit form of the two hypotheses on the tables and the roles. -/
theorem witness_CommissionChecksInOrder_tables :
    ((∀ j, (sel ready.density j).loaded = true) ∧ ∀ j < 16, ∀ i < 19, ready.entryAt (j + 1) i ≤ ready.entryAt j i) ∧
    (∀ r, (sel ready.ramp r).loaded = true) ∧ ready.pcm.loaded = true ∧ (ready.fp 0).loaded = true ∧
    (∀ b ∈ (ready.fp 0).entry.cascade, (ready.bank b).entry.valid = true) ∧
    (∀ r, ready.roleNeeded (roleAt r) = true → sel ready.roleMap r ≠ none) := by decide +kernel

theorem witness_SiteTransitions :
    let at_ := fun (st : SiteState) => siteAt (fun r => { r with state := st, forecourtOpen := false, cause := if st = .shutdown then .host else .noCause })
    let esd := fun s => modLine 0 (fun _ => asserted .esd) s
    let power := fun s => modLine 1 (fun _ => asserted .powerFail) s
    (base.site.state = .operating ∧ (∀ i : FpId, (base.meter i).auth.state ≠ .pending ∧ (base.fp i).fill = .idle) ∧
      ∀ k : CompId, (base.comp k).state = .off ∨ (base.comp k).state = .disabled) ∧
    ((at_ .shutdown).combined .esd = false ∧ (at_ .shutdown).combined .gasAlarm = false ∧ (at_ .shutdown).combined .fireAlarm = false) ∧
    (esd (at_ .shutdown)).combined .esd = true ∧ (power (at_ .powerdown)).inputAsserted .powerFail = true ∧
    ((at_ .powerdown).inputAsserted .powerFail = false ∧ (at_ .powerdown).site.commissioned = true) ∧
    (esd (at_ .powerdown)).combined .esd = true ∧ open_.site.state = .maintenance ∧
    (∀ fn ∈ [LineFn.gasAlarm, .fireAlarm],
      let s := modLine 0 (fun _ => asserted fn) (at_ .powerdown)
      s.site.state = .powerdown ∧ s.inputAsserted .powerFail = false ∧ s.site.commissioned = true ∧ s.combined .esd = false ∧
      s.combined .gasAlarm = (fn == .gasAlarm) ∧ s.combined .fireAlarm = (fn == .fireAlarm)) := by decide +kernel

theorem witness_ShutdownHaltsTheForecourt : flowing.site.state = .operating ∧ (flowing.fp 0).fill = .filling ∧
    open_.site.state = .maintenance ∧ State.reset.site.state = .unconfigured := by decide +kernel

/-- The retained memory in each case: blank, a bad image, a good image, a read error, a write in flight, a write that failed. -/
theorem witness_PowerOnResetStartsAfresh :
    let empty : StoredImage := { image := RetainedImage.empty, check := 0x260A }
    let holds := fun (g : StoredImage) => modCqr (fun c => { c with store := .holds g }) base
    base.cqr.store = .blank ∧ ((holds empty).cqr.store = .holds empty ∧ (holds empty).cqr.write = none) ∧
    ((holds empty).cqr.store = .holds empty ∧ (modCqr Cqr.startWrite (holds empty)).cqr.write ≠ none) ∧
    (modCqr (fun c => { c with store := .unsure empty }) base).cqr.store = .unsure empty ∧
    RetainedImage.empty.coherent = true ∧ ({ RetainedImage.empty with count := 13 } : RetainedImage).coherent = false := by decide +kernel

theorem witness_PowerOnResetStartsAfresh_valid : ({ image := RetainedImage.empty, check := 0x260A } : StoredImage).valid = true := by
  have h : RetainedImage.empty.coherent = true := by decide +kernel
  simp [StoredImage.valid, test_empty_image_check, h]

theorem witness_PowerOnResetStartsAfresh_invalid : ({ image := RetainedImage.empty, check := 0x260B } : StoredImage).valid = false := by
  simp [StoredImage.valid, test_empty_image_check]

theorem witness_ValveModeSetsTheDrive : (63 < 64 ∧ 64 ≤ 64 ∧ 3 < 4 ∧ 4 ≤ 4) ∧ base.site.state ≠ .maintenance ∧
    open_.site.state = .maintenance ∧ (∀ r, sel base.roleMap r ≠ some 63) ∧
    (∀ r', sel ready.roleMap r' = some 57 ↔ r' = 57) := by decide +kernel

/-! ### Witnesses: FP_COMMAND and the ends of a fill -/

/-- A state where START is taken, and each condition that refuses it. -/
def startable : State :=
  connected (modMeter 0 (fun m => { m with auth := { Auth.empty with state := .pending, price := 1395, timer := some 1200 } }) base)

theorem witness_FpCommandsAreRefused :
    (3 < 4 ∧ 4 ≤ 4) ∧ (base.fp 3).loaded = false ∧ ((base.fp 0).loaded = true ∧ (base.meter 0).auth.state ≠ .pending) ∧
    (modLine 0 (fun _ => asserted .breakaway) startable).combined .breakaway 0 = true ∧
    ((base.fp 0).fill = .idle ∧ (base.fp 0).hostHold = false) ∧
    ((flowingAt (fun f => { f with hostHold := true })).fp 0).hostHold = true ∧ base.nozzleCondition 0 ≠ .holstered := by decide +kernel

theorem witness_FpStartOpensAFill :
    (startable.fp 0).loaded = true ∧ (startable.fp 0).fill = .idle ∧ startable.site.state = .operating ∧
    (startable.meter 0).auth.state = .pending ∧ startable.nozzleCondition 0 = .connected ∧
    startable.combined .breakaway 0 = false ∧ startable.combined .meterError 0 = false := by decide +kernel

/-- FP0 in LINK_WAIT, and in PRECOOL_WAIT at the head of the wait list. -/
def waitingLink : State :=
  connected (modMeter 0 (fun m => { m with auth := { Auth.empty with state := .inUse, price := 1395 }, txn := some (openTxn Auth.empty 86400) })
    (modLink 0 Vlr.listen (fpAt (fun f => { f with fill := .linkWait, acquisition := some 0 }))))

def waitingCold : State :=
  modPcm (fun p => { p with waitList := [0] })
    (modReservation 0 (fun r => { r with state := .waiting, estimate := 976, category := some .s, waitTimer := some 0 })
      (modFp 0 (fun f => { f with fill := .precoolWait, mode := .nonCommunication, acquisition := none, estimate := some 976 }) waitingLink))

theorem base_waitOk : base.WaitOk := ⟨by decide +kernel, by decide +kernel⟩
theorem flowing_waitOk : flowing.WaitOk := ⟨by decide +kernel, by decide +kernel⟩
theorem waitingLink_waitOk : waitingLink.WaitOk := ⟨by decide +kernel, by decide +kernel⟩
theorem waitingCold_waitOk : waitingCold.WaitOk := ⟨by decide +kernel, by decide +kernel⟩

theorem witness_RunningFillEnds :
    ((flowing.fp 0).loaded = true ∧ (flowing.fp 0).fill = .filling) ∧
    ((waitingLink.fp 0).fill = .linkWait ∧ (waitingCold.fp 0).fill = .precoolWait ∧ waitingCold.WaitOk ∧ waitingLink.WaitOk) ∧
    ((flowingAt (fun f => { f with maxFill := some 0 })).fp 0).maxFill = some 0 ∧
    ((flowingAt (fun f => { f with maxFill := some 1 })).fp 0).maxFill ≠ some 0 :=
  ⟨by decide +kernel, ⟨by decide +kernel, by decide +kernel, waitingCold_waitOk, waitingLink_waitOk⟩, by decide +kernel, by decide +kernel⟩

/-- Each case of HOLD and RELEASE_HOLD. -/
theorem witness_HostHoldsHoldTheFill :
    ((flowing.fp 0).hostHold = false ∧ (flowing.fp 0).fill = .filling) ∧ ((waitingLink.fp 0).hostHold = false) ∧
    (let s := flowingAt (fun f => { f with hostHold := true, sub := some .hold })
     (s.fp 0).hostHold = true ∧ s.combined .siteHold = false ∧ (s.fp 0).vehicleHold = false ∧ (s.fp 0).link ≠ .stacked ∧
     (s.fp 0).sync = false ∧ (s.fp 0).sub = some .hold) ∧
    (modLine 0 (fun _ => asserted .siteHold) flowing).combined .siteHold = true ∧
    (let s := flowingAt (fun f => { f with fill := .leakCheck, sub := none, hostHold := true })
     (s.fp 0).link = .granted ∧ (s.fp 0).leakPulse = none ∧ (s.fp 0).leakHold = none) ∧
    (let s := modFp 0 (fun f => { f with hostHold := true, mode := .nonCommunication }) waitingLink
     (s.fp 0).fill = .linkWait ∧ (s.fp 0).mode ≠ .undecided ∧ (s.reservation 0).state = .noRecord) := by decide +kernel

/-- RELEASE_HOLD with no other hold: in PRECOOL_WAIT, in LEAK_CHECK with the pulse running and without a grant, in FILLING with the
bank stacked and with a synchronous hold, in LINK_WAIT undecided and with a record that stands, and in VENTING. -/
theorem witness_HostHoldsHoldTheFill_released :
    let host := fun (s : State) => modFp 0 (fun f => { f with hostHold := true }) s
    let free := fun (s : State) => s.combined .siteHold = false ∧ ((s.fp 0).vehicleHold = true → (s.fp 0).mode ≠ .communication)
    let leak := fun (p : Timer) (k : BankLink) =>
      host (flowingAt (fun f => { f with fill := .leakCheck, sub := none, leakPulse := p, link := k }))
    let filling := fun (k : BankLink) (y : Bool) => host (flowingAt (fun f => { f with sub := some .hold, link := k, sync := y }))
    (∀ s ∈ [host waitingCold, leak (some 1) .granted, leak none .stacked, filling .stacked false, filling .granted true,
        host waitingLink, fpAt (fun f => { f with fill := .venting, hostHold := true })],
      (s.fp 0).loaded = true ∧ (s.fp 0).hostHold = true ∧ free s) ∧
    (let s := modReservation 0 (fun r => { r with state := .admitted }) (modFp 0 (fun f => { f with mode := .communication }) (host waitingLink))
     (s.fp 0).fill = .linkWait ∧ (s.fp 0).mode ≠ .undecided ∧ (s.reservation 0).state ≠ .noRecord ∧ free s) := by decide +kernel

theorem witness_ClearFaultAndReset :
    (let s := modLine 31 (fun _ => asserted .nozzleHolster) (fpAt (fun f => { f with fill := .fault, ventFail := true }))
     (s.fp 0).loaded = true ∧ (s.fp 0).fill = .fault ∧ s.nozzleCondition 0 = .holstered) ∧
    ((startable.fp 0).fill = .idle ∧ (startable.meter 0).auth.state = .pending ∧ startable.WaitOk) ∧
    ((flowing.meter 0).txn = some txn ∧ (flowing.fp 0).fill = .filling ∧ flowing.WaitOk) ∧ waitingCold.WaitOk :=
  ⟨by decide +kernel, ⟨by decide +kernel, by decide +kernel, by decide +kernel, by decide +kernel⟩,
    ⟨by decide +kernel, by decide +kernel, flowing_waitOk⟩, waitingCold_waitOk⟩

/-! ### Witnesses: banks, compressors, the chiller -/

/-- Channel 40 on this binding, of one unit a count, GOOD, two failures counted and its staleness timer at its end. -/
def chanOn (bd : Binding) (s : State) : State :=
  modChan 40 (fun _ => { Channel.reset with binding := bd, scaleHigh := 65535, plausHigh := 65000, status := .good, failCount := 2,
                                            staleTimer := some 0 }) s

theorem chanOn_chan (bd : Binding) (s : State) : (chanOn bd s).chan 40 =
    { Channel.reset with binding := bd, scaleHigh := 65535, plausHigh := 65000, status := .good, failCount := 2,
                         staleTimer := some 0 } := by
  simp [chanOn, State.chan, modChan]

/-- Every plausible value can be delivered on it, and both falls can happen. -/
theorem chanOn_delivers (bd : Binding) (s : State) (v : Nat) (h : v ≤ 65000) :
    ∃ c x, (chanOn bd s).Delivers 40 bd c v x := by
  have e : (chanOn bd s).chan 40 = _ := chanOn_chan bd s
  refine ⟨.sampleArrival 40 (BitVec.ofNat 16 v), _, ⟨BitVec.ofNat 16 v, rfl, ?_⟩, ?_, ?_, rfl⟩
  · rw [e]; simp [Channel.scaled, roundDiv, Channel.reset]; omega
  · rw [e]
  · rw [e]; simp [Channel.plausible, inRange, Channel.reset, h]

theorem chanOn_falls (bd : Binding) (s : State) :
    (∃ x, (chanOn bd s).FallsHeld 40 bd (.stalenessExpiry 40) x) ∧
    ∃ x, (chanOn bd s).FallsHeld 40 bd (.sampleArrival 40 0xFFFF) x := by
  have e : (chanOn bd s).chan 40 = _ := chanOn_chan bd s
  refine ⟨⟨_, ?_, ?_, .inl ⟨rfl, ?_, rfl⟩⟩, ⟨_, ?_, ?_, .inr ⟨0xFFFF, rfl, ?_, ?_, rfl⟩⟩⟩ <;> rw [e]
  simp [Channel.scaled, Channel.plausible, inRange, roundDiv, Channel.reset]

/-- A temperature that ends a SENSOR fault with the bank listed and not, one that ends none, and a fall with both quantities GOOD
and with one HELD. -/
theorem witness_BankDeliveriesAndClearFault_temperature :
    let cold := fun (p : Nat) => chanOn (.bankT 1) (bankAt (fun b => { b with temperatureGood := false, pressure := p }))
    (∃ c x, (cold 69999).Delivers 40 (.bankT 1) c 3010 x) ∧
    (let k := (cold 69999).bank 1
     k.entry.valid = true ∧ k.temperatureGood = false ∧ k.pressureGood = true ∧ k.entry.fillPermit = true ∧ k.protect = false ∧
     k.pressure < k.entry.refillOn ∧ 1 ∉ (cold 69999).refill ∧ ¬ 70000 < k.entry.refillOn) ∧
    (base.bank 1).temperatureGood = true ∧ base.csInbox = [] ∧ base.refill.Nodup ∧
    ((∃ x, (chanOn (.bankT 1) base).FallsHeld 40 (.bankT 1) (.stalenessExpiry 40) x) ∧
      ∃ x, (chanOn (.bankP 1) base).FallsHeld 40 (.bankP 1) (.sampleArrival 40 0xFFFF) x) ∧
    ((base.bank 1).entry.valid = true ∧ (base.bank 1).pressureGood = true) :=
  ⟨chanOn_delivers _ _ _ (by decide), by decide +kernel, by decide +kernel, by decide +kernel, by decide +kernel,
    ⟨(chanOn_falls _ _).1, (chanOn_falls _ _).2⟩, by decide +kernel⟩

/-- A delivery at the rated pressure with a compressor at the bank, one just below it, a HELD temperature, and CLEAR_FAULT. -/
theorem witness_BankDeliveriesAndClearFault :
    let s := modChan 12 (fun c => { c with binding := .bankP 1, scaleLow := 30000, scaleHigh := 95535, plausHigh := 95000 }) (setHolder 1 (some (csReq 0)) base)
    ((s.chan 12).binding = .bankP 1 ∧ (s.chan 12).scaled 60000 = 90000 ∧ (s.chan 12).plausible 90000 = true ∧
      (s.bank 1).entry.rated ≤ 90000 ∧ s.holderOf 1 = some (csReq 0) ∧ s.refill.Nodup) ∧
    ((s.chan 12).scaled 59999 = 89999 ∧ 89999 < (s.bank 1).entry.rated) ∧
    ((s.bank 1).temperatureGood = true ∧ ((bankAt (fun b => { b with temperatureGood := false })).bank 1).temperatureGood = false) ∧
    (let k := ((bankAt (fun b => { b with protect := true, reload := true, pressure := 69999 })).bank 1)
     k.protect = true ∧ k.reload = true ∧ k.pressure < k.entry.refillOn) ∧ 8 ≤ 8 := by decide +kernel

/-- Each state of a compressor for each command; the discharge temperature at its limit and one past it. -/
theorem witness_CompressorCommands :
    (1 < 2 ∧ 2 ≤ 2) ∧
    (((compAt (fun c => { c with state := .disabled })).comp 0).loaded = true ∧ (State.reset.comp 0).loaded = false ∧ (State.reset.comp 0).state = .disabled) ∧
    ((base.comp 0).state = .off ∧ ((compAt (fun c => { c with state := .recirc, target := some 1 })).comp 0).target = some 1 ∧
      ((compAt (fun c => { c with state := .stopping })).comp 0).state = .stopping) ∧
    (let s := compAt (fun c => { c with state := .tripped, discharge := 4000 })
     (s.comp 0).state = .tripped ∧ s.inputAsserted .compressorTrip 0 = false ∧ (s.comp 0).dischargeGood = true ∧
     (s.comp 0).discharge ≤ (s.comp 0).entry.dischargeLimit) ∧
    ¬ (4001 ≤ (base.comp 0).entry.dischargeLimit) := by decide +kernel

/-- The chiller in each state; a store at the cut-in temperature and one past it; an outstanding reservation and none. -/
theorem witness_ChillerCommands :
    let at_ := fun (c : Chiller) => modPcm (fun p => { p with chiller := c }) base
    ((at_ .disabled).pcm.chiller = .disabled ∧ (at_ .disabled).pcm.loaded = true) ∧ State.reset.pcm.loaded = false ∧
    ((at_ .tripped).inputAsserted .chillerTrip = false ∧ base.pcm.waitList = []) ∧
    (base.pcm.chiller = .running ∧ base.outstandingSum = 0 ∧ flowing.outstandingSum = 318) ∧
    ¬ (base.pcm.entry.setpoint + base.pcm.entry.differential < 2250) ∧ base.pcm.entry.setpoint + base.pcm.entry.differential < 2251 ∧
    (modLine 0 (fun _ => asserted .chillerTrip) base).inputAsserted .chillerTrip = true := by decide +kernel

/-- The store at each edge of its band, an idle and a running chiller, a head of the wait list that fits and one that does not, and a
store that becomes HELD. -/
theorem witness_ChillerCommands_store :
    let at_ := fun (c : Chiller) => chanOn .coldStoreT (modPcm (fun p => { p with chiller := c }) base)
    ((∃ i x, (at_ .idle).Delivers 40 .coldStoreT i 2251 x) ∧ (∃ i x, (at_ .idle).Delivers 40 .coldStoreT i 2250 x) ∧
      (∃ i x, (at_ .running).Delivers 40 .coldStoreT i 2210 x) ∧ ∃ i x, (at_ .running).Delivers 40 .coldStoreT i 2211 x) ∧
    ((at_ .idle).pcm.chiller = .idle ∧ (at_ .idle).site.state = .operating ∧ (at_ .idle).outstandingSum = 0 ∧
      (at_ .idle).pcm.waitList = [] ∧ (at_ .idle).csInbox = [] ∧ (at_ .idle).pcm.entry.setpoint = 2230 ∧
      (at_ .idle).pcm.entry.differential = 20) ∧
    ((∃ i x, (chanOn .coldStoreT waitingCold).Delivers 40 .coldStoreT i 2230 x) ∧ (chanOn .coldStoreT waitingCold).WaitOk ∧
      (chanOn .coldStoreT waitingCold).pcm.waitList = [0] ∧
      (modPcm (fun p => { p with tcs := 2230, tcsGood := true }) waitingCold).admitClass 0 976 .s = some .t40 ∧
      (modPcm (fun p => { p with tcs := 2600, tcsGood := true }) waitingCold).admitClass 0 976 .s = none) ∧
    ((∃ x, (at_ .idle).FallsHeld 40 .coldStoreT (.stalenessExpiry 40) x) ∧
      ∃ x, (at_ .running).FallsHeld 40 .coldStoreT (.sampleArrival 40 0xFFFF) x) :=
  ⟨⟨chanOn_delivers _ _ _ (by decide), chanOn_delivers _ _ _ (by decide), chanOn_delivers _ _ _ (by decide),
      chanOn_delivers _ _ _ (by decide)⟩, by decide +kernel,
    ⟨chanOn_delivers _ _ _ (by decide), ⟨by decide +kernel, by decide +kernel⟩, by decide +kernel, by decide +kernel, by decide +kernel⟩,
    ⟨(chanOn_falls _ _).1, (chanOn_falls _ _).2⟩⟩

/-- K0 RECIRC, stacked behind FPS3 for B1, its bank wait at its end; the other compressor rests. -/
def recirculating : State :=
  setHolder 1 (some 3) (setStacked 1 [csReq 0]
    (modComp 0 (fun c => { c with state := .recirc, target := some 1, bankWait := some 0 }) { base with refill := [1] }))

theorem recirculating_arbiterOk : recirculating.ArbiterOk :=
  ⟨by decide +kernel, by decide +kernel, by decide +kernel, by decide +kernel⟩

theorem flowing_arbiterOk : flowing.ArbiterOk := ⟨by decide +kernel, by decide +kernel, by decide +kernel, by decide +kernel⟩

/-- The timers of a compressor at 0 and at 1, a start 36,000 ds old and one 35,999 ds old. -/
theorem witness_CompressorTimers :
    base.csInbox = [] ∧
    (let s := compAt (fun c => { c with state := .startDeferred, minOff := some 0 })
     (s.comp 0).minOff = some 0 ∧ (s.comp 0).state = .startDeferred ∧ s.chooseBank 0 none = none) ∧
    (let s : State := { compAt (fun c => { c with state := .startDeferred, minOff := some 0 }) with refill := [1] }
     s.chooseBank 0 none = some 1 ∧ (modComp 0 (fun c => { c with minOff := none }) s).permitted 0 = true ∧ s.permitted 0 = false) ∧
    (36000 ≤ ((base.site.clock : Clock) - (0#32 - 6000#32)).toNat ∧ ((base.site.clock : Clock) - (0#32 - 5999#32)).toNat < 36000) ∧
    (let s := compAt (fun c => { c with state := .starting, target := some 1, start := some 0 })
     (s.comp 0).start = some 0 ∧ (s.comp 0).target = some 1 ∧ (s.bank 1).usableFill = true ∧ s.engaged (csReq 0) = false ∧
     s.holderOf 1 = none ∧ s.stackedAt 1 = [] ∧ (setHolder 1 (some 3) s).holderOf 1 ≠ none) := by decide +kernel

theorem witness_CompressorTimers_running :
    recirculating.ArbiterOk ∧
    ((recirculating.comp 0).bankWait = some 0 ∧ (recirculating.comp 0).state = .recirc ∧ (recirculating.comp 0).target = some 1 ∧
      csReq 0 ∈ recirculating.stackedAt 1 ∧ (∀ x ∈ recirculating.refill, (recirculating.bank x).usableFill = true) ∧
      (recirculating.comp (otherComp 0)).state = .disabled ∧ recirculating.csInbox = []) ∧
    (let s := compAt (fun c => { c with state := .recirc, minRun := some 0 })
     (s.comp 0).minRun = some 0 ∧ (s.comp 0).state = .recirc ∧ (s.comp 0).target = none) ∧
    (let s := compAt (fun c => { c with state := .stopping, runDown := some 0, disablePending := true })
     (s.comp 0).runDown = some 0 ∧ (s.comp 0).state = .stopping ∧ (s.comp 0).target = none ∧ (s.comp 0).disablePending = true) :=
  ⟨recirculating_arbiterOk, by decide +kernel, by decide +kernel, by decide +kernel⟩

/-- A start that ends without a target, one whose target is turned down with another bank and with none, and the figures that trip
and stop a machine, with each clause's states. -/
theorem witness_CompressorTimers_figures :
    let starting := fun (b : Option BankId) => compAt (fun c => { c with state := .starting, target := b, start := some 0 })
    ((starting none).comp 0).target = none ∧
    (let s : State := modBank 1 (fun b => { b with pressureGood := false }) (starting (some 1))
     (s.comp 0).target = some 1 ∧ (s.bank 1).usableFill = false ∧ (s.comp (otherComp 0)).state = .disabled ∧
     s.chooseBank 0 (some 1) = none ∧
     (let r : State := { s with refill := [4] }
      r.chooseBank 0 (some 1) = some 4 ∧ (r.bank 4).usableFill = true ∧ r.engaged (csReq 0) = false ∧ r.holderOf 4 = none)) ∧
    (let s : State := { compAt (fun c => { c with state := .startDeferred }) with refill := [1] }
     (s.comp 0).state = .startDeferred ∧ s.chooseBank 0 none = some 1 ∧ s.permitted 0 = true) ∧
    ((∃ i x, (chanOn (.dischargeT 0) base).Delivers 40 (.dischargeT 0) i 4000 x) ∧
      (∃ i x, (chanOn (.dischargeT 0) recirculating).Delivers 40 (.dischargeT 0) i 4001 x) ∧
      (∃ x, (chanOn (.dischargeT 0) recirculating).FallsHeld 40 (.dischargeT 0) (.stalenessExpiry 40) x) ∧
      (∃ i x, (chanOn .supplyP base).Delivers 40 .supplyP i 2000 x) ∧
      (∃ i x, (chanOn .supplyP recirculating).Delivers 40 .supplyP i 1999 x) ∧
      ∃ x, (chanOn .supplyP recirculating).FallsHeld 40 .supplyP (.stalenessExpiry 40) x) ∧
    ((base.comp 0).entry.dischargeLimit = 4000 ∧ base.site.params.supplyMin = 2000 ∧ (base.comp 0).state = .off ∧
      (recirculating.comp 0).state = .recirc ∧ (base.comp 1).state = .disabled) :=
  ⟨by decide +kernel, by decide +kernel, by decide +kernel,
    ⟨chanOn_delivers _ _ _ (by decide), chanOn_delivers _ _ _ (by decide), (chanOn_falls _ _).1,
      chanOn_delivers _ _ _ (by decide), chanOn_delivers _ _ _ (by decide), (chanOn_falls _ _).1⟩, by decide +kernel⟩

/-! ### Witnesses: samples, lines, frames -/

/-- Values at the plausibility limits and one past each; a third failure; the staleness timer at 0 and at 1; an UNUSED channel. -/
theorem witness_SamplesMoveTheChannel :
    let s := modChan 12 (fun c => { c with binding := .bankP 3, scaleHigh := 65535, plausLow := 500, plausHigh := 65000, status := .good, failCount := 2, staleTimer := some 0 }) base
    ((s.chan 12).staleTimer = some 0 ∧ (s.chan 12).status = .good) ∧
    (base.chan 12).staleTimer ≠ some 0 ∧ (base.chan 12).binding = .unused ∧ base.csInbox = [] ∧
    (s.chan 12).binding ≠ .unused ∧
    ((s.chan 12).scaleLow + (2 * (((s.chan 12).scaleHigh - (s.chan 12).scaleLow) * 500) + 65535) / 131070 = 500 ∧
      (s.chan 12).plausLow ≤ 500 ∧ 65000 ≤ (s.chan 12).plausHigh) ∧
    (499 < (s.chan 12).plausLow ∧ (s.chan 12).plausHigh < 65001 ∧ 3 ≤ (s.chan 12).failCount + 1) := by decide +kernel

/-- The ambient temperature at the edges of its bands, a fill whose band moves with a switch pending, without one and back to the
active entry's, and its fall. -/
theorem witness_SamplesMoveTheChannel_ambient :
    let s := chanOn .ambientT flowing
    (∀ v ∈ [2629, 2630, 2829, 2830, 3029, 3030, 3179, 3180], ∃ i x, s.Delivers 40 .ambientT i v x) ∧
    (∃ x, s.FallsHeld 40 .ambientT (.stalenessExpiry 40) x) ∧ (s.csInbox = [] ∧ s.pcm.waitList = []) ∧
    ((s.fp 0).band = .a3 ∧ (s.fp 0).fill = .filling ∧ (s.fp 0).active.map (·.cls) = some .t40 ∧ (s.fp 0).switchPending = false) ∧
    (let f := (flowingAt (fun f => { f with band := .a4, switchPending := true, pendingEntry := f.active })).fp 0
     f.band ≠ .a3 ∧ f.active.map (·.band) = some .a3 ∧ f.pendingEntry.map (·.cls) = some .t40) :=
  ⟨fun v h => chanOn_delivers _ _ _ (by simp at h; omega), (chanOn_falls _ _).1, by decide +kernel, by decide +kernel,
    by decide +kernel⟩

/-- FP0's nozzle channel with a 1 kPa scale; the nozzle pressures at which each test turns. -/
def nozzleChan (s : State) : State :=
  modChan 0 (fun c => { c with binding := .nozzleP 0, scaleHigh := 100000, plausHigh := 100000 }) s

theorem witness_NozzleSamplesAreTested :
    let s := nozzleChan flowing
    (s.csInbox = [] ∧ (s.chan 0).binding = .nozzleP 0 ∧ (s.chan 0).plausible 87500 = true) ∧ (s.fp 0).fill = .filling ∧
    (∃ raw : Fin 65536, (s.chan 0).scaled raw.val = 87500 ∧ raw.val = 57343) ∧
    s.pt 0 = 64300 ∧ (64300 + s.site.params.overshootBand < 67801 ∧ ¬ 64300 + s.site.params.overshootBand < 67800) ∧
    (64300 + s.site.params.upperBand < 65001 ∧ ¬ 64300 + s.site.params.upperBand < 65000) ∧
    ((s.fp 0).sub = some .flow ∧ (s.fp 0).link = .granted ∧ (s.fp 0).sync = false ∧ s.levelHold 0 = false) ∧
    (let n := modFp 0 (fun f => { f with mode := .nonCommunication }) s
     (n.fp 0).mode = .nonCommunication ∧ ((n.fp 0).active.map (·.endPressure)).getD 0 ≤ 70000) := by
  refine ⟨by decide +kernel, by decide +kernel, ⟨57343, by decide +kernel⟩, ?_⟩
  decide +kernel

/-- The leak hold at and below its limit, and VENTING at and above the vent pressure. -/
theorem witness_NozzleSamplesAreTested_leakAndVent :
    (let s := nozzleChan (flowingAt (fun f => { f with fill := .leakCheck, sub := none, leakHold := some 20 }))
     (s.fp 0).fill = .leakCheck ∧ (s.fp 0).leakHold.isSome = true ∧ 51799 + s.site.params.leakLimit < (s.fp 0).p0.getD 0 ∧
     (s.fp 0).p0.getD 0 ≤ 51800 + s.site.params.leakLimit) ∧
    (let s := nozzleChan (fpAt (fun f => { f with fill := .venting, reason := some .targetSoc }))
     (s.fp 0).fill = .venting ∧ 500 ≤ s.site.params.ventPressure ∧ s.site.params.ventPressure < 501 ∧ (s.fp 0).reason = some .targetSoc) := by
  decide +kernel

/-- The end of the ramp pause at its target and one count above it, the granted bank that just pushes and just does not, and a nozzle
pressure that becomes HELD in each phase. -/
theorem witness_NozzleSamplesAreTested_pauseAndStep :
    let s := nozzleChan (flowingAt (fun f => { f with sub := some .rampPause, pause := true }))
    ((∃ raw : Fin 65536, (s.chan 0).scaled raw.val = 64300) ∧ (∃ raw : Fin 65536, (s.chan 0).scaled raw.val = 64302) ∧
      s.pt 0 = 64300 ∧ (s.fp 0).sub = some .rampPause ∧ (s.fp 0).link ≠ .stacked ∧ (s.fp 0).sync = false ∧ s.levelHold 0 = false) ∧
    (flowing.ArbiterOk ∧ (flowing.fp 0).cascadePos = some 1 ∧ (flowing.fp 0).entry.cascade.Nodup ∧
      flowing.holderOf 1 = some (fpReq 0) ∧ 64400 + flowing.site.params.stepDiff ≤ (flowing.bank 1).pressure ∧
      ¬ 64401 + flowing.site.params.stepDiff ≤ (flowing.bank 1).pressure) ∧
    (∀ t ∈ [flowing, waitingLink, waitingCold, base], ∃ x, (chanOn (.nozzleP 0) t).FallsHeld 40 (.nozzleP 0) (.stalenessExpiry 40) x) ∧
    (base.fp 0).fill.running = false ∧ (chanOn (.nozzleP 0) waitingCold).WaitOk :=
  ⟨⟨⟨42139, by decide +kernel⟩, ⟨42140, by decide +kernel⟩, by decide +kernel⟩,
    ⟨flowing_arbiterOk, by decide +kernel⟩, fun _ _ => (chanOn_falls _ _).1, by decide +kernel, ⟨by decide +kernel, by decide +kernel⟩⟩

/-- An ESD line whose filter ends at level 1, with nothing else asserted; POWER_FAIL; STOP and the nozzle of a running fill. -/
theorem witness_LinesMoveAndAct :
    let line := fun (fn : LineFn) (m : DetectMode) (s : State) =>
      modLine 0 (fun _ => { asserted fn m with filtered := false, filterRunning := true }) s
    ((line .esd .level base).line 0).filterRunning = true ∧ (base.line 0).filterRunning = false ∧
    (({ (line .esd .level base).line 0 with filtered := true } : InLine).effective = true ∧ (line .esd .level base).combined .esd = false) ∧
    (line .esd .level base).site.state = .operating ∧ (line .powerFail .rising flowing).site.state = .operating ∧
    (((line .stop .rising flowing).line 0).target = (0 : FpId).val ∧ (line .stop .rising flowing).csInbox = []) ∧
    (let s := line .nozzleHolster .level flowing
     s.nozzleCondition 0 = .connected ∧
     (modLine 0 (fun l => { l with filtered := true, filterRunning := false }) s).nozzleCondition 0 ≠ .connected) ∧
    (let s := modLine 1 (fun _ => asserted .siteHold) (line .siteHold .level base)
     (modLine 0 (fun l => { l with filtered := true, filterRunning := false }) s).combined .siteHold = s.combined .siteHold) := by
  decide +kernel

/-- Each of the other functions at its filter's end: both edges of START and STOP, assertions of BREAKAWAY, METER_ERROR and the trips,
a level hold that begins and ends, a synchronous hold, the nozzle set down and put in, and POWER_FAIL in a settling fill. -/
theorem witness_LinesMoveAndAct_functions :
    let line := fun (fn : LineFn) (m : DetectMode) (up : Bool) (s : State) =>
      modLine 0 (fun _ => { asserted fn m with raw := up, filtered := !up, filterRunning := true }) s
    let new := fun (s : State) => ({ s.line 0 with filtered := (s.line 0).raw } : InLine).effective
    (∀ m ∈ [DetectMode.rising, .any], new (line .start m true startable) = true) ∧
    (∀ m ∈ [DetectMode.falling, .any], new (line .stop m false flowing) = false) ∧
    (∀ fn ∈ [LineFn.breakaway, .meterError, .compressorTrip], new (line fn .level true flowing) = true ∧
      (line fn .level true flowing).combined fn 0 = false ∧ ((line fn .level true flowing).line 0).target = 0) ∧
    ((startable.fp 0).loaded = true ∧ (startable.fp 0).fill = .idle ∧ (startable.meter 0).auth.state = .pending) ∧
    ((recirculating.comp 0).state = .recirc ∧ (base.comp 1).state = .disabled ∧ base.pcm.chiller = .running) ∧
    (let s := line .siteHold .level false (flowingAt (fun f => { f with sub := some .hold }))
     s.combined .siteHold = true ∧ (modLine 0 (fun l => { l with filtered := false, filterRunning := false }) s).combined .siteHold = false ∧
     (∀ j : FpId, (s.fp j).fill ≠ .linkWait) ∧ (s.fp 0).hostHold = false ∧ (s.fp 0).sub ≠ some .flow) ∧
    ((line .siteHold .rising true flowing).csInbox = [] ∧ (flowing.fp 0).sync = false) ∧
    (let s := line .nozzleConnect .level true (fpAt (fun f => { f with entry := { fpEntry with autoStart := true } }))
     s.nozzleCondition 0 ≠ .connected ∧ (modLine 0 (fun l => { l with filtered := true, filterRunning := false }) s).nozzleCondition 0 = .connected) ∧
    (let s := line .nozzleHolster .level true (fpAt (fun f => { f with fill := .complete }))
     s.nozzleCondition 0 ≠ .holstered ∧ (modLine 0 (fun l => { l with filtered := true, filterRunning := false }) s).nozzleCondition 0 = .holstered) ∧
    (let s := line .powerFail .level true (flowingAt (fun f => { f with fill := .settling, reason := some .targetSoc }))
     s.combined .powerFail 0 = false ∧ (s.fp 0).fill = .settling ∧ (s.meter 0).txn = some txn ∧ s.cqr.write = none) := by
  decide +kernel

/-- A vehicle frame with its check, written out by hand: 140 L, H70, 52,300 kPa, 301.0 K. -/
def vehicle (rc cmd : Byte) (t : List Byte) : List Byte :=
  let b := [1#8, rc, 0#8, 140#8, 0#8, 0#8, 0xCC#8, 0x4C#8] ++ t ++ [cmd]
  b ++ be 2 (crc16 b).toNat

theorem witness_FirstFrameDecidesTheMode :
    ((waitingLink.link 0).state = .listening ∧ (waitingLink.fp 0).fill = .linkWait ∧ (waitingLink.fp 0).mode = .undecided) ∧
    checkFrame (vehicle 70#8 0#8 [0x0B#8, 0xC2#8]) = .valid 140 .h70 { pressure := 52300, temperature := 3010, command := .run } ∧
    checkFrame (vehicle 35#8 0#8 [0x0B#8, 0xC2#8]) = .valid 140 .h35 { pressure := 52300, temperature := 3010, command := .run } ∧
    checkFrame (vehicle 70#8 1#8 [0x0B#8, 0xC2#8]) = .valid 140 .h70 { pressure := 52300, temperature := 3010, command := .halt } ∧
    checkFrame (vehicle 70#8 2#8 [0x0B#8, 0xC2#8]) = .valid 140 .h70 { pressure := 52300, temperature := 3010, command := .abort } ∧
    ((waitingLink.fp 0).entry.pressureClass = .h70 ∧ waitingLink.levelHold 0 = false ∧ (waitingLink.fp 0).vehicleHold = false ∧
      (waitingLink.reservation 0).state = .noRecord) := by decide +kernel

theorem witness_FirstFrameDecidesTheMode_held : waitingLink.WaitOk ∧
    ((modFp 0 (fun f => { f with hostHold := true }) waitingLink).fp 0).hostHold = true := ⟨waitingLink_waitOk, by decide +kernel⟩

/-- Frames of each kind of error, and in UP a cool one, a hot one at 358.0 K, and targets at and above its SOC of 807. -/
theorem witness_LaterFramesAndLoss :
    let good := vehicle 70#8 0#8 [0x0B#8, 0xC2#8]
    let f := flowing.fp 0
    ((base.link 0).state = .idle ∧ (flowing.link 0).state = .up) ∧ (good.take 12).length ≠ 13 ∧
    (let bad := good.take 12 ++ [good.getD 12 0 + 1#8]
     bad.length = 13 ∧ num bad 11 2 ≠ (crc16 (bad.take 11)).toNat) ∧
    (good.length = 13 ∧ num good 11 2 = (crc16 (good.take 11)).toNat ∧ num good 0 1 = 1) ∧
    checkFrame (vehicle 70#8 3#8 [0x0B#8, 0xC2#8]) = .rangeError ∧
    ((linkAt (fun v => { v with state := .lost })).link 0).state = .lost ∧
    (f.mode = .communication ∧ f.fill = .filling ∧ 52300 ≤ f.nozzle + flowing.site.params.plausMargin) ∧
    (3580 ≤ 3580 ∧ 3579 < 3580) ∧
    (min 1000 (socRaw (flowing.lookup 52300 3010).density 4024) = 807 ∧ flowing.socTarget 0 = 980 ∧
      (modMeter 0 (fun m => { m with auth := { m.auth with soc := some 807 } }) flowing).socTarget 0 = 807) := by decide +kernel

/-- Pressures at the margin and one past it, counts of one and two before the frame, and each phase before FILLING in UP. -/
theorem witness_LaterFramesAndLoss_implausible :
    let up := fun (s : State) => modLink 0 (fun v => { v with state := .up, implausCount := 2 }) (modFp 0 (fun f => { f with mode := .communication }) s)
    let f := (up flowing).fp 0
    checkFrame (vehicle 70#8 0#8 [0x0B#8, 0xC2#8]) = .valid 140 .h70 { pressure := 52300, temperature := 3010, command := .run } ∧
    (f.sub = some .flow ∧ 47299 + flowing.site.params.plausMargin < 52300 ∧ ¬ 47300 + flowing.site.params.plausMargin < 52300) ∧
    ((up flowing).link 0).implausCount = 2 ∧ ((modLink 0 (fun v => { v with implausCount := 1 }) (up flowing)).link 0).implausCount < 2 ∧
    (∀ x ∈ [(up waitingLink, FillState.linkWait), (up waitingCold, .precoolWait),
        (up (flowingAt (fun f => { f with fill := .leakCheck, sub := none })), .leakCheck)],
      (x.1.link 0).state = .up ∧ (x.1.fp 0).mode = .communication ∧ (x.1.fp 0).fill = x.2 ∧ x.1.combined .siteHold = false ∧
      (x.1.fp 0).hostHold = false) ∧
    (up waitingCold).WaitOk ∧ ((modFp 0 (fun f => { f with vehicleHold := true }) (up waitingLink)).fp 0).vehicleHold = true ∧
    ((up waitingLink).reservation 0).state = .noRecord :=
  ⟨by decide +kernel, by decide +kernel, by decide +kernel, by decide +kernel, by decide +kernel,
    ⟨by decide +kernel, by decide +kernel⟩, by decide +kernel, by decide +kernel⟩

theorem witness_LaterFramesAndLoss_loss :
    let s := modLink 0 (fun v => { v with loss := some 0 }) flowing
    ((s.link 0).loss = some 0 ∧ (s.link 0).state = .up ∧ (s.fp 0).mode = .communication ∧ (s.fp 0).fill = .filling) ∧
    ((s.fp 0).entry.commRequired = false ∧ (s.fp 0).nozzle < 70000) ∧
    (((modFp 0 (fun f => { f with nozzle := 70000 }) s).fp 0).active.map (·.endPressure)).getD 0 ≤ 70000 ∧
    (flowing.link 0).loss ≠ some 0 := by decide +kernel

/-! ### Witnesses: the timers of a fill -/

theorem witness_WaitingFillsTimeOut :
    ((waitingCold.reservation 0).waitTimer = some 0 ∧ (waitingCold.reservation 0).state = .waiting ∧
      (waitingCold.fp 0).fill = .precoolWait ∧ waitingCold.WaitOk) ∧
    ((waitingLink.fp 0).acquisition = some 0 ∧ (waitingLink.fp 0).fill = .linkWait ∧ (waitingLink.fp 0).entry.commRequired = false) ∧
    (waitingLink.combined .siteHold = false ∧ (waitingLink.fp 0).hostHold = false ∧ (waitingLink.reservation 0).state = .noRecord ∧
      waitingLink.pcm.waitList = []) ∧
    estimateOf (waitingLink.fp 0).entry.defaultEstimate .noPreset 0 120000 = 2000 ∧
    ((2000 * 1150 + 999) / 1000 = 2300 ∧ 2300 ≤ waitingLink.free .t40 ∧ waitingLink.free .t40 = 4000) ∧
    ((modPcm (fun p => { p with tcs := 2252 }) waitingLink).free .t40 < 2300 ∧ 1800 ≤ (modPcm (fun p => { p with tcs := 2252 }) waitingLink).free .t30) :=
  ⟨⟨by decide +kernel, by decide +kernel, by decide +kernel, waitingCold_waitOk⟩, by decide +kernel, by decide +kernel,
    by decide +kernel, by decide +kernel, by decide +kernel⟩

/-- FP0 stacked at B1 behind FPS3, and holding it; B4 at the step differential and one short of it. -/
def stackedAt1 : State :=
  setHolder 1 (some 3) (setStacked 1 [0] (flowingAt (fun f => { f with sub := some .bankWait, link := .stacked, bankWait := some 0 })))

theorem stackedAt1_arbiterOk : stackedAt1.ArbiterOk := ⟨by decide +kernel, by decide +kernel, by decide +kernel, by decide +kernel⟩

theorem witness_CascadeGoesOn :
    (stackedAt1.ArbiterOk ∧ flowing.ArbiterOk) ∧
    ((stackedAt1.fp 0).cascadePos = some 1 ∧ (stackedAt1.fp 0).entry.cascade.Nodup ∧ (stackedAt1.fp 0).bankWait = some 0 ∧
      (stackedAt1.fp 0).link = .stacked ∧ fpReq 0 ∈ stackedAt1.stackedAt 1) ∧
    (afterBank 1 (flowing.fp 0).entry.cascade = [] ++ 4 :: [] ∧ (stackedAt1.bank 4).usableDraw = true ∧
      83600 + stackedAt1.site.params.stepDiff ≤ (stackedAt1.bank 4).pressure ∧
      ¬ 83601 + stackedAt1.site.params.stepDiff ≤ (stackedAt1.bank 4).pressure ∧
      (stackedAt1.bank 4).entry.floor < (stackedAt1.bank 4).pressure) ∧
    (let s := flowingAt (fun f => { f with lowFlow := some 0 })
     (s.fp 0).lowFlow = some 0 ∧ (s.fp 0).sub = some .flow ∧ s.holderOf 1 = some (fpReq 0)) :=
  ⟨⟨stackedAt1_arbiterOk, flowing_arbiterOk⟩, by decide +kernel, by decide +kernel, by decide +kernel⟩

/-- A pressure of the fill's bank that just pushes and just does not, and one at the floor. -/
theorem witness_CascadeGoesOn_sample :
    let s := chanOn (.bankP 1) flowing
    (∀ v ∈ [54300, 54299, 12000, 12001], ∃ c x, s.Delivers 40 (.bankP 1) c v x) ∧ s.ArbiterOk ∧
    (s.csInbox = [] ∧ s.holderOf 1 = some (fpReq 0) ∧ (s.fp 0).fill = .filling ∧ (s.fp 0).sub = some .flow ∧ 1 ∉ s.refill ∧
      (s.fp 0).nozzle + s.site.params.stepDiff = 54300 ∧ (s.bank 1).entry.floor = 12000 ∧ (s.bank 1).entry.refillOn = 70000) ∧
    ((modBank 1 (fun b => { b with entry := { b.entry with fillPermit := false } }) s).bank 1).entry.fillPermit = false :=
  ⟨fun v h => chanOn_delivers _ _ _ (by simp at h; omega),
    ⟨by decide +kernel, by decide +kernel, by decide +kernel, by decide +kernel⟩, by decide +kernel, by decide +kernel⟩

/-- Nozzle pressures at and below the minimum start pressure and the class limit; the end of the hold in each case. -/
theorem witness_LeakCheckTimers :
    let leak := fun (n : Nat) => flowingAt (fun f => { f with fill := .leakCheck, sub := none, leakPulse := some 0, nozzle := n })
    let hold := fun (g : Bool) (e : Nat) => modFp 0 (fun f => { f with leakPulse := none, leakHold := some 0, gasGood := g, mode := .nonCommunication })
      { leak 52300 with ramp := Vector.replicate 120 { rate := 24000, endPressure := e, loaded := true } }
    ((leak 499).fp 0).leakPulse = some 0 ∧ 499 < params.minStartH70 ∧ params.minStartH70 ≤ 500 ∧ 87499 < params.limitH70 ∧
    params.limitH70 ≤ 87500 ∧
    (((hold true 70000).fp 0).leakHold = some 0 ∧ ((hold true 70000).fp 0).admClass = some .t40 ∧
      ((hold true 70000).fp 0).admBand = some .a3 ∧ ((hold true 70000).fp 0).band = .a3 ∧ ((hold true 70000).fp 0).link ≠ .stacked) ∧
    ((hold false 0).fp 0).gasGood = false ∧ (sel (hold true 0).ramp 0).endPressure = 0 := by decide +kernel

theorem witness_SettlingAndVentingEnd :
    let s := flowingAt (fun f => { f with fill := .settling, sub := none, settle := some 0, reason := some .targetSoc })
    ((s.fp 0).settle = some 0 ∧ (s.fp 0).fill = .settling ∧ (s.meter 0).txn = some txn) ∧
    (s.site.state ≠ .shutdown ∧ s.site.params.ventPressure < 501 ∧ 500 ≤ s.site.params.ventPressure ∧ (s.fp 0).reason = some .targetSoc) ∧
    (let v := fpAt (fun f => { f with fill := .venting, vent := some 0 })
     (v.fp 0).vent = some 0 ∧ (v.fp 0).fill = .venting) ∧ (base.fp 0).vent ≠ some 0 := by decide +kernel

theorem witness_SettlingAndVentingEnd_waits :
    (flowingAt (fun f => { f with fill := .settling, sub := none, settle := some 0, reason := some .targetSoc })).WaitOk :=
  ⟨by decide +kernel, by decide +kernel⟩

/-- The segment counter at its length and one short; pending entries with and without a rate; the grace with and without a
warmer class; the watch at 300 and at 299. -/
theorem witness_RampBoundariesAndDowngrades :
    let p : RampEntry := { cls := .t30, band := .a4, category := .s, rate := 12000, endPressure := 70000 }
    let s := flowingAt (fun f => { f with segment := 50, switchPending := true, pendingEntry := some p })
    (s.clockRuns 0 = true ∧ s.site.params.segment ≤ (s.fp 0).segment ∧ ¬ s.site.params.segment ≤ 49) ∧
    ((s.fp 0).switchPending = true ∧ (s.fp 0).pendingEntry = some p ∧ p.rate ≠ 0 ∧ (s.fp 0).link ≠ .stacked ∧
      (s.fp 0).active.map (·.cls) ≠ some p.cls ∧ (s.reservation 0).cls = some .t40 ∧ PrecoolClass.t40.code < p.cls.code) ∧
    (flowing.fp 0).switchPending = false ∧ (300 ≤ 300 ∧ 299 < 300) ∧
    (let g := flowingAt (fun f => { f with grace := some 0 })
     (g.fp 0).grace = some 0 ∧ PrecoolClass.t30 ∈ (g.fp 0).entry.allowed ∧ PrecoolClass.t20 ∉ (g.fp 0).entry.allowed ∧
     (sel g.ramp (rampIndex .t30 .h70 .a3 .s)).rate ≠ 0) := by decide +kernel

/-- A boundary that ends a synchronous hold, with no level hold and with one. -/
theorem witness_RampBoundariesAndDowngrades_sync :
    let s := flowingAt (fun f => { f with sub := some .hold, sync := true, segment := 50 })
    let h := flowingAt (fun f => { f with sync := true, segment := 50, hostHold := true })
    (∀ t ∈ [s, h], t.clockRuns 0 = true ∧ t.site.params.segment ≤ (t.fp 0).segment ∧ (t.fp 0).switchPending = false ∧
      (t.fp 0).sync = true ∧ (t.fp 0).link ≠ .stacked) ∧ s.levelHold 0 = false ∧ h.levelHold 0 = true := by decide +kernel

/-- A gas temperature at the class's window and above it, the watch open and not, a grace that stands, and its fall. -/
theorem witness_RampBoundariesAndDowngrades_gas :
    let s := chanOn (.gasT 0) (flowingAt (fun f => { f with watchOpen := true, grace := some 40 }))
    ((∃ c x, s.Delivers 40 (.gasT 0) c 2330 x) ∧ ∃ c x, s.Delivers 40 (.gasT 0) c 2331 x) ∧
    (∃ x, s.FallsHeld 40 (.gasT 0) (.stalenessExpiry 40) x) ∧
    (s.csInbox = [] ∧ (s.fp 0).fill = .filling ∧ (s.fp 0).sub = some .flow ∧ (s.fp 0).watchOpen = true ∧
      (s.fp 0).switchPending = false ∧ (s.fp 0).active.map (·.cls) = some .t40 ∧ s.pcm.entry.t40.window = 2330) ∧
    ((flowing.fp 0).watchOpen = false ∧ (base.fp 0).fill ≠ .filling) :=
  ⟨⟨chanOn_delivers _ _ _ (by decide), chanOn_delivers _ _ _ (by decide)⟩, (chanOn_falls _ _).1, by decide +kernel, by decide +kernel⟩

theorem witness_RampBoundariesAndDowngrades_waits : flowing.WaitOk := flowing_waitOk

/-! ### Witnesses: meters and the store -/

/-- Pulses at the largest rate and past it; inside and outside the window; at the preset and one pulse short; creep beyond its
limit; a pulse that is ten tenths old. -/
theorem witness_PulsesAreMetered :
    ((flowing.fp 0).loaded = true ∧ (base.fp 3).loaded = false) ∧
    (let s := modFp 0 (fun f => { f with entry := { fpEntry with maxPulseRate := 1 } }) (modMeter 0 (fun m => { m with pulses := [29991] }) flowing)
     (s.fp 0).entry.maxPulseRate <
      ((s.meter 0).pulses.filter (fun t => decide ((s.site.clock - t).toNat < 10)) ++ [s.site.clock]).length) ∧
    (base.meter 0).window = false ∧ (50000 < 49980 + 20 + 1 ∧ ¬ 50 * 1000 < 49980 + 20) ∧
    ((flowing.meter 0).window = true ∧ (flowing.meter 0).txn = some txn ∧ txn.draw ≠ [] ∧ (flowing.fp 0).link ≠ .stacked) ∧
    drawSum txn.draw = txn.mass ∧ (700020 ≤ txn.mass + 20 ∧ ¬ 700021 ≤ txn.mass + 20) ∧
    ((flowing.reservation 0).state = .admitted ∧ (flowing.reservation 0).cls = some .t40) ∧
    (10 ≤ ((30000#32 : Clock) - 29990#32).toNat ∧ ((30000#32 : Clock) - 29991#32).toNat < 10) := by decide +kernel

/-- A pulse rate exceeded in LINK_WAIT, PRECOOL_WAIT and SETTLING. -/
theorem witness_PulsesAreMetered_rate :
    let fast := fun (s : State) => modFp 0 (fun f => { f with entry := { fpEntry with maxPulseRate := 0 } }) s
    (fast waitingLink).WaitOk ∧ (fast waitingCold).WaitOk ∧
    (((fast waitingLink).fp 0).fill = .linkWait ∧ ((fast waitingCold).fp 0).fill = .precoolWait ∧ 
      ((fast (flowingAt (fun f => { f with fill := .settling }))).fp 0).fill.running = false ∧
      ((fast waitingLink).fp 0).loaded = true) :=
  ⟨⟨by decide +kernel, by decide +kernel⟩, ⟨by decide +kernel, by decide +kernel⟩, by decide +kernel⟩

theorem witness_PulsesAreMetered_waits : flowing.WaitOk := flowing_waitOk

/-- A write in flight at the end of its time and before it, with a change pending and without; no write. -/
theorem witness_WritesEnd :
    let w : Write := { id := 7, image := { image := RetainedImage.empty, check := 0x260A }, timer := some 0 }
    let s := modCqr (fun c => { c with write := some w, pendingChange := true }) base
    (s.cqr.write = some w ∧ w.timer = some 0 ∧ s.cqr.pendingChange = true) ∧ (8 ≠ w.id) ∧ base.cqr.write = none ∧
    ({ w with timer := some 1 } : Write).timer ≠ some 0 ∧ base.cqr.pendingChange = false ∧ s.cqr.store = .blank ∧
    (∀ st ∈ [StoreContents.holds w.image, .unsure w.image], (modCqr (fun c => { c with store := st }) s).cqr.store = st) := by
  decide +kernel

/-! ### Witnesses: the whole part -/

/-- A store below a ceiling and at it; a HELD store; an entry in its ranges. -/
theorem witness_AvailableColdIsR30 :
    base.pcm.tcs < base.pcm.entry.t40.ceiling ∧ 2280 ≤ (modPcm (fun p => { p with tcs := 2280 }) base).pcm.tcs ∧
    ¬ ((base.pcm.chiller = .tripped ∨ base.pcm.chiller = .disabled) ∨ base.pcm.tcsGood = false) ∧
    (State.reset.pcm.tcsGood = false) ∧ precoolInRange base.pcm.entry = true ∧ 1000 ≤ base.pcm.tcs := by decide +kernel

theorem witness_TablesChangeOnlyByLoads : Loads (.fpStart 0) = false ∧ (∃ t, exec (.fpStart 0) startable = .next t) ∧
    base.pending = [] ∧ ∃ t, step base = .next t := ⟨rfl, ⟨_, rfl⟩, rfl, ⟨_, rfl⟩⟩

/-- A state with a fill running, in which every invariant of the statement holds, and a step from it. -/
theorem witness_InvariantsHoldAfterEveryStep :
    (∃ t, step flowing = .next t) ∧ flowing.ArbiterOk ∧ flowing.QueueOk ∧ flowing.WaitOk ∧ flowing.SiteOk ∧ flowing.ChannelsOk ∧
    flowing.SumsOk ∧ ∀ l e rest, flowing.pending ≠ .powerOnReset l e :: rest := by
  refine ⟨⟨_, rfl⟩, flowing_arbiterOk, (by decide +kernel : consecutive _ _ = true), flowing_waitOk, ?_, ?_, ?_, ?_⟩
  · exact ⟨by decide +kernel, by decide +kernel, by decide +kernel, by decide +kernel, by decide +kernel, by decide +kernel⟩
  · intro i
    have h : flowing.chan i = Channel.reset := by
      simp [State.chan, flowing, connected, modMeter, modReservation, modLink, setHolder, fpAt, modFp, modLine, base, State.reset, sel]
    rw [h]; exact ⟨by decide, by decide, by decide, by decide⟩
  · refine ⟨?_, ?_⟩
    · have h0 : ∀ i : FpId, ((flowing.meter i).txn.map (fun x => drawSum x.draw == x.mass)).getD true = true := by decide +kernel
      intro i t h
      simpa [h] using h0 i
    · have h0 : flowing.cqr.queue = [] := by decide +kernel
      intro r h
      rw [h0] at h
      cases h
  · intro l e rest h
    exact absurd h (by rw [show flowing.pending = [] from rfl]; simp)

end Sys2Proof.Tests
end

section
/-!
PROOFS. Available and free cold of a class (5.1, R30): the model's functions, said once each, and the statement O57.
-/
namespace Sys2Proof.Machine

variable {s : State} {c : PrecoolClass} {f : ClassFields}

/-- The three classes with cold of their own, paired with their fields, are those `classParams` answers for. -/
theorem classParams_of_mem {e : PrecoolFields}
    (h : (c, f) ∈ [(PrecoolClass.t40, e.t40), (.t30, e.t30), (.t20, e.t20)]) : classParams e c = some f := by
  simp only [List.mem_cons, List.not_mem_nil, or_false, Prod.mk.injEq] at h
  obtain ⟨rfl, rfl⟩ | ⟨rfl, rfl⟩ | ⟨rfl, rfl⟩ := h <;> rfl

/-- The formula of R30 for a class with fields; at or above the ceiling the natural subtraction gives the 0 of the rule. -/
theorem avail_of_classParams (h : classParams s.pcm.entry c = some f) :
    s.avail c = if (s.pcm.chiller = .tripped ∨ s.pcm.chiller = .disabled) ∨ s.pcm.tcsGood = false then 0
      else s.pcm.entry.cs * (f.ceiling - s.pcm.tcs) / 10 := by
  rw [State.avail, h]
  cases s.pcm.chiller <;> cases s.pcm.tcsGood <;> rfl

@[simp] theorem avail_tamb : s.avail .tamb = 0 := rfl

theorem free_eq : s.free c = s.avail c - s.outstandingSum := rfl

@[simp] theorem free_tamb : s.free .tamb = 0 := by simp [free_eq]

/-- The sum of R30 written out over the four fuelling points. -/
theorem outstandingSum_eq : s.outstandingSum =
    (s.reservation 0).outstanding + (s.reservation 1).outstanding + (s.reservation 2).outstanding +
      (s.reservation 3).outstanding := by
  have records_eq : s.pcm.records.toList = [s.reservation 0, s.reservation 1, s.reservation 2, s.reservation 3] :=
    List.ext_getElem (by simp) fun n hn _ => by
      have : n < 4 := by simpa using hn
      interval_cases n <;> simp [State.reservation, sel]
  simp [State.outstandingSum, records_eq, Nat.add_assoc]

/-- TAMB's admission asks for the allowed class and a rate only. -/
theorem classAdmits_tamb_iff (i : FpId) (e : Nat) (t : Category) : s.classAdmits i e t .tamb = true ↔
    PrecoolClass.tamb ∈ (s.fp i).entry.allowed ∧ (s.rampRow i .tamb s.pcm.band t).rate ≠ 0 := by
  simp [State.classAdmits]

/-- The ranges of R76 that bound the available cold. -/
theorem bounds_of_precoolInRange {e : PrecoolFields} (hr : precoolInRange e = true) (h : classParams e c = some f) :
    e.cs ≤ 10000 ∧ f.ceiling ≤ 4500 := by
  simp only [precoolInRange, classInRange, inRange, Bool.and_eq_true, decide_eq_true_eq] at hr
  cases c <;> cases h <;> omega

/-- The bound of R30: a store at 1000 or above, as every temperature channel's scale gives, is at most 3,500 below a ceiling
in range. -/
theorem avail_le_of_inRange (hr : precoolInRange s.pcm.entry = true) (ht : 1000 ≤ s.pcm.tcs)
    (h : classParams s.pcm.entry c = some f) : s.avail c ≤ 3500000 := by
  obtain ⟨hcs, hceiling⟩ := bounds_of_precoolInRange hr h
  have hdist : f.ceiling - s.pcm.tcs ≤ 3500 := by omega
  have hprod : s.pcm.entry.cs * (f.ceiling - s.pcm.tcs) ≤ 10000 * 3500 := Nat.mul_le_mul hcs hdist
  rw [avail_of_classParams h]
  split <;> omega

/-- Settles O57: each class's clauses are read off the one equation of its available cold. -/
theorem availableColdIsR30 : Obligations.AvailableColdIsR30 := by
  intro s
  refine ⟨fun c f hmem => ?_, avail_tamb, free_tamb, classAdmits_tamb_iff⟩
  have hparams := classParams_of_mem hmem
  have havail := avail_of_classParams hparams
  refine ⟨fun hout => ?_, fun hceiling => ?_, fun hin hbelow => ?_, ?_, fun hr ht => avail_le_of_inRange hr ht hparams⟩
  · rw [havail, if_pos hout]
  · simp [havail, Nat.sub_eq_zero_of_le hceiling]
  · rw [havail, if_neg hin]
    push_cast [Nat.cast_sub hbelow.le]
    rfl
  · rw [free_eq, outstandingSum_eq]
    omega

end Sys2Proof.Machine
end

section
/-!
PROOFS. REMOVE_COMPLETION (10.4, R178): what a marked change of the retained image does (R181), what the queue's owner answers
in each case, and the statement O11.
-/
namespace Sys2Proof.Machine

variable {s : State} {n : Nat} {r : Record} {rest : List Record}

/-! ### A marked change (R181) -/

/-- With no write in flight a marked change starts one. -/
theorem mark_of_idle {c : Cqr} (h : c.write = none) : c.mark = c.startWrite := by
  rw [Cqr.mark, h]

/-- With a write in flight a marked change is kept for the next. -/
theorem mark_of_writing {c : Cqr} (h : c.write.isSome) : c.mark = { c with pendingChange := true } := by
  obtain ⟨w, hw⟩ := Option.isSome_iff_exists.mp h
  rw [Cqr.mark, hw]

@[simp] theorem mark_slots (c : Cqr) : c.mark.slots = c.slots := by unfold Cqr.mark; split <;> rfl
@[simp] theorem mark_totals (c : Cqr) : c.mark.totals = c.totals := by unfold Cqr.mark; split <;> rfl
@[simp] theorem mark_fault (c : Cqr) : c.mark.fault = c.fault := by unfold Cqr.mark; split <;> rfl
@[simp] theorem mark_lost (c : Cqr) : c.mark.lost = c.lost := by unfold Cqr.mark; split <;> rfl

/-! ### The head leaves the queue (R173, R178) -/

/-- The completion queue with `rest` behind its head and the head's slot free, before the change is marked. -/
def Cqr.dropHead (rest : List Record) (c : Cqr) : Cqr := { c with queue := rest, slots := c.slots - 1 }

@[simp] theorem dropHead_queue (c : Cqr) : (c.dropHead rest).queue = rest := rfl
@[simp] theorem dropHead_slots (c : Cqr) : (c.dropHead rest).slots = c.slots - 1 := rfl
@[simp] theorem dropHead_nextNumber (c : Cqr) : (c.dropHead rest).nextNumber = c.nextNumber := rfl
@[simp] theorem dropHead_totals (c : Cqr) : (c.dropHead rest).totals = c.totals := rfl
@[simp] theorem dropHead_write (c : Cqr) : (c.dropHead rest).write = c.write := rfl
@[simp] theorem dropHead_fault (c : Cqr) : (c.dropHead rest).fault = c.fault := rfl
@[simp] theorem dropHead_lost (c : Cqr) : (c.dropHead rest).lost = c.lost := rfl

/-- A removal while a write is in flight leaves that write alone and waits for the next. -/
theorem mark_dropHead_writing {c : Cqr} (h : c.write.isSome) :
    (c.dropHead rest).mark.write = c.write ∧ (c.dropHead rest).mark.pendingChange = true := by
  rw [mark_of_writing (by simpa using h)]
  exact ⟨rfl, rfl⟩

/-- A removal while no write is in flight starts the write of an image without the head. -/
theorem mark_dropHead_idle {c : Cqr} (h : c.write = none) :
    (c.dropHead rest).mark.pendingChange = c.pendingChange ∧
      ∃ w, (c.dropHead rest).mark.write = some w ∧ w.timer = some 50 ∧ w.image.image.records = rest ∧
        w.image.image.nextNumber = c.nextNumber ∧ w.image.image.totals = c.totals := by
  rw [mark_of_idle (by simpa using h)]
  exact ⟨rfl, _, rfl, rfl, rfl, rfl, rfl⟩

theorem queueNotEmpty_ceases_iff : s.holds .queueNotEmpty = false ↔ s.cqr.queue = [] := by
  simp [State.holds]

/-! ### The owner's answer (R178) -/

theorem removeCompletion_zero : ownRemoveCompletion 0 s = refuse s .badField := rfl

theorem removeCompletion_empty (hn : n ≠ 0) (hq : s.cqr.queue = []) :
    ownRemoveCompletion n s = refuse s .mismatch := by
  rw [ownRemoveCompletion, if_neg hn, hq]

theorem removeCompletion_other (hn : n ≠ 0) (hq : s.cqr.queue = r :: rest) (hr : r.number ≠ n) :
    ownRemoveCompletion n s = refuse s .mismatch := by
  simp only [ownRemoveCompletion, if_neg hn, hq, if_neg hr]

theorem removeCompletion_head (hn : n ≠ 0) (hq : s.cqr.queue = r :: rest) (hr : r.number = n) :
    ownRemoveCompletion n s =
      (modCqr (fun c => (c.dropHead rest).mark) s, .accepted (be 4 n ++ be 1 rest.length)) := by
  simp only [ownRemoveCompletion, if_neg hn, hq, if_pos hr]
  rfl

theorem exec_removeCompletion :
    exec (.removeCompletion n) s = request (.removeCompletion n) (ownRemoveCompletion n) s := rfl

/-- Settles O11: the three refusals and the removal are the four answers of the queue's owner. -/
theorem removeCompletionTakesOnlyTheHead : Obligations.RemoveCompletionTakesOnlyTheHead := by
  intro s n
  refine ⟨fun hn => ?zero, fun hn hq => ?empty, fun r rest hn hq hr => ?other, fun r rest hn hq hr => ?head⟩
  case zero => exact refuses_of exec_removeCompletion (hn ▸ removeCompletion_zero)
  case empty => exact refuses_of exec_removeCompletion (removeCompletion_empty hn hq)
  case other => exact refuses_of exec_removeCompletion (removeCompletion_other hn hq hr)
  case head =>
    refine ⟨_, answers_of exec_removeCompletion (removeCompletion_head hn hq hr), rfl, ?_⟩
    simp only [queueNotEmpty_ceases_iff, modCqr_cqr, mark_queue, mark_slots, mark_nextNumber, mark_totals, mark_fault,
      mark_lost, dropHead_queue, dropHead_slots, dropHead_nextNumber, dropHead_totals, dropHead_fault, dropHead_lost,
      true_and]
    exact ⟨mark_dropHead_writing, mark_dropHead_idle⟩

end Sys2Proof.Machine
end

section
/-!
PROOFS. The step and the requests (12.1, 12.2): which owner takes a request, that a refusal is the owner's state unchanged, and
the statements O1, O4 and O10.
-/
namespace Sys2Proof.Machine

variable {s t : State} {c : Instr} {own : State → State × Answer}

/-- The owner of a request off the link (R202); the field side's events have none. -/
def ownerOf : Instr → Option (State → State × Answer)
  | .readStatus => some ownReadStatus
  | .readFp fp => some (readUnit 4 fp fpReply)
  | .readBanks => some (readAll banksReply)
  | .readCompressor k => some (readUnit 2 k compressorReply)
  | .readPrecool => some (readAll precoolReply)
  | .readChannel ch => some (readUnit 48 ch fun s i => channelBytes (s.chan i))
  | .readCompletion => some (readAll fun s => completionReply s.cqr)
  | .removeCompletion n => some (ownRemoveCompletion n)
  | .readTotals => some (readAll fun s => totalsReply s.cqr)
  | .loadSite f => some (ownLoadSite f)
  | .loadDensityRow row entries => some (ownLoadDensityRow row entries)
  | .loadRampEntry f => some (ownLoadRampEntry f)
  | .loadPrecool f => some (ownLoadPrecool f)
  | .loadBank b f => some (ownLoadBank b f)
  | .loadCompressor k f => some (ownLoadCompressor k f)
  | .loadFp fp f => some (ownLoadFp fp f)
  | .loadChannel ch f => some (ownLoadChannel ch f)
  | .loadInput line f => some (ownLoadInput line f)
  | .loadValveMap pairs => some (ownLoadValveMap pairs)
  | .loadEventOutput line condition index polarity => some (ownLoadEventOutput line condition index polarity)
  | .setPrice pc price time => some (ownSetPrice pc price time)
  | .setTime value => some (ownSetTime value)
  | .commission => some ownCommission
  | .decommission => some ownDecommission
  | .openForecourt => some (ownForecourt true)
  | .closeForecourt => some (ownForecourt false)
  | .enterMaint => some ownEnterMaint
  | .leaveMaint => some ownLeaveMaint
  | .shutdownCommand => some ownShutdown
  | .resume => some ownResume
  | .softReset => some ownSoftReset
  | .authorize fp kind value presence soc => some (ownAuthorize fp kind value presence soc)
  | .cancelAuth fp => some (ownCancelAuth fp)
  | .fpStart fp => some (fpCommand fp ownFpStart)
  | .fpStop fp => some (fpCommand fp ownFpStop)
  | .fpHold fp => some (fpCommand fp ownFpHold)
  | .fpReleaseHold fp => some (fpCommand fp ownFpReleaseHold)
  | .fpClearFault fp => some (fpCommand fp ownFpClearFault)
  | .fpReset fp => some (fpCommand fp ownFpReset)
  | .bankClearFault b => some (ownBankClearFault b)
  | .compressorEnable k => some (compCommand k ownCompressorEnable)
  | .compressorDisable k => some (compCommand k ownCompressorDisable)
  | .compressorClearTrip k => some (compCommand k ownCompressorClearTrip)
  | .chillerEnable => some ownChillerEnable
  | .chillerDisable => some ownChillerDisable
  | .chillerClearTrip => some ownChillerClearTrip
  | .valveMode line mode => some (ownValveMode line mode)
  | .clearCreep fp => some (ownClearCreep fp)
  | _ => none

/-- A command with an owner is that owner's event, then SLI's answer. -/
theorem exec_of_owner (h : ownerOf c = some own) (s : State) : exec c s = request c own s := by
  cases c <;> cases h <;> rfl

/-- Every request that the link can carry has an owner. -/
theorem owner_of_encoded (h : (encodeRequest 0 c).isSome) : ∃ own, ownerOf c = some own := by
  cases c <;> first | exact ⟨_, rfl⟩ | cases h

/-! ### Refusals (R202) -/

/-- The owner changes nothing where it refuses. -/
def KeepsRefused (own : State → State × Answer) : Prop := ∀ s r, (own s).2 = .refused r → (own s).1 = s

theorem KeepsRefused.load {body : State → State × Answer} (h : KeepsRefused body) : KeepsRefused (load body) := by
  intro s r
  unfold Machine.load
  split
  · exact h s r
  · exact fun _ => rfl

theorem KeepsRefused.fpCommand {body : FpId → State → State × Answer} (h : ∀ i, KeepsRefused (body i)) (fp : Nat) :
    KeepsRefused (fpCommand fp body) := by
  intro s r
  unfold Machine.fpCommand
  split
  · split
    · exact h _ s r
    · exact fun _ => rfl
  · exact fun _ => rfl

theorem KeepsRefused.compCommand {body : CompId → State → State × Answer} (h : ∀ k, KeepsRefused (body k)) (k : Nat) :
    KeepsRefused (compCommand k body) := by
  intro s r
  unfold Machine.compCommand
  split
  · exact h _ s r
  · exact fun _ => rfl

theorem KeepsRefused.readUnit {n unit : Nat} {reply : State → Fin n → List Byte} : KeepsRefused (readUnit n unit reply) := by
  intro s r
  unfold Machine.readUnit
  split <;> exact fun _ => rfl

/-- A body that refuses on its own state and accepts elsewhere: every leaf of the owner's tests is one or the other. -/
theorem owner_keepsRefused (h : ownerOf c = some own) : KeepsRefused own := by
  cases c <;> cases h <;>
    first
    | exact KeepsRefused.readUnit
    | refine KeepsRefused.fpCommand (fun i => ?_) _
    | refine KeepsRefused.compCommand (fun k => ?_) _
    | refine KeepsRefused.load ?_
    | skip
  all_goals
    intro s r
    simp only [readAll, ownReadStatus, ownRemoveCompletion, ownLoadDensityRow, ownLoadBank, ownLoadValveMap, load,
      ownSetPrice, ownSetTime, ownCommission, ownDecommission, ownForecourt, ownEnterMaint, ownLeaveMaint, ownShutdown, ownResume, ownSoftReset,
      siteAccept, ownAuthorize, ownCancelAuth, ownClearCreep, ownFpStart, ownFpStop, ownFpHold, ownFpReleaseHold,
      ownFpClearFault, ownFpReset, ownBankClearFault, ownCompressorEnable, ownCompressorDisable, ownCompressorClearTrip,
      ownChillerEnable, ownChillerDisable, ownChillerClearTrip, ownValveMode, accept]
    repeat' split
    all_goals first | exact fun _ => rfl | nofun

/-- Settles O4: a refused request is its owner's state unchanged, and SLI moves its answer alone. -/
theorem refusalChangesNothing : Obligations.RefusalChangesNothing := by
  intro c s t r hc hexec hans
  obtain ⟨own, hown⟩ := owner_of_encoded hc
  rw [exec_of_owner hown, request] at hexec
  cases hexec
  have hr : (own s).2 = .refused r := by simpa using hans
  rw [unanswered_answer, owner_keepsRefused hown s r hr]

/-! ### The step, and the request that reads the summary -/

/-- Settles O1: it is the step's own first branch. -/
theorem stepTakesFrontCommand : Obligations.StepTakesFrontCommand := by
  intro s c rest h
  rw [step, h]

/-- SLI's answer does not touch the summary. -/
theorem answer_summary (r : State × Answer) : (answer c r).sli.summary = r.1.sli.summary := by
  unfold answer
  split
  · split <;> rfl
  · rfl

/-- What the forming of a status reply takes from the summary is all of it (R207). -/
theorem readStatus_summary (s : State) : (ownReadStatus s).1.sli.summary = 0 := by
  simp [ownReadStatus, modSli_sli]

/-- The status reply begins with the summary and the link error counter (12.5). -/
theorem statusReply_head (s : State) : ∃ d, statusReply s = be 2 s.sli.summary.toNat ++ be 2 s.sli.errors ++ d := by
  simp only [statusReply, List.append_assoc]
  exact ⟨_, rfl⟩

/-- Settles O10: the reply is SLI's own, and the flags it carries are all that stand. -/
theorem readStatusTakesTheSummary : Obligations.ReadStatusTakesTheSummary := by
  intro s
  obtain ⟨d, hd⟩ := statusReply_head s
  have hsum : (answer .readStatus (ownReadStatus s)).sli.summary = 0 := by rw [answer_summary, readStatus_summary]
  refine ⟨_, d, rfl, ?answer, hsum, by simp [State.attn, hsum], ?rest⟩
  case answer => rw [answer_answer, ← hd, ownReadStatus]
  case rest =>
    rw [unanswered_answer]
    simp [ownReadStatus, State.unanswered, modSli]

end Sys2Proof.Machine
end

section
/-!
PROOFS. What every step keeps: the invariants of the arbiter (R50), the completion queue (R176), the wait list (R93), the site
(R186), the channels (R4, R5) and the draw lists (R163), and, but for a load, the loaded tables. The running of the blocks and
the entries into site states are the Runs and Events of Laws/; each command is one of those, with a small update before it.
The statements O58, O59 and O60.
-/
namespace Sys2Proof.Machine

variable {l w : Bool} {s t u : State}

/-! ### What is kept -/

/-- From `s` to `t` every invariant is kept, and, where `l` is false, every loaded table. -/
structure Keeps (l : Bool) (s t : State) : Prop where
  arb : s.ArbiterOk → t.ArbiterOk
  queue : s.QueueOk → t.QueueOk
  wait : s.WaitOk → t.WaitOk
  site : s.SiteOk → t.SiteOk
  chans : s.ChannelsOk → t.ChannelsOk
  sums : s.SumsOk → t.SumsOk
  tables : l = false → t.tables = s.tables

theorem Keeps.refl (s : State) : Keeps l s s := ⟨id, id, id, id, id, id, fun _ => rfl⟩

theorem Keeps.trans (h : Keeps l s t) (k : Keeps l t u) : Keeps l s u :=
  ⟨k.arb ∘ h.arb, k.queue ∘ h.queue, k.wait ∘ h.wait, k.site ∘ h.site, k.chans ∘ h.chans, k.sums ∘ h.sums,
    fun e => (k.tables e).trans (h.tables e)⟩

/-- The tables are read off the fixed part of the state, the site's own state left out. -/
def Fixed.tables (f : Fixed) : Tables :=
  { channels := f.chans.map Channel.entryOnly, lines := f.lines.map InLine.entryOnly, roleMap := f.roleMap,
    events := f.events, density := f.density, ramp := f.ramp, banks := f.banks, compressors := f.compressors, fps := f.fps,
    precool := f.precool, params := (f.site.params, f.site.paramsLoaded) }

theorem tables_eq (s : State) : s.tables = s.fixed.unsited.tables := rfl

/-- Each invariant reads its own parts of the state alone. -/
theorem arbiterOk_of (a : s.ArbiterOk) (ho : t.holder = s.holder) (st : t.stacked = s.stacked) : t.ArbiterOk := by
  have e1 : t.holderOf = s.holderOf := by unfold State.holderOf; rw [ho]
  have e2 : t.stackedAt = s.stackedAt := by unfold State.stackedAt; rw [st]
  exact ⟨by rw [e1]; exact a.oneGrant, by rw [e1, e2]; exact a.noHolderWaits, by rw [e2]; exact a.oneSet,
    by rw [e2]; exact a.once⟩

theorem queueOk_of (a : s.QueueOk) (q : t.cqr = s.cqr) : t.QueueOk := by
  unfold State.QueueOk at *
  rwa [q]

theorem waitOk_of (a : s.WaitOk) (wl : t.pcm.waitList = s.pcm.waitList) (rs : t.pcm.records = s.pcm.records) : t.WaitOk := by
  have e : t.reservation = s.reservation := by unfold State.reservation; rw [rs]
  exact ⟨by rw [wl]; exact a.once, by rw [wl, e]; exact a.members⟩

theorem sumsOk_of (a : s.SumsOk) (q : t.cqr = s.cqr) (m : t.mtu = s.mtu) : t.SumsOk := by
  have e : t.meter = s.meter := by unfold State.meter; rw [m]
  exact ⟨by rw [e]; exact a.txns, by rw [q]; exact a.records⟩

theorem channelsOk_of (a : s.ChannelsOk) (c : t.chans = s.chans) : t.ChannelsOk := by
  unfold State.ChannelsOk State.chan at *
  rwa [c]

/-- A change outside the arbiter, the queue, the wait list and the meters. -/
theorem Keeps.of_parts (tables : l = false → t.tables = s.tables) (site : s.SiteOk → t.SiteOk)
    (chans : s.ChannelsOk → t.ChannelsOk) (ho : t.holder = s.holder := by rfl) (st : t.stacked = s.stacked := by rfl)
    (q : t.cqr = s.cqr := by rfl) (m : t.mtu = s.mtu := by rfl) (wl : t.pcm.waitList = s.pcm.waitList := by rfl)
    (rs : t.pcm.records = s.pcm.records := by rfl) : Keeps l s t :=
  ⟨fun a => arbiterOk_of a ho st, fun a => queueOk_of a q, fun a => waitOk_of a wl rs, site, chans, fun a => sumsOk_of a q m,
    tables⟩

/-- An event of the blocks or of the site keeps everything. -/
theorem Event.keeps (h : Event w s t) : Keeps l s t where
  arb := h.arb
  queue := h.queue
  wait := h.wait
  site := h.site
  chans := fun a => channelsOk_of a (congrArg Fixed.chans h.rest)
  sums := h.sums
  tables := fun _ => by rw [tables_eq, tables_eq, h.rest]

theorem Keeps.event (h : Keeps l s t) (k : Event w t u) : Keeps l s u := h.trans k.keeps
theorem Keeps.runs (h : Keeps l s t) (k : Runs w t u) : Keeps l s u := h.event k.event

/-- SLI, the commands that wait and the prices are in no invariant and in no table. -/
theorem Keeps.modSli (f : Sli → Sli) : Keeps l s (modSli f s) := .of_parts (fun _ => rfl) (fun h => siteOk_of h rfl rfl) id
theorem Keeps.pending (p : List Instr) : Keeps l s { s with pending := p } :=
  .of_parts (fun _ => rfl) (fun h => siteOk_of h rfl rfl) id
theorem Keeps.prices (p : Vector Price 2) : Keeps l s { s with prices := p } :=
  .of_parts (fun _ => rfl) (fun h => siteOk_of h rfl rfl) id

theorem Keeps.answer {c : Instr} {r : State × Answer} (h : Keeps l s r.1) : Keeps l s (answer c r) := by
  unfold Machine.answer
  split
  · split <;> exact h.trans (.modSli _)
  · exact h.trans (.modSli _)

/-! ### Channels (R2 to R5, R8) -/

/-- One channel moves and stays within its own rule. -/
theorem Keeps.modChan {i : ChanId} {f : Channel → Channel} (ok : (s.chan i).Ok → (f (s.chan i)).Ok)
    (entry : l = false → (f (s.chan i)).entryOnly = (s.chan i).entryOnly) : Keeps l s (modChan i f s) := by
  refine .of_parts (fun e => ?_) (fun h => siteOk_of h rfl rfl) fun h j => ?_
  · simp only [State.tables, modChan_chans]
    rw [map_upd _ _ _ _ (entry e)]
    rfl
  · rw [modChan_chan]
    split
    · exact ok (h i)
    · exact h j

theorem Channel.Ok.arrived {c : Channel} (h : c.Ok) (n : c.binding ≠ .unused) (now : Clock) : (c.arrived now).Ok :=
  ⟨h.count, h.failed, h.good, fun e => absurd e n⟩

theorem Channel.Ok.accept {c : Channel} (n : c.binding ≠ .unused) (v : Nat) : (c.accept v).Ok :=
  ⟨by simp [Channel.accept], by simp [Channel.accept], by simp [Channel.accept], fun e => absurd e n⟩

/-- A channel that rejects a sample is FAILED with its third, and keeps its status before (R4). -/
theorem Channel.Ok.reject {c : Channel} (h : c.Ok) (n : c.binding ≠ .unused) : c.reject.Ok := by
  obtain ⟨count, failed, good, -⟩ := h
  refine ⟨by simp [Channel.reject], ?_, ?_, fun e => absurd e n⟩ <;> simp only [Channel.reject]
  · split
    · intro _; omega
    · intro e; have := failed e; omega
  · split
    · nofun
    · intro e; have := good e; omega

theorem Channel.Ok.stale {c : Channel} (h : c.Ok) : Channel.Ok { c with status := .stale, staleTimer := none } :=
  ⟨h.count, nofun, nofun, fun _ => ⟨rfl, rfl⟩⟩

theorem Channel.Ok.restarted (c : Channel) (bd : Binding) (f : ChannelFields) : (c.restarted bd f).Ok :=
  ⟨by simp [Channel.restarted], nofun, nofun, fun _ => ⟨rfl, rfl⟩⟩

theorem Runs.fallFrom {i : ChanId} {c : Channel} : Runs true s (fallFrom i c s) := by
  unfold Machine.fallFrom
  exact ((Runs.refl s).postIf.tellHeld).ite (Runs.refl s).postIf

theorem Keeps.takeSample (i : ChanId) (raw : Nat) : Keeps l s (takeSample i raw s) := by
  unfold Machine.takeSample
  dsimp only
  split
  · exact .refl s
  · next n =>
    have harrived : Keeps l s (Machine.modChan i (fun c => c.arrived s.site.clock) s) :=
      .modChan (fun h => h.arrived n _) fun _ => rfl
    have hbound : ((Machine.modChan i (fun c => c.arrived s.site.clock) s).chan i).binding ≠ .unused := by
      rw [modChan_chan_self]; exact n
    split
    · exact (harrived.trans (.modChan (fun _ => Channel.Ok.accept hbound _) fun _ => rfl)).runs (Runs.refl _).deliver
    · exact (harrived.trans (.modChan (fun h => h.reject hbound) fun _ => rfl)).runs .fallFrom

theorem Keeps.goStale (i : ChanId) : Keeps l s (goStale i s) :=
  .runs (.modChan Channel.Ok.stale fun _ => rfl) .fallFrom

/-! ### Lines (R10 to R14) -/

/-- The levels of one line move. -/
theorem Keeps.modLine {i : LineId} {f : InLine → InLine}
    (entry : l = false → (f (s.line i)).entryOnly = (s.line i).entryOnly) : Keeps l s (modLine i f s) := by
  refine .of_parts (fun e => ?_) (fun h => siteOk_of h rfl rfl) id
  simp only [State.tables, modLine_lines]
  rw [map_upd _ _ _ _ (entry e)]
  rfl

theorem Keeps.rawChange (i : LineId) (level : Bool) : Keeps l s (rawChange i level s) := .modLine fun _ => rfl

theorem Keeps.filterDone (i : LineId) : Keeps l s (filterDone i s) := by
  unfold Machine.filterDone
  split
  · exact (Keeps.modLine fun _ => rfl).event (w := true) (Event.refl _).lineChanged
  · exact .refl s

/-! ### The calendar and the prices (R161, R162, R198) -/

theorem Keeps.activatePrice (c : PressureClass) : Keeps l s (activatePrice c s) := by
  unfold Machine.activatePrice
  split
  · split
    · exact (Keeps.prices _).trans (.modSli _)
    · exact .refl s
  · exact .refl s

theorem Keeps.activatePrices : Keeps l s (activatePrices s) := (Keeps.activatePrice _).trans (.activatePrice _)

/-- The calendar moves once it is set. -/
theorem Keeps.calendar {f : Site → Site} (set : (f s.site).calendarSet = true) (other : ∃ cal n,
    f s.site = { s.site with calendar := cal, calendarSet := (f s.site).calendarSet, secondCount := n }) :
    Keeps l s (modSite f s) := by
  obtain ⟨cal, n, e⟩ := other
  refine .of_parts (fun _ => ?_) (fun h => ?_) id
  · simp only [State.tables, modSite_site]
    rw [e]
    rfl
  · refine ⟨?_, ?_, ?_, ?_, ?_, ?_⟩ <;> simp only [modSite_site, modSite_lineModes]
    · rw [e]; exact h.forecourt
    · rw [e]; exact h.commissioned
    · rw [e]; exact h.cause
    · rw [e]; exact h.shutdown
    · rw [e]; exact h.forced
    · simp [set]

/-! ### The passing of time (R123, R166, R197, R198) -/

theorem sel_map {α β : Type} {n : Nat} (f : α → β) (v : Vector α n) (i : Fin n) : sel (v.map f) i = f (sel v i) := by
  simp [sel]

theorem tickTimer_eq_none {x : Timer} : tickTimer x = none ↔ x = none := by simp [tickTimer]

theorem Channel.Ok.tick {c : Channel} (h : c.Ok) : c.tick.Ok :=
  ⟨h.count, h.failed, h.good, fun e => ⟨(h.unused e).1, tickTimer_eq_none.mpr (h.unused e).2⟩⟩

theorem Fps.tick_entry (f : Fps) (runs : Bool) (n : Nat) :
    ((f.tick runs n).entry, (f.tick runs n).loaded) = (f.entry, f.loaded) := by
  unfold Fps.tick
  dsimp only
  split <;> rfl

theorem tick_chan (i : ChanId) : (tick s).chan i = (s.chan i).tick := sel_map _ _ _
theorem tick_reservation (i : FpId) : (tick s).reservation i = (s.reservation i).tick := sel_map _ _ _
theorem tick_meter (i : FpId) : (tick s).meter i = (s.meter i).tick (s.site.clock + 1) := sel_map _ _ _
theorem tick_fp (i : FpId) : (tick s).fp i = (s.fp i).tick (s.clockRuns i) s.site.params.segment := by
  simp [State.fp, tick, sel]

theorem tick_tables : (tick s).tables = s.tables := by
  have hfps : (tick s).fps.map (fun f => (f.entry, f.loaded)) = s.fps.map fun f => (f.entry, f.loaded) := by
    apply Vector.ext
    intro i hi
    rw [Vector.getElem_map, Vector.getElem_map]
    have := congrArg (fun f : Fps => (f.entry, f.loaded)) (tick_fp (s := s) ⟨i, hi⟩)
    rwa [Fps.tick_entry] at this
  simp only [State.tables, hfps]
  simp only [tick, Vector.map_map]
  rfl

theorem Keeps.tick : Keeps l s (tick s) where
  arb := fun h => ⟨h.oneGrant, h.noHolderWaits, h.oneSet, h.once⟩
  queue := id
  wait := fun h => ⟨h.once, fun i => by rw [tick_reservation]; exact h.members i⟩
  site := fun h => ⟨h.forecourt, h.commissioned, h.cause, h.shutdown, h.forced, h.calendar⟩
  chans := fun h i => by rw [tick_chan]; exact (h i).tick
  sums := fun h => ⟨fun i x => by rw [tick_meter]; exact h.txns i x, h.records⟩
  tables := fun _ => tick_tables

theorem Keeps.idle : Keeps l s (idle s) := by
  unfold Machine.idle
  split
  · split
    · exact .modSli _
    · exact .tick
  · exact Keeps.trans (t := { (freeChoice _ s).2 with pending := _ })
      (((Keeps.refl s).runs (w := false) (Runs.order (Runs.refl s))).trans (.pending _)) (.modSli _)

/-! ### The site's commands (R188 to R195) -/

/-- A change of the site record is looked at by the site's invariant alone. -/
theorem Keeps.modSite {f : Site → Site} (params : ((f s.site).params, (f s.site).paramsLoaded) =
    (s.site.params, s.site.paramsLoaded) ∨ l = true) (site : s.SiteOk → (modSite f s).SiteOk) :
    Keeps l s (modSite f s) := by
  refine .of_parts (fun e => ?_) site id
  have := params.resolve_right (by simp [e])
  simp only [State.tables, modSite_site, this]
  rfl

theorem setSite_parts (st : SiteState) (op : Bool) (c : ShutCause) (s : State) :
    ∃ n, setSite st op c s = Machine.modSli (fun l => { l with summary := n })
      (Machine.modSite (fun r => { r with state := st, forecourtOpen := op, cause := c }) s) := by
  unfold setSite postIf
  split
  · exact ⟨_, rfl⟩
  · exact ⟨s.sli.summary, rfl⟩

theorem Keeps.setSite {st : SiteState} {op : Bool} {c : ShutCause} (site : s.SiteOk → (setSite st op c s).SiteOk) :
    Keeps l s (setSite st op c s) := by
  obtain ⟨n, e⟩ := setSite_parts st op c s
  rw [e] at site ⊢
  exact (Keeps.modSite (.inl rfl) fun h => siteOk_of (site h) rfl rfl).trans (.modSli _)

/-- An entry of a site whose commissioned mark has just moved (R189, R190). -/
theorem Keeps.enters {st : SiteState} {c : ShutCause} {b : Bool}
    (site : s.SiteOk →
      (Machine.setSite st false c (closeForced (Machine.modSite (fun r => { r with commissioned := b }) s))).SiteOk) :
    Keeps l s (Machine.setSite st false c (closeForced (Machine.modSite (fun r => { r with commissioned := b }) s))) := by
  obtain ⟨n, e⟩ := setSite_parts st false c (closeForced (Machine.modSite (fun r => { r with commissioned := b }) s))
  rw [e] at site ⊢
  refine .of_parts (fun _ => ?_) site ?_ ?_ ?_ ?_ ?_ ?_ ?_ <;> unfold closeForced <;> split <;> first | rfl | exact id

/-- The record after an entry keeps the site's invariant, for the commissioned mark as it then stands, wherever the line modes
and the calendar agreed with it before. -/
theorem siteOk_entered {st : SiteState} {c : ShutCause} (forced : ∀ o, sel s.lineModes o = .forceOpen → s.site.state = .maintenance)
    (cal : s.site.calendarSet = false → s.site.calendar = 0) (u : st = .unconfigured ↔ s.site.commissioned = false)
    (sd : st = .shutdown → c ≠ .noCause) (k : c ≠ .noCause → st = .shutdown ∨ st = .powerdown) :
    (Machine.setSite st false c (closeForced s)).SiteOk := by
  refine ⟨by simp, by simpa using u, by simpa using k, by simpa using sd, fun o e => ?_, by simpa using cal⟩
  rw [setSite_lineModes] at e
  exact absurd e (closeForced_forced s forced o)

theorem cause_of_alarm {c : ShutCause} (h : s.alarm = some c) : c ≠ .noCause := by
  unfold State.alarm at h
  split at h <;> [skip; split at h <;> [skip; split at h]] <;> cases h <;> simp

/-- Where the landing choice of a commissioned site may fall, and with which cause (R188). -/
theorem landing_cases (h : s.site.commissioned = true) : s.landing.1 ≠ .unconfigured ∧
    (s.landing.1 = .shutdown → s.landing.2 ≠ .noCause) ∧
    (s.landing.2 ≠ .noCause → s.landing.1 = .shutdown ∨ s.landing.1 = .powerdown) := by
  unfold State.landing
  simp only [h, Bool.not_true, Bool.false_eq_true, if_false]
  split
  · simp
  · split
    · next c e => simpa using cause_of_alarm e
    · simp

theorem landing_uncommissioned (h : s.site.commissioned = false) : s.landing = (.unconfigured, .noCause) := by
  simp [State.landing, h]

/-- A landing agrees with the commissioned mark, and with the cause that it gives (R186, R188). -/
theorem landing_ok : (s.landing.1 = .unconfigured ↔ s.site.commissioned = false) ∧
    (s.landing.1 = .shutdown → s.landing.2 ≠ .noCause) ∧
    (s.landing.2 ≠ .noCause → s.landing.1 = .shutdown ∨ s.landing.1 = .powerdown) := by
  cases h : s.site.commissioned with
  | true =>
    obtain ⟨a, b, c⟩ := landing_cases h
    exact ⟨by simp [a], b, c⟩
  | false => simp [landing_uncommissioned h]

theorem Keeps.commissioned : Keeps l s (land (Machine.modSite (fun r => { r with commissioned := true }) s)) := by
  obtain ⟨u, sd, k⟩ := landing_ok (s := Machine.modSite (fun r => { r with commissioned := true }) s)
  exact (Keeps.enters (b := true) fun h => siteOk_entered h.forced h.calendar u sd k).runs (w := false) (land_enters _)

theorem Keeps.decommissioned :
    Keeps l s (enterUnconfigured (Machine.modSite (fun r => { r with commissioned := false }) s)) :=
  (Keeps.enters (st := .unconfigured) (c := .noCause) (b := false) fun h =>
    siteOk_entered h.forced h.calendar (by simp [modSite_site]) nofun
    fun e => absurd rfl e).runs (w := false) (enterUnconfigured_runs _)

theorem event_land : Event w s (land s) := by
  obtain ⟨u, sd, k⟩ := landing_ok (s := s)
  exact Event.then (event_setSite fun ok => siteOk_enter ok u sd k) (land_enters s)

theorem Keeps.land : Keeps l s (land s) := (event_land (w := false)).keeps

/-! ### SOFT_RESET (R195) -/

/-- The restart of MTU's windows, CHU, STM, the receivers and the line modes, after the fills are wound up. -/
def restartUnits (s : State) : State :=
  linksSoftReset (chuSoftReset (stmSoftReset { mtuSoftReset s with lineModes := Vector.replicate 64 .auto }))

theorem Channel.Ok.restart {c : Channel} :
    Channel.Ok { c with status := .stale, failCount := 0, staleTimer := none } :=
  ⟨by simp, nofun, nofun, fun _ => ⟨rfl, rfl⟩⟩

theorem restartUnits_chan (i : ChanId) : (restartUnits s).chan i =
    { s.chan i with status := .stale, failCount := 0, staleTimer := none } := sel_map _ _ _
theorem restartUnits_meter (i : FpId) : (restartUnits s).meter i =
    { s.meter i with window := false, flow := [], pulses := [] } := sel_map _ _ _

theorem restartUnits_tables : (restartUnits s).tables = s.tables := by
  simp only [restartUnits, linksSoftReset, chuSoftReset, stmSoftReset, mtuSoftReset, State.tables, Vector.map_map]
  rfl

theorem Keeps.restartUnits : Keeps l s (restartUnits s) where
  arb := fun h => ⟨h.oneGrant, h.noHolderWaits, h.oneSet, h.once⟩
  queue := id
  wait := fun h => ⟨h.once, h.members⟩
  site := fun h => ⟨h.forecourt, h.commissioned, h.cause, h.shutdown,
    fun o e => by simp [Machine.restartUnits, linksSoftReset, chuSoftReset, stmSoftReset] at e, h.calendar⟩
  chans := fun _ i => by rw [restartUnits_chan]; exact .restart
  sums := fun h => ⟨fun i x => by rw [restartUnits_meter]; exact h.txns i x, h.records⟩
  tables := fun _ => restartUnits_tables

theorem restartBlocks_eq : restartBlocks s = markChange (inAnyOrder (allComps.map csSoftReset) (Machine.restartUnits
    (allFps.foldl (fun s i => cancelAuthorization i s) (inAnyOrder (allFps.map softResetFp) (pcmSoftReset (emptyArbiter s)))))) :=
  rfl

theorem Keeps.restartBlocks : Keeps l s (restartBlocks s) := by
  rw [restartBlocks_eq]
  have h : Keeps l s _ := (Keeps.refl s).runs (w := false) (Runs.refl s).emptyArbiter.pcmSoftReset.softResetFps.cancelAll
  exact (h.trans .restartUnits).runs (w := false) (Runs.refl _).csSoftResets.markChange

/-- After the restart every line stands in AUTO. -/
theorem restartBlocks_auto (o : Fin 64) : sel (Machine.restartBlocks s).lineModes o = .auto := by
  rw [restartBlocks_eq]
  have h : ∀ u, (markChange (inAnyOrder (allComps.map csSoftReset) (Machine.restartUnits u))).lineModes =
      (Machine.restartUnits u).lineModes := fun u => (Runs.refl (w := false) _).csSoftResets.markChange.lineModes
  rw [h]
  exact sel_replicate _ _

theorem Keeps.landAfterReset (auto : ∀ o, sel s.lineModes o = .auto) : Keeps l s (landAfterReset s) := by
  unfold Machine.landAfterReset
  obtain ⟨u, sd, k⟩ := landing_ok (s := s)
  split
  · refine (Keeps.setSite fun ok => ⟨by simp, by simpa using u, by simpa using k, by simpa using sd, fun o e => ?_,
      by simpa using ok.calendar⟩).runs (w := false) (Runs.refl _).evalChiller
    rw [setSite_lineModes, auto] at e
    cases e
  · exact .land

/-! ### The owners of requests -/

/-- From `s` to `t` an owner took its request: the invariants and tables are kept, and SLI's waiting header is. -/
structure Served (l : Bool) (s t : State) : Prop extends Keeps l s t where
  awaiting : t.sli.awaiting = s.sli.awaiting

theorem Served.refl (s : State) : Served l s s := ⟨.refl s, rfl⟩

theorem Event.awaiting (h : Event w s t) : t.sli.awaiting = s.sli.awaiting :=
  congrArg (fun f : Fixed => f.sli.awaiting) h.rest

theorem Served.event (h : Served l s t) (k : Event w t u) : Served l s u := ⟨h.toKeeps.event k, k.awaiting.trans h.awaiting⟩
theorem Served.runs (h : Served l s t) (k : Runs w t u) : Served l s u := h.event k.event

/-- What a command does by the running of the blocks alone. -/
theorem Runs.served (h : Runs w s t) : Served l s t := (Served.refl s).runs h
theorem Event.served (h : Event w s t) : Served l s t := (Served.refl s).event h

/-- A table or a mark is replaced that stands in no invariant. -/
theorem Served.replace (site : t.site.state = s.site.state ∧ t.site.forecourtOpen = s.site.forecourtOpen ∧
      t.site.commissioned = s.site.commissioned ∧ t.site.cause = s.site.cause ∧ t.site.calendarSet = s.site.calendarSet ∧
      t.site.calendar = s.site.calendar := by exact ⟨rfl, rfl, rfl, rfl, rfl, rfl⟩)
    (modes : t.lineModes = s.lineModes := by rfl) (chans : t.chans = s.chans := by rfl)
    (ho : t.holder = s.holder := by rfl) (st : t.stacked = s.stacked := by rfl)
    (q : t.cqr = s.cqr := by rfl) (m : t.mtu = s.mtu := by rfl) (wl : t.pcm.waitList = s.pcm.waitList := by rfl)
    (rs : t.pcm.records = s.pcm.records := by rfl) (aw : t.sli.awaiting = s.sli.awaiting := by rfl) : Served true s t := by
  refine ⟨.of_parts nofun (fun h => ?_) (fun h => ?_) ho st q m wl rs, aw⟩
  · obtain ⟨e1, e2, e3, e4, e5, e6⟩ := site
    exact ⟨by rw [e1, e2]; exact h.forecourt, by rw [e1, e3]; exact h.commissioned, by rw [e1, e4]; exact h.cause,
      by rw [e1, e4]; exact h.shutdown, by rw [e1, modes]; exact h.forced, by rw [e5, e6]; exact h.calendar⟩
  · exact channelsOk_of h chans

/-- The owner keeps what `Served` says, whatever it answers. -/
def OwnerKeeps (l : Bool) (own : State → State × Answer) : Prop := ∀ s, Served l s (own s).1

theorem OwnerKeeps.load {body : State → State × Answer} (h : OwnerKeeps l body) : OwnerKeeps l (load body) := by
  intro s
  unfold Machine.load
  split
  · exact h s
  · exact .refl s

theorem OwnerKeeps.fpCommand {body : FpId → State → State × Answer} (h : ∀ i, OwnerKeeps l (body i)) (fp : Nat) :
    OwnerKeeps l (fpCommand fp body) := by
  intro s
  unfold Machine.fpCommand
  split
  · split
    · exact h _ s
    · exact .refl s
  · exact .refl s

theorem OwnerKeeps.compCommand {body : CompId → State → State × Answer} (h : ∀ k, OwnerKeeps l (body k)) (k : Nat) :
    OwnerKeeps l (compCommand k body) := by
  intro s
  unfold Machine.compCommand
  split
  · exact h _ s
  · exact .refl s

theorem OwnerKeeps.readUnit {n unit : Nat} {reply : State → Fin n → List Byte} : OwnerKeeps l (readUnit n unit reply) := by
  intro s
  unfold Machine.readUnit
  split <;> exact .refl s

theorem OwnerKeeps.readAll {reply : State → List Byte} : OwnerKeeps l (readAll reply) := fun s => .refl s

/-! #### Loads -/

theorem ownerKeeps_loadSite (f : SiteFields) : OwnerKeeps true (ownLoadSite f) := by
  refine .load fun s => ?_
  split
  · exact .replace
  · exact .refl s

theorem ownerKeeps_loadDensityRow (row : Nat) (entries : List Nat) : OwnerKeeps true (ownLoadDensityRow row entries) := by
  intro s
  unfold ownLoadDensityRow
  split
  · refine OwnerKeeps.load (fun s => ?_) s
    split
    · exact .refl s
    · split
      · exact .refl s
      · split
        · exact .refl s
        · exact .replace
  · exact .refl s

theorem ownerKeeps_loadRampEntry (f : RampFields) : OwnerKeeps true (ownLoadRampEntry f) := by
  refine .load fun s => ?_
  split
  · split
    · exact .replace
    · exact .refl s
  · exact .refl s

theorem ownerKeeps_loadPrecool (f : PrecoolFields) : OwnerKeeps true (ownLoadPrecool f) := by
  refine .load fun s => ?_
  split
  · exact Served.runs (w := false) .replace (Runs.refl _).evalChiller
  · exact .refl s

theorem Served.installBank (b : BankId) (e : BankEntry) : Served true s (installBank b e s) := by
  unfold Machine.installBank
  dsimp only
  refine Served.runs (w := true) (t := modBank b (fun k => { k with entry := e }) s) .replace ?_
  refine Runs.modBank (Runs.refillEval ?_) fun _ => rfl
  exact .ite (Runs.refl _).forceOff.takeSensor (Runs.refl _).forceOff.postFault

theorem ownerKeeps_loadBank (b : Nat) (f : BankFields) : OwnerKeeps true (ownLoadBank b f) := by
  intro s
  unfold ownLoadBank
  split
  · split
    · exact (Served.installBank _ _).runs (w := true) (Runs.refl _).settle
    · exact .refl s
  · exact .refl s

theorem ownerKeeps_loadCompressor (k : Nat) (f : CompressorFields) : OwnerKeeps true (ownLoadCompressor k f) := by
  refine .load fun s => ?_
  split
  · split
    · exact .refl s
    · split
      · exact .refl s
      · exact Served.runs (w := false) (t := installCompressor _ _ s) .replace (Runs.refl _).evalNeed.settle
  · exact .refl s

theorem ownerKeeps_loadFp (fp : Nat) (f : FpFields) : OwnerKeeps true (ownLoadFp fp f) := by
  refine .load fun s => ?_
  split
  · split
    · exact .refl s
    · exact .replace
  · exact .refl s

theorem ownerKeeps_loadChannel (ch : Nat) (f : ChannelFields) : OwnerKeeps true (ownLoadChannel ch f) := by
  refine .load fun s => ?_
  split
  · next i bd _ _ =>
    split
    · exact .refl s
    · have h : Served true s (Machine.modChan i (fun c => c.restarted bd f) s) :=
        ⟨.modChan (fun _ => .restarted _ bd f) nofun, rfl⟩
      exact h.runs (w := true) (Runs.ite (Runs.refl _).tellHeld (Runs.refl _)).settle
  · exact .refl s

theorem ownerKeeps_loadInput (line : Nat) (f : LineFields) : OwnerKeeps true (ownLoadInput line f) := by
  refine .load fun s => ?_
  split
  · split
    · exact .refl s
    · exact Served.event (w := true) .replace (event_installLine _ _ _ _ _ s).settle
  · exact .refl s

theorem ownerKeeps_loadValveMap (pairs : List (Nat × Nat)) : OwnerKeeps true (ownLoadValveMap pairs) := by
  intro s
  unfold ownLoadValveMap
  split
  · exact .refl s
  · refine OwnerKeeps.load (fun s => ?_) s
    dsimp only
    split
    · exact .refl s
    · split
      · exact .refl s
      · split
        · exact .refl s
        · exact .replace

theorem ownerKeeps_loadEventOutput (line condition index polarity : Nat) :
    OwnerKeeps true (ownLoadEventOutput line condition index polarity) := by
  refine .load fun s => ?_
  split
  · exact .replace
  · exact .refl s

/-! #### Reads, sales and the calendar -/

theorem ownerKeeps_readStatus : OwnerKeeps l ownReadStatus := fun s =>
  ⟨Keeps.modSli fun l => { l with summary := l.summary &&& ~~~ s.sli.summary }, rfl⟩

theorem ownerKeeps_removeCompletion (n : Nat) : OwnerKeeps l (ownRemoveCompletion n) := by
  intro s
  unfold ownRemoveCompletion
  split
  · exact .refl s
  · split
    · exact .refl s
    · next r rest e =>
      split
      · have h : Runs false s (modCqr (fun c => { c with queue := rest }) s) :=
          (Runs.refl s).queued (fun k => consecutive_tail r rest _ (e ▸ k))
            fun a x m => a.records x (by rw [e]; exact List.mem_cons_of_mem _ m)
        exact h.releaseSlot.markChange.served
      · exact .refl s

theorem Served.activatePrices : Served l s (activatePrices s) := by
  refine ⟨.activatePrices, ?_⟩
  have h : ∀ c (u : State), (activatePrice c u).sli.awaiting = u.sli.awaiting := fun c u => by
    unfold activatePrice
    repeat' split
    all_goals rfl
  exact (h _ _).trans (h _ _)

theorem Served.trans (h : Served l s t) (k : Served l t u) : Served l s u :=
  ⟨h.toKeeps.trans k.toKeeps, k.awaiting.trans h.awaiting⟩

theorem Served.installPrice (c : PressureClass) (price time : Nat) : Served l s (installPrice c price time s) := by
  unfold Machine.installPrice
  split
  · exact ⟨(Keeps.prices _).trans (.modSli _), rfl⟩
  · exact ⟨.prices _, rfl⟩

theorem ownerKeeps_setPrice (pc price time : Nat) : OwnerKeeps l (ownSetPrice pc price time) := by
  intro s
  unfold ownSetPrice
  split
  · split
    · exact .installPrice _ _ _
    · exact .refl s
  · exact .refl s

theorem ownerKeeps_setTime (value : Nat) : OwnerKeeps l (ownSetTime value) := by
  intro s
  unfold ownSetTime
  split
  · exact .refl s
  · have h : Served l s (modSite (fun r => { r with calendar := value, calendarSet := true, secondCount := 0 }) s) :=
      ⟨.calendar rfl ⟨value, 0, rfl⟩, rfl⟩
    exact h.trans .activatePrices

theorem Runs.installAuth {i : FpId} {a : Auth} : Runs w s (installAuth i a s) := by
  unfold Machine.installAuth
  have h : Runs w s (Machine.modMeter i (fun m => { m with auth := a }) (Machine.reserveSlot s)) :=
    (Runs.refl s).reserveSlot.modMeter fun _ => id
  exact .ite h.tryStart h

theorem ownerKeeps_authorize (fp kind value presence soc : Nat) : OwnerKeeps l (ownAuthorize fp kind value presence soc) := by
  intro s
  unfold ownAuthorize
  split
  · repeat' split
    all_goals first | exact .refl s | exact (Runs.installAuth (w := false)).served
  · exact .refl s

theorem ownerKeeps_cancelAuth (fp : Nat) : OwnerKeeps l (ownCancelAuth fp) := by
  intro s
  unfold ownCancelAuth
  split
  · split
    · exact ((Runs.refl (w := false) s).cancelAuthorization).served
    · exact .refl s
  · exact .refl s

theorem ownerKeeps_clearCreep (fp : Nat) : OwnerKeeps l (ownClearCreep fp) := by
  intro s
  unfold ownClearCreep
  split
  · next i _ =>
    have h : Runs false s (modMeter i (fun m => { m with creep := 0, creepBlock := false }) s) :=
      (Runs.refl s).modMeter fun _ => id
    exact h.served
  · exact .refl s

/-! #### The site -/

theorem ownerKeeps_commission : OwnerKeeps l ownCommission := by
  intro s
  unfold ownCommission
  split
  · exact .refl s
  · split
    · exact .refl s
    · have h : Served l s (land (modSite (fun r => { r with commissioned := true }) s)) :=
        ⟨.commissioned, (event_land (w := false)).awaiting⟩
      exact h.runs (w := false) (Runs.refl _).settle

theorem setSite_awaiting (st : SiteState) (op : Bool) (c : ShutCause) (s : State) :
    (setSite st op c s).sli.awaiting = s.sli.awaiting := by
  unfold setSite postIf
  split <;> rfl

theorem closeForced_awaiting (s : State) : (closeForced s).sli.awaiting = s.sli.awaiting := by
  unfold closeForced
  split <;> rfl

theorem ownerKeeps_decommission : OwnerKeeps l ownDecommission := by
  intro s
  unfold ownDecommission
  split
  · have h : Served l s (enterUnconfigured (modSite (fun r => { r with commissioned := false }) s)) := by
      refine ⟨.decommissioned, (Event.awaiting (w := false) (enterUnconfigured_runs _).event).trans ?_⟩
      rw [setSite_awaiting, closeForced_awaiting]
      rfl
    exact h.runs (w := false) (Runs.refl _).settle
  · exact .refl s

/-- A change of the forecourt, or of OPERATING into MAINTENANCE, where the site's invariant is looked at afterwards. -/
theorem Served.setSite {st : SiteState} {op : Bool} {c : ShutCause} (site : s.SiteOk → (setSite st op c s).SiteOk) :
    Served l s (setSite st op c s) := ⟨.setSite site, setSite_awaiting _ _ _ _⟩

theorem ownerKeeps_forecourt (op : Bool) : OwnerKeeps l (ownForecourt op) := by
  intro s
  unfold ownForecourt
  split
  · next e =>
    refine .setSite fun h => ⟨by simp, ?_, ?_, by simp, ?_, by simpa using h.calendar⟩
    · simpa [e] using h.commissioned
    · simpa [e] using h.cause
    · simpa [e] using h.forced
  · exact .refl s

theorem ownerKeeps_enterMaint : OwnerKeeps l ownEnterMaint := by
  intro s
  unfold ownEnterMaint
  split
  · next e =>
    obtain ⟨e, -, -⟩ := e
    refine .setSite fun h => ⟨by simp, ?_, ?_, by simp, by simp, by simpa using h.calendar⟩
    · simpa [e] using h.commissioned
    · simpa [e] using h.cause
  · exact .refl s

theorem ownerKeeps_leaveMaint : OwnerKeeps l ownLeaveMaint := by
  intro s
  unfold ownLeaveMaint
  split
  · next e => exact (event_operating (w := false) (by simp [e])).settle.served
  · exact .refl s

theorem ownerKeeps_shutdown : OwnerKeeps l ownShutdown := by
  intro s
  unfold ownShutdown
  split
  · next e => exact (event_shutdown (c := .host) (w := false) (by simp) (.inl e)).settle.served
  · next e => exact (event_shutdown (c := .host) (w := false) (by simp) (.inr e)).settle.served
  all_goals exact .refl s

theorem ownerKeeps_resume : OwnerKeeps l ownResume := by
  intro s
  unfold ownResume
  split
  · next e =>
    split
    · exact (event_operating (w := false) (by simp [e])).settle.served
    · exact .refl s
  · split
    · exact .refl s
    · exact (event_land (w := false)).settle.served
  all_goals exact .refl s

theorem restartBlocks_awaiting (s : State) : (restartBlocks s).sli.awaiting = s.sli.awaiting := by
  rw [restartBlocks_eq]
  have hunits : ∀ u : State, (restartUnits u).sli.awaiting = u.sli.awaiting := fun _ => rfl
  refine ((Runs.refl (w := false) _).csSoftResets.markChange).event.awaiting.trans ((hunits _).trans ?_)
  exact ((Runs.refl (w := false) s).emptyArbiter.pcmSoftReset.softResetFps.cancelAll).event.awaiting

theorem landAfterReset_awaiting (s : State) : (landAfterReset s).sli.awaiting = s.sli.awaiting := by
  unfold landAfterReset
  split
  · exact ((Runs.refl (w := false) _).evalChiller).event.awaiting.trans (setSite_awaiting _ _ _ _)
  · exact (event_land (w := false)).awaiting

theorem ownerKeeps_softReset : OwnerKeeps l ownSoftReset := by
  intro s
  have hlanded : Served l s (landAfterReset (restartBlocks s)) :=
    ⟨Keeps.restartBlocks.trans (.landAfterReset restartBlocks_auto), (landAfterReset_awaiting _).trans (restartBlocks_awaiting s)⟩
  exact (hlanded.runs (w := false) (Runs.refl _).settle).trans ⟨Keeps.modSli fun l => { l with summary := 0 }, rfl⟩

/-! #### The units -/

theorem ownerKeeps_fpStart (i : FpId) : OwnerKeeps l (ownFpStart i) := by
  intro s
  unfold ownFpStart
  split
  · exact ((Runs.refl (w := false) s).startFill).served
  · exact .refl s

theorem ownerKeeps_fpStop (i : FpId) : OwnerKeeps l (ownFpStop i) := by
  intro s
  unfold ownFpStop
  split
  · exact ((Runs.refl (w := false) s).endFill).served
  · exact .refl s

theorem ownerKeeps_fpHold (i : FpId) : OwnerKeeps l (ownFpHold i) := by
  intro s
  unfold ownFpHold
  split
  · exact Runs.served (w := false) (Runs.holdsChanged (Runs.modFp (Runs.refl s) fun _ => ⟨rfl, rfl⟩))
  · exact .refl s

theorem ownerKeeps_fpReleaseHold (i : FpId) : OwnerKeeps l (ownFpReleaseHold i) := by
  intro s
  unfold ownFpReleaseHold
  split
  · exact Runs.served (w := false) (Runs.holdsChanged (Runs.modFp (Runs.refl s) fun _ => ⟨rfl, rfl⟩))
  · exact .refl s

theorem ownerKeeps_fpClearFault (i : FpId) : OwnerKeeps l (ownFpClearFault i) := by
  intro s
  unfold ownFpClearFault
  split
  · exact Runs.served (w := false) (Runs.setFill (Runs.modFp (Runs.refl s) fun _ => ⟨rfl, rfl⟩))
  · exact .refl s

theorem ownerKeeps_fpReset (i : FpId) : OwnerKeeps l (ownFpReset i) := fun s => ((Runs.refl (w := false) s).resetFp).served

theorem ownerKeeps_bankClearFault (b : Nat) : OwnerKeeps l (ownBankClearFault b) := by
  intro s
  unfold ownBankClearFault
  split
  · split
    · exact ((Runs.refl s).clearBankFault.settle).served
    · exact .refl s
  · exact .refl s

theorem ownerKeeps_compressorEnable (k : CompId) : OwnerKeeps l (ownCompressorEnable k) := by
  intro s
  unfold ownCompressorEnable
  split
  · split
    · exact ((Runs.refl (w := false) s).enterOff.settle).served
    · exact .refl s
  all_goals exact .refl s

theorem ownerKeeps_compressorDisable (k : CompId) : OwnerKeeps l (ownCompressorDisable k) := by
  intro s
  have hpending : Runs false s (modComp k (fun c => { c with disablePending := true }) s) :=
    (Runs.refl s).modComp fun _ => ⟨rfl, rfl⟩
  unfold ownCompressorDisable
  split
  case h_7 => exact hpending.served
  case h_8 => exact .refl s
  all_goals first
    | exact ((Runs.refl (w := false) s).enterDisabled.settle).served
    | exact (hpending.enterStopping.settle).served

theorem ownerKeeps_compressorClearTrip (k : CompId) : OwnerKeeps l (ownCompressorClearTrip k) := by
  intro s
  unfold ownCompressorClearTrip
  dsimp only
  split
  · exact ((Runs.refl (w := false) s).enterOff.settle).served
  · exact .refl s

theorem Runs.chillerBack (h : Runs w u s) : Runs w u (Machine.evalHead (Machine.evalChiller (Machine.setChiller Chiller.idle s))) :=
  h.setChiller.evalChiller.evalHead

theorem ownerKeeps_chillerEnable : OwnerKeeps l ownChillerEnable := by
  intro s
  unfold ownChillerEnable
  split
  · split
    · exact ((Runs.refl (w := false) s).chillerBack).served
    · exact .refl s
  all_goals exact .refl s

theorem ownerKeeps_chillerDisable : OwnerKeeps l ownChillerDisable := by
  intro s
  have hout : Served l s (setChiller .disabled s) := ((Runs.refl (w := false) s).setChiller).served
  unfold ownChillerDisable
  split
  · exact hout
  · exact hout
  · split
    · exact hout
    · exact .refl s
  · exact .refl s

theorem ownerKeeps_chillerClearTrip : OwnerKeeps l ownChillerClearTrip := by
  intro s
  unfold ownChillerClearTrip
  split
  · split
    · exact .refl s
    · exact ((Runs.refl (w := false) s).chillerBack).served
  all_goals exact .refl s

theorem ownerKeeps_valveMode (line mode : Nat) : OwnerKeeps l (ownValveMode line mode) := by
  intro s
  unfold ownValveMode
  split
  · next o m _ _ =>
    split
    · exact .refl s
    · next n =>
      refine ⟨.of_parts (fun _ => rfl) (fun h => ⟨h.forecourt, h.commissioned, h.cause, h.shutdown, fun o' e => ?_, h.calendar⟩)
        id, rfl⟩
      simp only [accept, sel_upd] at e ⊢
      split at e
      · exact not_not.mp fun ne => n ⟨e, ne⟩
      · exact h.forced o' e
  · exact .refl s

/-- Every owner keeps the invariants and SLI's waiting header, and, but for a load, the tables. -/
theorem owner_keeps {c : Instr} {own : State → State × Answer} (h : ownerOf c = some own) : OwnerKeeps (Loads c) own := by
  cases c <;> cases h
  case readStatus => exact ownerKeeps_readStatus
  case readFp => exact .readUnit
  case readBanks => exact .readAll
  case readCompressor => exact .readUnit
  case readPrecool => exact .readAll
  case readChannel => exact .readUnit
  case readCompletion => exact .readAll
  case removeCompletion => exact ownerKeeps_removeCompletion _
  case readTotals => exact .readAll
  case loadSite => exact ownerKeeps_loadSite _
  case loadDensityRow => exact ownerKeeps_loadDensityRow _ _
  case loadRampEntry => exact ownerKeeps_loadRampEntry _
  case loadPrecool => exact ownerKeeps_loadPrecool _
  case loadBank => exact ownerKeeps_loadBank _ _
  case loadCompressor => exact ownerKeeps_loadCompressor _ _
  case loadFp => exact ownerKeeps_loadFp _ _
  case loadChannel => exact ownerKeeps_loadChannel _ _
  case loadInput => exact ownerKeeps_loadInput _ _
  case loadValveMap => exact ownerKeeps_loadValveMap _
  case loadEventOutput => exact ownerKeeps_loadEventOutput _ _ _ _
  case setPrice => exact ownerKeeps_setPrice _ _ _
  case setTime => exact ownerKeeps_setTime _
  case commission => exact ownerKeeps_commission
  case decommission => exact ownerKeeps_decommission
  case openForecourt => exact ownerKeeps_forecourt _
  case closeForecourt => exact ownerKeeps_forecourt _
  case enterMaint => exact ownerKeeps_enterMaint
  case leaveMaint => exact ownerKeeps_leaveMaint
  case shutdownCommand => exact ownerKeeps_shutdown
  case resume => exact ownerKeeps_resume
  case softReset => exact ownerKeeps_softReset
  case authorize => exact ownerKeeps_authorize _ _ _ _ _
  case cancelAuth => exact ownerKeeps_cancelAuth _
  case fpStart => exact .fpCommand ownerKeeps_fpStart _
  case fpStop => exact .fpCommand ownerKeeps_fpStop _
  case fpHold => exact .fpCommand ownerKeeps_fpHold _
  case fpReleaseHold => exact .fpCommand ownerKeeps_fpReleaseHold _
  case fpClearFault => exact .fpCommand ownerKeeps_fpClearFault _
  case fpReset => exact .fpCommand ownerKeeps_fpReset _
  case bankClearFault => exact ownerKeeps_bankClearFault _
  case compressorEnable => exact .compCommand ownerKeeps_compressorEnable _
  case compressorDisable => exact .compCommand ownerKeeps_compressorDisable _
  case compressorClearTrip => exact .compCommand ownerKeeps_compressorClearTrip _
  case chillerEnable => exact ownerKeeps_chillerEnable
  case chillerDisable => exact ownerKeeps_chillerDisable
  case chillerClearTrip => exact ownerKeeps_chillerClearTrip
  case valveMode => exact ownerKeeps_valveMode _ _
  case clearCreep => exact ownerKeeps_clearCreep _

/-! ### The field side's events -/

theorem Runs.keeps (h : Runs w s t) : Keeps l s t := h.event.keeps

/-- An event that acts only where its time has come. -/
theorem Runs.iteSelf {c : Prop} [Decidable c] (h : c → Runs w s t) : Runs w s (if c then t else s) := by
  split
  · next hc => exact h hc
  · exact .refl s

theorem Runs.massUpdate {i : FpId} (h : Runs w u s) : Runs w u (massUpdate i s) := by
  refine Runs.flowUpdate (Runs.inAnyOrder (fun f hf v hv => ?_) h)
  simp only [List.mem_cons, List.not_mem_nil, or_false] at hf
  obtain rfl | rfl := hf
  · exact hv.presetTests
  · exact hv.coldUpdate

theorem Runs.placePulse {i : FpId} (h : Runs w u s) : Runs w u (placePulse i s) := by
  unfold Machine.placePulse
  dsimp only
  split
  · next hc => exact (h.pulseToTxn hc).massUpdate
  · exact h.pulseToCreep

theorem Runs.rateTest {i : FpId} (h : Runs w u s) : Runs w u (rateTest i s) := by
  unfold Machine.rateTest
  exact h.endFill.ite h

theorem Runs.compTimer {k : CompId} {f : Compressor → Compressor} (e : ∀ x, (f x).entry = x.entry ∧ (f x).loaded = x.loaded) :
    Runs w s (Machine.modComp k f s) := (Runs.refl s).modComp e

theorem Runs.endStart {k : CompId} : Runs w s (endStart k s) := by
  unfold Machine.endStart
  have h : Runs w s (Machine.setCompState k .recirc
      (Machine.modComp k (fun c => { c with start := none, minRun := some c.entry.minRun }) s)) :=
    Runs.setCompState (.compTimer fun _ => ⟨rfl, rfl⟩)
  dsimp only
  split
  · exact h.requestTarget
  · exact h.becomeIdle

theorem Runs.csBankWaitEnd {k : CompId} {b : BankId} : Runs w s (csBankWaitEnd k b s) :=
  Runs.seek (Runs.setTarget (Runs.withdrawBank (.compTimer fun _ => ⟨rfl, rfl⟩)))

theorem Runs.waitEnd {i : FpId} : Runs w s (waitEnd i s) := by
  unfold Machine.waitEnd
  have h : Runs w s (Machine.endFill i .precoolTimeout (Machine.leaveWaitList i s)) := (Runs.refl s).leaveWaitList.endFill
  exact h.evalHead.ite h

theorem Runs.fpTimer {i : FpId} {f : Fps → Fps} (e : ∀ x, (f x).entry = x.entry ∧ (f x).loaded = x.loaded) :
    Runs w s (Machine.modFp i f s) := (Runs.refl s).modFp e

theorem Runs.goWithoutLink {i : FpId} (h : Runs w u s) : Runs w u (goWithoutLink i s) :=
  Runs.leaveIfFree (Runs.setFlags (Runs.modLink (h.modFp fun _ => ⟨rfl, rfl⟩)))

theorem Runs.fpsBankWaitEnd {i : FpId} : Runs w s (fpsBankWaitEnd i s) := by
  unfold Machine.fpsBankWaitEnd
  split
  · exact (Runs.refl s).unlink.withdrawBank.tryAfter
  · exact .refl s

theorem Runs.pulseEnd {i : FpId} : Runs w s (pulseEnd i s) := by
  unfold Machine.pulseEnd
  have h : Runs w s (Machine.modTxn i (fun t => { t with p0 := some (s.fp i).nozzle })
      (Machine.modFp i (fun f => { f with leakPulse := none, p0 := some (s.fp i).nozzle }) s)) :=
    Runs.modTxn (.fpTimer fun _ => ⟨rfl, rfl⟩) fun _ e => e
  exact .ite h.closeFill (.ite h.closeFill (h.modFp fun _ => ⟨rfl, rfl⟩))

theorem Runs.enterVenting {i : FpId} (h : Runs w u s) : Runs w u (enterVenting i s) := by
  unfold Machine.enterVenting
  have hv : Runs w u (Machine.setFill i .venting (Machine.modFp i (fun f => { f with vent := some s.site.params.ventTimeout }) s)) :=
    Runs.setFill (h.modFp fun _ => ⟨rfl, rfl⟩)
  exact hv.ventDone.ite hv

theorem Runs.settleEnd {i : FpId} : Runs w s (settleEnd i s) := by
  unfold Machine.settleEnd
  have h : Runs w s (Machine.releaseReservation i (Machine.handOver i ((s.fp i).reason.getD .reset) false
      (Machine.modFp i (fun f => { f with settle := none }) s))) :=
    Runs.releaseReservation (Runs.handOver (.fpTimer fun _ => ⟨rfl, rfl⟩))
  exact .ite h.setFill h.enterVenting

theorem Served.keeps (h : Served l s t) : Keeps l s t := h.toKeeps

/-- Every event of the field side but power-on reset keeps the invariants, and the tables. -/
theorem event_keeps {c : Instr} (ho : ownerOf c = none) (h : exec c s = .next t) (n : ∀ levels e, c ≠ .powerOnReset levels e) :
    Keeps l s t := by
  cases c <;> first | exact absurd ho (Option.some_ne_none _) | obtain rfl := Host.Outcome.next.inj h
  case linkByteReceived => exact .modSli _
  case linkGap => exact .modSli _
  case replySent => exact .modSli _
  case powerOnReset levels e => exact absurd rfl (n levels e)
  case sampleArrival ch raw => exact (Keeps.takeSample ch raw.toNat).runs (w := false) (Runs.refl _).settle
  case stalenessExpiry ch =>
    split
    · exact (Keeps.goStale ch).runs (w := false) (Runs.refl _).settle
    · exact .refl s
  case rawLineChange line level => exact .rawChange line level
  case filterExpiry line => exact (Keeps.filterDone line).runs (w := false) (Runs.refl _).settle
  case calendarTick =>
    split
    · next e =>
      simp only [State.secondDue, Bool.and_eq_true] at e
      exact (Keeps.calendar e.1 ⟨_, _, rfl⟩).trans .activatePrices
    · exact .refl s
  all_goals refine Runs.keeps (w := false) ?_
  case minOffExpiry k => exact .iteSelf fun _ => Runs.settle (Runs.evalPermission (.compTimer fun _ => ⟨rfl, rfl⟩))
  case startHistoryAgeing k => exact .iteSelf fun _ => Runs.settle (Runs.evalPermission (.compTimer fun _ => ⟨rfl, rfl⟩))
  case startTimerExpiry k => exact .iteSelf fun _ => Runs.endStart.settle
  case csBankWaitExpiry k =>
    split
    · exact .iteSelf fun _ => Runs.csBankWaitEnd.settle
    · exact .refl s
  case minRunExpiry k =>
    refine .iteSelf fun _ => ?_
    have h : Runs false s (modComp k (fun c => { c with minRun := none }) s) := .compTimer fun _ => ⟨rfl, rfl⟩
    exact h.enterStopping.settle.ite h
  case runDownExpiry k => exact .iteSelf fun _ => (Runs.ite (Runs.refl s).enterDisabled (Runs.refl s).enterOff).settle
  case waitLimitExpiry i => exact .iteSelf fun _ => .waitEnd
  case authExpired i => exact .iteSelf fun _ => (Runs.refl s).cancelAuthorization.post
  case linkAcquisitionExpiry i =>
    refine .iteSelf fun _ => ?_
    have h : Runs false s (modFp i (fun f => { f with acquisition := none }) s) := .fpTimer fun _ => ⟨rfl, rfl⟩
    exact h.endFill.ite h.goWithoutLink
  case fpsBankWaitExpiry i => exact .iteSelf fun _ => .fpsBankWaitEnd
  case leakPulseExpiry i => exact .iteSelf fun _ => .pulseEnd
  case leakHoldExpiry i => exact .iteSelf fun _ => Runs.enterFilling (.fpTimer fun _ => ⟨rfl, rfl⟩)
  case maxFillTimeExpiry i => exact .iteSelf fun _ => Runs.endFill (.fpTimer fun _ => ⟨rfl, rfl⟩)
  case settleExpiry i => exact .iteSelf fun _ => .settleEnd
  case ventTimeout i => exact .iteSelf fun _ => Runs.setFill (.fpTimer fun _ => ⟨rfl, rfl⟩)
  case segmentBoundary i => exact .iteSelf fun _ => (Runs.refl s).boundary
  case downgradeWatchOpen i => exact .iteSelf fun _ => .fpTimer fun _ => ⟨rfl, rfl⟩
  case downgradeGraceExpiry i => exact .iteSelf fun _ => Runs.downgrade (.fpTimer fun _ => ⟨rfl, rfl⟩)
  case lowFlowExpiry i => exact .iteSelf fun _ => Runs.cascadeStep (.fpTimer fun _ => ⟨rfl, rfl⟩)
  case vehicleFrame i bytes => exact (Runs.refl s).takeFrame
  case linkLossExpiry i => exact .iteSelf fun _ => (Runs.refl s).modLink.switchMode
  case meterPulse i => exact .iteSelf fun _ => (Runs.refl s).notePulse.rateTest.placePulse
  case flowAgeing i => exact .iteSelf fun _ => Runs.flowUpdate (Runs.modMeter (Runs.refl s) fun _ => id)
  case writeComplete id =>
    split
    · exact .iteSelf fun _ => (Runs.refl s).writeDone
    · exact .refl s
  case writeError id =>
    split
    · exact .iteSelf fun _ => (Runs.refl s).writeFailed
    · exact .refl s
  case writeTimerExpiry =>
    split
    · exact .iteSelf fun _ => (Runs.refl s).writeFailed
    · exact .refl s

/-- Every command but power-on reset keeps the invariants, and, but for a load, the tables. -/
theorem exec_keeps {c : Instr} (h : exec c s = .next t) (n : ∀ levels e, c ≠ .powerOnReset levels e) :
    Keeps (Loads c) s t := by
  cases ho : ownerOf c with
  | some own =>
    rw [exec_of_owner ho, request] at h
    cases h
    exact ((owner_keeps ho) s).keeps.answer
  | none => exact event_keeps ho h n

/-! ### Power-on reset (R184, R196), and the reset state -/

/-- What a read of the retained image leaves is numbered as R176 says: the image was tested, or the queue is empty. -/
theorem restored_consecutive (c : Cqr) (readError : Bool) (choice : Nat) :
    consecutive (c.restored readError choice).queue (c.restored readError choice).nextNumber = true := by
  unfold Cqr.restored
  split
  · rfl
  · split
    · split
      · next h =>
        simp only [StoredImage.valid, RetainedImage.coherent, Bool.and_eq_true] at h
        exact h.2.2
      · rfl
    · rfl

theorem reset_arbiterOk : State.reset.ArbiterOk := by
  constructor <;> simp [State.reset, State.holderOf, State.stackedAt]

theorem reset_waitOk : State.reset.WaitOk := by
  constructor <;> simp [State.reset, Pcm.reset, State.reservation, Reservation.empty]

theorem reset_siteOk : State.reset.SiteOk := by
  constructor <;> simp [State.reset, Site.reset]

theorem reset_channelsOk : State.reset.ChannelsOk := by
  intro i
  simp only [State.reset, State.chan, sel_replicate]
  constructor <;> simp [Channel.reset]

theorem reset_sumsOk : State.reset.SumsOk := by
  constructor <;> simp [State.reset, State.meter, Meter.reset, Cqr.reset]

/-- Settles O60: every table is empty and every unit idle. -/
theorem invariantsHoldAtReset : Obligations.InvariantsHoldAtReset :=
  ⟨reset_arbiterOk, rfl, reset_waitOk, reset_siteOk, reset_channelsOk, reset_sumsOk⟩

theorem powerOn_cqr (levels : BitVec 32) (e : Bool) :
    (powerOn levels e s).cqr = s.cqr.restored e (Config.storeFinds s.orderCount) := rfl

/-- After power-on reset the invariants stand, whatever stood before. -/
theorem powerOn_ok (levels : BitVec 32) (e : Bool) : (powerOn levels e s).ArbiterOk ∧ (powerOn levels e s).QueueOk ∧
    (powerOn levels e s).WaitOk ∧ (powerOn levels e s).SiteOk ∧ (powerOn levels e s).ChannelsOk := by
  refine ⟨arbiterOk_of reset_arbiterOk rfl rfl, ?_, waitOk_of reset_waitOk rfl rfl, siteOk_of reset_siteOk rfl rfl,
    channelsOk_of reset_channelsOk rfl⟩
  rw [State.QueueOk, powerOn_cqr]
  exact restored_consecutive _ _ _

/-! ### The statements -/

/-- Settles O58: no command but a load, and no idle step, moves a table. -/
theorem tablesChangeOnlyByLoads : Obligations.TablesChangeOnlyByLoads := by
  refine ⟨fun s t c hload h => ?_, fun s t hp h => ?_⟩
  · refine (exec_keeps h fun levels e hc => ?_).tables hload
    subst hc
    cases hload
  · simp only [step, hp] at h
    obtain rfl := Host.Outcome.next.inj h
    exact Keeps.idle.tables rfl

/-- Settles O59: an idle step keeps every invariant, a command does, and power-on reset brings them about. -/
theorem invariantsHoldAfterEveryStep : Obligations.InvariantsHoldAfterEveryStep := by
  intro s t h
  unfold step at h
  split at h
  · next c rest hp =>
    have hrest : Keeps true s { s with pending := rest } := .pending rest
    by_cases hc : ∃ levels e, c = .powerOnReset levels e
    · obtain ⟨levels, e, rfl⟩ := hc
      obtain rfl := Host.Outcome.next.inj h
      obtain ⟨ha, hq, hw, hsite, hch⟩ := powerOn_ok (s := { s with pending := rest }) levels e
      exact ⟨fun _ => ha, fun _ => hq, fun _ => hw, fun _ => hsite, fun _ => hch, fun n => absurd hp (n levels e rest)⟩
    · have k := exec_keeps h fun levels e hc' => hc ⟨levels, e, hc'⟩
      exact ⟨k.arb ∘ hrest.arb, k.queue ∘ hrest.queue, k.wait ∘ hrest.wait, k.site ∘ hrest.site, k.chans ∘ hrest.chans,
        fun _ => k.sums ∘ hrest.sums⟩
  · have e := Host.Outcome.next.inj h
    have k : Keeps true s t := e ▸ .idle
    exact ⟨k.arb, k.queue, k.wait, k.site, k.chans, fun _ => k.sums⟩

/-! ### Every request is answered (R199, R203) -/

/-- A refusal's code is the one byte of R203. -/
theorem replyFrame_refused (h : Header) (code : RefusalCode) :
    replyFrame h (.refused code) = frame 0xFF#8 [h.tag, h.unit, h.kind, BitVec.ofNat 8 code.code] := by
  simp [replyFrame, u8_eq]

/-- Settles O3: the owner leaves SLI's waiting header alone, and SLI's answer forms the reply to it. -/
theorem everyRequestIsAnsweredOnce : Obligations.EveryRequestIsAnsweredOnce := by
  refine ⟨fun c s h hc haw => ?_, fun h => ⟨fun data => rfl, fun code n hmem => ?_, fun kind p => rfl⟩⟩
  · obtain ⟨own, hown⟩ := owner_of_encoded hc
    have hwaits : (own s).1.sli.awaiting = some (h, c) := by rw [((owner_keeps hown) s).awaiting, haw]
    obtain ⟨hnone, hreply⟩ := answer_reply (own s) hwaits
    exact ⟨_, (own s).2, exec_of_owner hown s, answer_answer _, hreply, hnone⟩
  · rw [replyFrame_refused]
    simp only [List.mem_cons, Prod.mk.injEq, List.not_mem_nil, or_false] at hmem
    rcases hmem with ⟨rfl, rfl⟩ | ⟨rfl, rfl⟩ | ⟨rfl, rfl⟩ | ⟨rfl, rfl⟩ | ⟨rfl, rfl⟩ | ⟨rfl, rfl⟩ | ⟨rfl, rfl⟩ | ⟨rfl, rfl⟩ |
      ⟨rfl, rfl⟩ | ⟨rfl, rfl⟩ <;> rfl

end Sys2Proof.Machine
end

section
/-!
PROOFS. An idle step (notes/assumptions/3.md and 8.md): an event that is due, a reply's beginning, or one tenth of a second. The
statement O2.
-/
namespace Sys2Proof.Machine

variable {s t : State}

/-! ### An idle step (R197, R198) -/

theorem tick_comp (k : CompId) : (tick s).comp k = (s.comp k).tick := sel_map _ _ _
theorem tick_link (i : FpId) : (tick s).link i = (s.link i).tick := sel_map _ _ _

/-- Where the ramp clock runs and where it stands, in one record (R123). -/
theorem Fps.tick_eq (f : Fps) (runs : Bool) (n : Nat) : f.tick runs n = { f with
    acquisition := f.acquisition.map (· - 1), bankWait := f.bankWait.map (· - 1)
    leakPulse := f.leakPulse.map (· - 1), leakHold := f.leakHold.map (· - 1), maxFill := f.maxFill.map (· - 1)
    settle := f.settle.map (· - 1), vent := f.vent.map (· - 1), grace := f.grace.map (· - 1)
    lowFlow := f.lowFlow.map (· - 1)
    clock := if runs = true then f.clock + 1 else f.clock
    segment := if runs = true then min n (f.segment + 1) else f.segment
    watchCount := if runs = true then f.watchCount + 1 else f.watchCount } := by
  cases runs <;> rfl

theorem idle_due (h : s.dueCommands ≠ []) : ∃ c t, idle s = modSli (fun l => { l with dispatched := t }) (
    { s with orderCount := s.orderCount + 1, pending := [c] }) ∧ c ∈ s.dueCommands := by
  unfold idle
  cases hd : s.dueCommands with
  | nil => exact absurd hd h
  | cons c rest =>
    refine ⟨_, _, rfl, ?_⟩
    cases he : (c :: rest)[(freeChoice (rest.length + 1) s).1]? with
    | none => simp
    | some x => simpa using List.mem_of_getElem? he

theorem idle_reply (h : s.dueCommands = []) (r : s.sli.replyReady = true) :
    idle s = modSli (fun l => { l with driving := true }) s := by
  simp [idle, h, r]

theorem idle_tick (h : s.dueCommands = []) (r : s.sli.replyReady = false) : idle s = tick s := by
  simp [idle, h, r]

theorem replyReady_iff (l : Sli) : l.replyReady = true ↔ l.rx = .held ∧ l.awaiting = none ∧ l.driving = false := by
  simp [Sli.replyReady, and_assoc]

theorem step_idle (h : s.pending = []) : step s = .next (idle s) := by
  simp [step, h]

/-- Settles O2: an idle step is one of three, and the passing of time is said field by field. -/
theorem emptyQueueLetsTimePass : Obligations.EmptyQueueLetsTimePass := by
  intro s hp
  rw [step_idle hp]
  refine ⟨fun hdue => ?due, fun hdue hheld haw hdrive => ?reply, fun hdue hno => ?tick⟩
  case due =>
    obtain ⟨c, d, he, hmem⟩ := idle_due hdue
    exact ⟨_, c, rfl, hmem, by rw [he]; exact ⟨rfl, rfl, rfl, rfl, rfl, rfl, rfl, rfl, rfl⟩⟩
  case reply => rw [idle_reply hdue ((replyReady_iff _).mpr ⟨hheld, haw, hdrive⟩), modSli]
  case tick =>
    have hready : s.sli.replyReady = false := by
      rw [Bool.eq_false_iff, Ne, replyReady_iff]
      rintro ⟨hheld, haw, hdrive⟩
      simp [hheld, haw, hdrive] at hno
    rw [idle_tick hdue hready]
    exact ⟨tick s, rfl, rfl, rfl, fun i => by rw [tick_chan]; rfl, fun k => by rw [tick_comp]; rfl,
      fun i => by rw [tick_reservation]; rfl, fun i => by rw [tick_link]; rfl, fun i => by rw [tick_meter]; rfl,
      fun i => by rw [tick_fp, Fps.tick_eq], rfl⟩

end Sys2Proof.Machine
end

section
/-!
PROOFS. Reading requests from the bytes of the link (12.2 to 12.4): the decoder by kind, each body read back field by field, and the
refusals of R202. The statements O5 and O6.
-/
namespace Sys2Proof.Machine

variable {tag : Byte} {c : Instr} {b : List Byte}

theorem num_drop (l : List Byte) (j k n : Nat) : num (l.drop j) k n = num l (j + k) n := by
  simp [num]

/-! ### Decoding by kind (R202) -/

/-- A kind of fixed length is decoded where its body has that length, and refused with BAD_LENGTH where not. -/
theorem decode_fixed {kind n : Nat} {p : List Byte} (hn : bodyLength kind = some n) (hv : kind ≠ 0x29) :
    decodeRequest kind p = if p.length = 2 + n then
      (commandOf kind (num p 1 1) (p.drop 2)).elim (.error .badField) .ok
    else .error .badLength := by
  rw [decodeRequest, hn]
  simp only
  by_cases hp : p.length = 2 + n
  · rw [if_neg (by omega), if_neg hv, if_neg (not_not.mpr hp), if_pos hp]
    cases commandOf kind (num p 1 1) (p.drop 2) <;> rfl
  · rw [if_neg hv, if_pos hp, ite_self, if_neg hp]

theorem decode_unknown {kind : Nat} {p : List Byte} (hn : bodyLength kind = none) : decodeRequest kind p = .error .unknownKind := by
  rw [decodeRequest, hn]

/-- LOAD_VALVE_MAP's body carries its own count. -/
theorem decode_map {p : List Byte} : decodeRequest 0x29 p =
    if p.length < 3 then .error .badLength
    else if num p 2 1 = 0 ∨ 58 < num p 2 1 then .error .badField
    else if p.length ≠ 3 + 2 * num p 2 1 then .error .badLength
    else .ok (.loadValveMap (pairsBody (p.drop 2) (num p 2 1))) := by
  rw [decodeRequest, show bodyLength 0x29 = some 1 from rfl]
  simp only [if_true, commandOf, num_drop]
  split
  · rw [if_pos (by omega)]
  · rfl

/-! ### A body of the right length is handed on (R202) -/

theorem num_payload_unit (unit : Nat) (h : unit < 256) : num (payload tag unit b) 1 1 = unit := by
  simp [num, payload]
  omega

theorem drop_payload (unit : Nat) : (payload tag unit b).drop 2 = b := rfl

theorem length_payload (unit : Nat) : (payload tag unit b).length = 2 + b.length := by
  simp [payload]; omega

/-- A kind of fixed length whose body has that length is decoded by its command. -/
theorem decode_payload {kind unit n : Nat} (hn : bodyLength kind = some n) (hv : kind ≠ 0x29) (hb : b.length = n)
    (hu : unit < 256) (hc : commandOf kind unit b = some c) : decodeRequest kind (payload tag unit b) = .ok c := by
  rw [decode_fixed hn hv, length_payload, if_pos (by omega), num_payload_unit unit hu, drop_payload, hc]
  rfl

/-! ### The bodies (12.4) -/

theorem siteBody_body {f : SiteFields} (h : f.wf = true) : siteBody f.body = f := by
  simp only [SiteFields.wf, List.all_cons, List.all_nil, Bool.and_eq_true, fits4, fits2, and_true] at h
  simp only [siteBody, SiteFields.body, List.flatten_cons, List.flatten_nil, num_behind_u32, num_behind_u16,
    num_u32, num_u16, h, List.append_nil, num_u32_end]

theorem classBody_body {f : ClassFields} (h : f.wf = true) (r : List Byte) : classBody (f.body ++ r) 0 = f := by
  simp only [ClassFields.wf, List.all_cons, List.all_nil, Bool.and_eq_true, fits2, and_true] at h
  simp only [classBody, ClassFields.body, List.flatten_cons, List.flatten_nil, List.append_assoc, num_behind_u16, num_u16, h,
    List.append_nil, Nat.zero_add]

theorem length_classBody (f : ClassFields) : f.body.length = 8 := by simp [ClassFields.body]

theorem classBody_behind (l r : List Byte) (k : Nat) : classBody (l ++ r) (l.length + k) = classBody r k := by
  simp only [classBody, Nat.add_assoc, num_behind]

theorem precoolBody_body {f : PrecoolFields} (h : f.wf = true) : precoolBody f.body = f := by
  simp only [PrecoolFields.wf, List.all_cons, List.all_nil, Bool.and_eq_true, fits2, and_true] at h
  obtain ⟨⟨⟨⟨hcs, hset, hdiff, hwait⟩, h40⟩, h30⟩, h20⟩ := h
  have hbody : f.body = (u16 f.cs ++ u16 f.setpoint ++ u16 f.differential ++ u16 f.waitLimit) ++
      (f.t40.body ++ (f.t30.body ++ (f.t20.body ++ []))) := by
    simp [PrecoolFields.body]
  have hhead : ∀ r k, classBody ((u16 f.cs ++ u16 f.setpoint ++ u16 f.differential ++ u16 f.waitLimit) ++ r) (8 + k) =
      classBody r k := fun r k => classBody_behind _ r k
  have hclass : ∀ (g : ClassFields) r k, classBody (g.body ++ r) (8 + k) = classBody r k := fun g r k => by
    rw [← length_classBody g, classBody_behind]
  have e40 : classBody f.body 8 = f.t40 := by rw [hbody, hhead _ 0, classBody_body h40]
  have e30 : classBody f.body 16 = f.t30 := by rw [hbody, hhead _ 8, hclass _ _ 0, classBody_body h30]
  have e20 : classBody f.body 24 = f.t20 := by rw [hbody, hhead _ 16, hclass _ _ 8, hclass _ _ 0, classBody_body h20]
  rw [precoolBody, e40, e30, e20, hbody]
  simp only [List.append_assoc, num_behind_u16, num_u16, hcs, hset, hdiff, hwait]

theorem bankBody_body {f : BankFields} (h : f.wf = true) : bankBody f.body = f := by
  simp only [BankFields.wf, List.all_cons, List.all_nil, Bool.and_eq_true, fits4, fits2, fits1, and_true] at h
  simp only [bankBody, BankFields.body, List.flatten_cons, List.flatten_nil, num_behind_u32, num_behind_u16, num_behind_u8,
    num_u32, num_u16, num_u8, h, List.append_nil, num_u8_end]

theorem compressorBody_body {f : CompressorFields} (h : f.wf = true) : compressorBody f.body = f := by
  simp only [CompressorFields.wf, List.all_cons, List.all_nil, Bool.and_eq_true, fits4, fits2, fits1, and_true] at h
  simp only [compressorBody, CompressorFields.body, List.flatten_cons, List.flatten_nil, num_behind_u32, num_behind_u16,
    num_behind_u8, num_u32, num_u16, num_u8, h, List.append_nil, num_u8_end]

theorem fpBody_body {f : FpFields} (h : f.wf = true) (h8 : f.cascade.length ≤ 8) : fpBody f.body = f := by
  simp only [FpFields.wf, List.all_cons, List.all_nil, Bool.and_eq_true, fits4, fits2, fits1, and_true] at h
  simp only [fpBody, FpFields.body, List.flatten_cons, List.flatten_nil, num_behind_u32, num_behind_u16, num_behind_u8,
    num_behind_cascade, cascadeBody_behind_u8, cascadeBody_cascadeBytes _ h8, num_u32, num_u16, num_u8, h, List.append_nil,
    num_u16_end]

theorem channelBody_body {f : ChannelFields} (h : f.wf = true) : channelBody f.body = f := by
  simp only [ChannelFields.wf, List.all_cons, List.all_nil, Bool.and_eq_true, fits4, fits1, and_true] at h
  simp only [channelBody, ChannelFields.body, List.flatten_cons, List.flatten_nil, num_behind_u32, num_behind_u8, num_u32,
    num_u8, h, List.append_nil, num_u32_end]

theorem rampBody_body {f : RampFields} (h : f.wf = true) : rampBody f.body = f := by
  simp only [RampFields.wf, List.all_cons, List.all_nil, Bool.and_eq_true, fits4, fits2, fits1, and_true] at h
  simp only [rampBody, RampFields.body, List.flatten_cons, List.flatten_nil, num_behind_u16, num_behind_u8, num_u16,
    num_u8, h, List.append_nil, num_u32_end]

/-- A body of one command code. -/
theorem decode_coded {kind unit code : Nat} (hn : bodyLength kind = some 1) (hv : kind ≠ 0x29) (hu : unit < 256)
    (hcode : code < 256) (hc : ∀ b, num b 0 1 = code → commandOf kind unit b = some c) :
    decodeRequest kind (payload tag unit (u8 code)) = .ok c :=
  decode_payload hn hv rfl hu (hc _ (num_u8_end hcode))

/-- LOAD_VALVE_MAP's body carries its own count (R202). -/
theorem decode_valveMap {pairs : List (Nat × Nat)} (h : pairs.all (fun p => fitsBytes 1 p.1 && fitsBytes 1 p.2) = true)
    (h1 : 1 ≤ pairs.length) (h58 : pairs.length ≤ 58) :
    decodeRequest 0x29 (payload tag 0 (u8 pairs.length ++ pairs.flatMap (fun p => u8 p.1 ++ u8 p.2))) =
      .ok (.loadValveMap pairs) := by
  generalize hb : u8 pairs.length ++ pairs.flatMap (fun p => u8 p.1 ++ u8 p.2) = b
  have hcount : num (payload tag 0 b) 2 1 = pairs.length := by
    rw [show num (payload tag 0 b) 2 1 = num b 0 1 from (num_drop (payload tag 0 b) 2 0 1).symm, ← hb, num_u8 _ (by omega)]
  have hblen : b.length = 1 + 2 * pairs.length := by rw [← hb, List.length_append, length_u8, length_pairs]
  have hlen := length_payload (tag := tag) (b := b) 0
  rw [decode_map, hcount, if_neg (by omega), if_neg (by omega), if_neg (by omega), drop_payload, ← hb, pairsBody_of_bytes _ h]

/-- Settles O5: each kind's body is read back field by field. -/
theorem requestsDecodeToThemselves : Obligations.RequestsDecodeToThemselves := by
  intro c tag kind p hwf hfit he
  cases c <;> cases he <;> simp only [Instr.wf, Instr.listsFit, Bool.and_eq_true, List.all_cons, List.all_nil, fits1,
    fits2, fits4, and_true, decide_eq_true_eq, beq_iff_eq] at hwf hfit
  case readStatus => exact decode_payload rfl (by decide) rfl (by decide) rfl
  case readFp => exact decode_payload rfl (by decide) rfl hwf rfl
  case readBanks => exact decode_payload rfl (by decide) rfl (by decide) rfl
  case readCompressor => exact decode_payload rfl (by decide) rfl hwf rfl
  case readPrecool => exact decode_payload rfl (by decide) rfl (by decide) rfl
  case readChannel => exact decode_payload rfl (by decide) rfl hwf rfl
  case readCompletion => exact decode_payload rfl (by decide) rfl (by decide) rfl
  case removeCompletion => exact decode_payload rfl (by decide) rfl (by decide) (by rw [commandOf, num_u32_end hwf])
  case readTotals => exact decode_payload rfl (by decide) rfl (by decide) rfl
  case loadSite => exact decode_payload rfl (by decide) rfl (by decide) (by rw [commandOf, siteBody_body hwf])
  case loadDensityRow =>
    obtain ⟨⟨hrow, hlen⟩, hall⟩ := hwf
    exact decode_payload rfl (by decide) (by rw [length_row, hlen]) hrow (by rw [commandOf, row_of_bytes _ _ hlen hall])
  case loadRampEntry => exact decode_payload rfl (by decide) rfl (by decide) (by rw [commandOf, rampBody_body hwf])
  case loadPrecool => exact decode_payload rfl (by decide) rfl (by decide) (by rw [commandOf, precoolBody_body hwf])
  case loadBank => exact decode_payload rfl (by decide) rfl hwf.1 (by rw [commandOf, bankBody_body hwf.2])
  case loadCompressor => exact decode_payload rfl (by decide) rfl hwf.1 (by rw [commandOf, compressorBody_body hwf.2])
  case loadFp =>
    exact decode_payload rfl (by decide) (by simp [FpFields.body, length_cascadeBytes]) hwf.1
      (by rw [commandOf, fpBody_body hwf.2 hfit])
  case loadChannel => exact decode_payload rfl (by decide) rfl hwf.1 (by rw [commandOf, channelBody_body hwf.2])
  case loadInput =>
    obtain ⟨hline, hf⟩ := hwf
    simp only [LineFields.wf, List.all_cons, List.all_nil, Bool.and_eq_true, fits1, and_true] at hf
    exact decode_payload rfl (by decide) rfl hline (by
      simp only [commandOf, LineFields.body, List.flatten_cons, List.flatten_nil, num_behind_u8, num_u8, hf, List.append_nil,
        num_u8_end])
  case loadValveMap => exact decode_valveMap hwf.2 hfit.1 hfit.2
  case loadEventOutput =>
    exact decode_payload rfl (by decide) rfl hwf.1 (by
      simp only [commandOf, List.append_assoc, num_behind_u8, num_u8, hwf, num_u8_end])
  case setPrice =>
    exact decode_payload rfl (by decide) rfl (by decide) (by
      simp only [commandOf, List.append_assoc, num_behind_u8, num_behind_u32, num_u8, num_u32, hwf, num_u32_end])
  case setTime => exact decode_payload rfl (by decide) rfl (by decide) (by rw [commandOf, num_u32_end hwf])
  case authorize =>
    exact decode_payload rfl (by decide) rfl hwf.1.1.1 (by
      simp only [commandOf, List.append_assoc, num_behind_u8, num_behind_u32, num_u8, num_u32, hwf, num_u16_end])
  case cancelAuth => exact decode_payload rfl (by decide) rfl hwf rfl
  case valveMode => exact decode_payload rfl (by decide) rfl hwf.1 (by rw [commandOf, num_u8_end hwf.2])
  case clearCreep => exact decode_payload rfl (by decide) rfl hwf rfl
  case fpStart | fpStop | fpHold | fpReleaseHold | fpClearFault | fpReset | bankClearFault | compressorEnable |
      compressorDisable | compressorClearTrip =>
    exact decode_coded rfl (by decide) hwf (by decide) fun b hb => by rw [commandOf, hb]; rfl
  all_goals exact decode_coded rfl (by decide) (by decide) (by decide) fun b hb => by rw [commandOf, hb]; rfl


/-! ### What SLI refuses (R202) -/

/-- The kinds of fixed length, with the lengths of their bodies (12.4). -/
def fixedLengths : List (Nat × Nat) :=
  [(0x01, 0), (0x02, 0), (0x03, 0), (0x04, 0), (0x05, 0), (0x06, 0), (0x07, 0), (0x08, 4), (0x09, 0),
    (0x20, 68), (0x21, 38), (0x22, 10), (0x23, 32), (0x24, 22), (0x25, 16), (0x26, 37), (0x27, 18), (0x28, 4), (0x2A, 3),
    (0x30, 9), (0x31, 4), (0x40, 1), (0x41, 8), (0x42, 0), (0x43, 1), (0x44, 1), (0x45, 1), (0x46, 1), (0x47, 1), (0x48, 0)]

theorem bodyLength_of_mem {kind n : Nat} (h : (kind, n) ∈ fixedLengths) : bodyLength kind = some n ∧ kind ≠ 0x29 := by
  have : ∀ x ∈ fixedLengths, bodyLength x.1 = some x.2 ∧ x.1 ≠ 0x29 := by decide
  exact this _ h

theorem mem_of_bodyLength {kind n : Nat} (h : bodyLength kind = some n) (hv : kind ≠ 0x29) : (kind, n) ∈ fixedLengths := by
  unfold bodyLength at h
  split at h <;> cases h <;> first | decide | exact absurd rfl hv

/-- A code beyond its command's table names no command. -/
theorem commandOf_unknown {kind unit first : Nat} {b : List Byte}
    (h : (kind, first) ∈ [(0x40, 9), (0x43, 6), (0x44, 1), (0x45, 3), (0x46, 3)]) (hb : first ≤ num b 0 1) :
    commandOf kind unit b = none := by
  simp only [List.mem_cons, Prod.mk.injEq, List.not_mem_nil, or_false] at h
  rcases h with ⟨rfl, rfl⟩ | ⟨rfl, rfl⟩ | ⟨rfl, rfl⟩ | ⟨rfl, rfl⟩ | ⟨rfl, rfl⟩ <;> simp only [commandOf]
  · unfold siteCommandOf; split <;> first | rfl | omega
  · unfold fpCommandOf; split <;> first | rfl | omega
  · rw [if_neg (by omega)]
  · unfold compressorCommandOf; split <;> first | rfl | omega
  · unfold chillerCommandOf; split <;> first | rfl | omega

/-- Settles O6: the checks are taken in the order of the decoder's own equations. -/
theorem badFramesAreRefused : Obligations.BadFramesAreRefused := by
  intro kind p
  refine ⟨fun hv hun => ?unknown, fun n hmem hlen => ?length, fun hlen => ?short, fun hlen hcount => ?count,
    fun hlen h1 h58 hlen2 => ?pairs, fun first hmem hlen hcode => ?code⟩
  case unknown =>
    refine decode_unknown (Option.eq_none_iff_forall_ne_some.mpr fun n hn => hun n (mem_of_bodyLength hn hv))
  case length =>
    obtain ⟨hn, hv⟩ := bodyLength_of_mem hmem
    rw [decode_fixed hn hv, if_neg hlen]
  case short => rw [decode_map, if_pos hlen]
  case count => rw [decode_map, if_neg (by omega), if_pos hcount]
  case pairs => rw [decode_map, if_neg (by omega), if_neg (by omega), if_pos hlen2]
  case code =>
    have hfixed : bodyLength kind = some 1 ∧ kind ≠ 0x29 := by
      have : ∀ x ∈ [(0x40, 9), (0x43, 6), (0x44, 1), (0x45, 3), (0x46, 3)], bodyLength x.1 = some 1 ∧ x.1 ≠ 0x29 := by decide
      exact this _ hmem
    rw [decode_fixed hfixed.1 hfixed.2, if_pos (by omega), commandOf_unknown hmem (by rw [num_drop]; exact hcode)]
    rfl

end Sys2Proof.Machine
end

section
/-!
PROOFS. The link receiver (12.1): its moves on a byte, a gap and the end of a reply, and what it does with a whole
frame (R200 to R203).
The statements O7 and O8.
-/
namespace Sys2Proof.Machine

variable {s : State} {l : Sli} {b lo hi : Byte}

/-! ### The receiver's moves (R200, R201) -/

theorem receiveByte_tooLong (h : l.buffer.length = 1) (n : 1024 < num (l.buffer ++ [b]) 0 2) :
    receiveByte b l = { l with rx := .skip, buffer := [], errors := min 65535 (l.errors + 1) } := by
  simp [receiveByte, h, Config.maxPayload, n, linkError]

/-- A byte that neither closes the length field with too large a length nor the whole frame is kept. -/
theorem receiveByte_more (h : l.buffer.length = 1 → num (l.buffer ++ [b]) 0 2 ≤ 1024)
    (n : l.buffer.length < 2 ∨ l.buffer.length + 1 ≠ num (l.buffer ++ [b]) 0 2 + 5) :
    receiveByte b l = { l with buffer := l.buffer ++ [b] } := by
  unfold receiveByte
  simp only [List.length_append, List.length_singleton, Config.maxPayload]
  rw [if_neg (by omega), if_neg (by omega)]

/-- The byte that closes a frame: its check decides. -/
theorem receiveByte_last (n : l.buffer.length + 1 = num (l.buffer ++ [b]) 0 2 + 5) :
    receiveByte b l = if num (l.buffer ++ [b]) (num (l.buffer ++ [b]) 0 2 + 3) 2 =
        (crc16 ((l.buffer ++ [b]).take (num (l.buffer ++ [b]) 0 2 + 3))).toNat then
      dispatchFrame (l.buffer ++ [b]) { l with buffer := l.buffer ++ [b] }
    else { l with rx := .hunt, buffer := [], errors := min 65535 (l.errors + 1) } := by
  unfold receiveByte
  simp only [List.length_append, List.length_singleton]
  rw [if_neg (by omega), if_pos (by omega)]
  rfl

theorem modSli_eq (f : Sli → Sli) (s : State) : modSli f s = { s with sli := (modSli f s).sli } := rfl

/-- Settles O7: the receiver's functions, state by state. -/
theorem receiverMoves : Obligations.ReceiverMoves := by
  intro s
  refine ⟨fun b => ⟨_, rfl, rfl, ?_⟩, ⟨_, rfl, rfl, ?_⟩, ⟨_, rfl, rfl, ?_⟩⟩ <;> rw [modSli_sli]
  · refine ⟨fun hrx hb => ?_, fun hrx hb => ?_, fun hrx => ?_, fun hrx hdeaf => ?_, fun hrx hdrive hrun => ?_,
      fun hrx hlen hnum => ?_, fun hrx hlen hnum => ?_, fun hrx hlen hmore => ?_⟩ <;> simp only [takeByte, hrx]
    · rw [if_pos hb]
    · rw [if_neg hb]
    · rw [if_pos (by simpa using hdeaf)]
    · rw [if_neg (by simp [hdrive, hrun])]
      rfl
    · exact receiveByte_tooLong hlen hnum
    · rw [receiveByte_more (fun _ => hnum) (.inl (by omega)), hrx]
    · rw [receiveByte_more (fun h => absurd h hlen) hmore, hrx]
  · refine ⟨fun hrx => ?_, fun hrx => ?_, fun hrx => ?_, fun hrx hdrive => ?_, fun hrx hdrive => ?_⟩ <;>
      simp only [takeGap, hrx]
    · rfl
    · rw [if_pos hdrive]
    · rw [if_neg (by simp [hdrive])]
  · refine ⟨fun hrx haw => by simp only [replyDone, hrx, haw], fun hno => ?_⟩
    unfold replyDone
    split
    · next hrx haw => simp [hrx, haw] at hno
    · rfl

/-! ### A whole frame (R200, R202, R203) -/

/-- The bytes of a frame from its length field on, up to its check. -/
def frameBody (kind : Byte) (p : List Byte) : List Byte := be 2 p.length ++ kind :: p

theorem length_frameBody (kind : Byte) (p : List Byte) : (frameBody kind p).length = p.length + 3 := by
  simp [frameBody, be]

theorem num_length (kind : Byte) (p rest : List Byte) (h : p.length ≤ 1024) : num (frameBody kind p ++ rest) 0 2 = p.length := by
  rw [frameBody, List.append_assoc]
  exact num_u16 _ (by omega)

/-- The check field, its bytes most significant first. -/
theorem num_check (body : List Byte) : num (body ++ [hi, lo]) body.length 2 = 256 * hi.toNat + lo.toNat := by
  have := num_behind body [hi, lo] 0 2
  rw [Nat.add_zero] at this
  rw [this]
  simp [num]
  omega

theorem payload_frameBody (kind : Byte) (p rest : List Byte) : ((frameBody kind p ++ rest).drop 3).take p.length = p := by
  have : (frameBody kind p ++ rest).drop 3 = p ++ rest := by simp [frameBody, be]
  rw [this, List.take_left]

theorem kind_frameBody (kind : Byte) (p rest : List Byte) : (frameBody kind p ++ rest).getD 2 0 = kind := by
  simp [frameBody, be]

/-- The header of a whole frame: tag and unit are 0 where the payload holds none. -/
theorem headerOf_frameBody (kind : Byte) (p rest : List Byte) : headerOf (frameBody kind p ++ rest) p =
    { tag := if p.length < 2 then 0 else p.getD 0 0, unit := if p.length < 2 then 0 else p.getD 1 0, kind := kind } := by
  unfold headerOf
  rw [kind_frameBody]
  split <;> rfl

/-- The last byte of a frame: the frame is dispatched where its check is right, and counted and dropped where not. -/
theorem receiveByte_frame {kind : Byte} {p : List Byte} (h : p.length ≤ 1024) (hbuf : l.buffer = frameBody kind p ++ [hi]) :
    receiveByte lo l = if 256 * hi.toNat + lo.toNat = (crc16 (frameBody kind p)).toNat then
      dispatchFrame (frameBody kind p ++ [hi, lo]) { l with buffer := frameBody kind p ++ [hi, lo] }
    else { l with rx := .hunt, buffer := [], errors := min 65535 (l.errors + 1) } := by
  have hwhole : l.buffer ++ [lo] = frameBody kind p ++ [hi, lo] := by simp [hbuf]
  have hbody := length_frameBody kind p
  have hnum := num_length kind p [hi, lo] h
  have hlen : l.buffer.length = p.length + 4 := by rw [hbuf, List.length_append, hbody]; rfl
  rw [receiveByte_last (by rw [hwhole, hnum, hlen]), hwhole, hnum, ← hbody, num_check, List.take_left]

/-- A good frame, by what its payload decodes to. -/
theorem dispatchFrame_frame {kind : Byte} {p : List Byte} (rest : List Byte) (h : p.length ≤ 1024) :
    dispatchFrame (frameBody kind p ++ rest) l = match decodeRequest kind.toNat p with
      | .error r => { l with rx := .held, heldRun := false, driving := false, answer := some (.refused r),
                             reply := replyFrame (headerOf (frameBody kind p ++ rest) p) (.refused r) }
      | .ok c => { l with rx := .held, heldRun := false, driving := false, dispatched := some c,
                          awaiting := some (headerOf (frameBody kind p ++ rest) p, c) } := by
  unfold dispatchFrame
  simp only [num_length kind p rest h, payload_frameBody]
  have hkind : (headerOf (frameBody kind p ++ rest) p).kind = kind := by rw [headerOf_frameBody]
  rw [hkind] <;> rfl

/-- A request's payload begins with its tag. -/
theorem payload_of_encoded {tag : Byte} {c : Instr} {kind : Nat} {p : List Byte} (h : encodeRequest tag c = some (kind, p)) :
    ∃ unit body, p = payload tag unit body := by
  cases c <;> cases h <;> exact ⟨_, _, rfl⟩

/-- Settles O8: the last byte's two outcomes, and the good frame's two. -/
theorem wholeFrameIsDispatched : Obligations.WholeFrameIsDispatched := by
  intro s kind p body lo hi hlen hbody hrx hbuf
  have hb : body = frameBody kind p := hbody
  subst hb
  refine ⟨_, rfl, rfl, ?_⟩
  rw [modSli_sli]
  simp only [takeByte, hrx]
  rw [receiveByte_frame hlen hbuf]
  refine ⟨fun hgood => ?_, fun hbad => by rw [if_neg hbad]⟩
  rw [if_pos hgood, dispatchFrame_frame _ hlen]
  refine ⟨fun c tag hwf hfit he => ?_, fun r hr => ?_⟩
  · rw [requestsDecodeToThemselves c tag kind.toNat p hwf hfit he]
    obtain ⟨unit, body, rfl⟩ := payload_of_encoded he
    exact ⟨rfl, rfl, rfl, rfl, rfl, by rw [headerOf_frameBody]; simp [payload]⟩
  · rw [hr, headerOf_frameBody]

end Sys2Proof.Machine
end

section
/-!
PROOFS. The reads (12.4): each is its owner's data on an unchanged state, a record and the totals byte for byte (R177, R179, R208).
The statement O9.
-/
namespace Sys2Proof.Machine

variable {s : State} {c : Instr}

/-! ### Reads (R7, R48, R75, R94, R119, R177, R179) -/

/-- A read of one unit: its data, or BAD_FIELD. -/
theorem answers_readUnit {n unit : Nat} {reply : State → Fin n → List Byte} (e : exec c s = request c (readUnit n unit reply) s)
    (h : unit < n) : Answers c s (.accepted (reply s ⟨unit, h⟩)) s :=
  answers_of e (by simp [readUnit, h])

theorem refuses_readUnit {n unit : Nat} {reply : State → Fin n → List Byte} (e : exec c s = request c (readUnit n unit reply) s)
    (h : n ≤ unit) : Refuses c s .badField :=
  refuses_of e (by simp [readUnit, unitOf_ge h])

theorem answers_readAll {reply : State → List Byte} (e : exec c s = request c (readAll reply) s) :
    Answers c s (.accepted (reply s)) s := answers_of e rfl

theorem toNat_eq_bit (b : Bool) : b.toNat = if b then 1 else 0 := by cases b <;> rfl

/-- The codes of the reasons are their places in the list of R108. -/
theorem reason_code {r : Reason} {n : Nat} (h : (r, n) ∈
    [(Reason.targetSoc, 0), (.targetPressure, 1), (.pressureLimit, 2), (.presetMass, 3), (.presetAmount, 4),
     (.supplyExhausted, 5), (.bankTimeout, 6), (.customerStop, 7), (.precoolTimeout, 8), (.timeLimit, 9), (.linkAbort, 10),
     (.leak, 11), (.startPressure, 12), (.rampOvershoot, 13), (.tempLimit, 14), (.sensorFail, 15), (.meterFail, 16),
     (.nozzleDisconnect, 17), (.breakaway, 18), (.linkAbsent, 19), (.classMismatch, 20), (.esd, 21), (.reset, 22),
     (.powerFail, 23)]) : r.code = n := by
  cases r <;> simpa [Reason.code, eq_comm] using h

/-- The record of R208, field by field. -/
theorem record_bytes (r : Record) : r.bytes =
    be 4 r.number ++ be 1 r.fp.val ++ be 1 r.reason.code ++ be 1 r.flags.code ++
    be 1 (r.p0.isSome.toNat + 2 * r.finalSoc.isSome.toNat + 4 * r.startClass.isSome.toNat) ++
    be 4 r.price ++ be 4 r.mass ++ be 4 r.amount ++ be 4 r.startTime ++ be 4 r.endTime ++
    be 4 (r.p0.getD 0) ++ be 2 (r.finalSoc.getD 0) ++
    be 1 ((r.startClass.map PrecoolClass.code).getD 0) ++ be 1 ((r.finalClass.map PrecoolClass.code).getD 0) ++
    be 1 r.draw.length ++ (r.draw.map DrawEntry.bytes).flatten := by
  simp only [Record.bytes, counted, List.flatMap_def, u8, u16, u32, List.append_assoc]

theorem class_code (c : Option PrecoolClass) : (c.map PrecoolClass.code).getD 0 = match c with
    | some .t30 => 1 | some .t20 => 2 | some .tamb => 3 | some .t40 => 0 | none => 0 := by
  rcases c with _ | c
  · rfl
  · cases c <;> rfl

/-- Settles O9: each read is its owner's data on an unchanged state. -/
theorem readsAnswerAndChangeNothing : Obligations.ReadsAnswerAndChangeNothing := by
  intro s n bit cls
  refine ⟨fun h => answers_readUnit rfl h, fun h => refuses_readUnit rfl h, answers_readAll rfl,
    fun h => answers_readUnit rfl h, fun h => refuses_readUnit rfl h, answers_readAll rfl,
    fun h => answers_readUnit (reply := fun s i => channelBytes (s.chan i)) rfl h, fun h => refuses_readUnit rfl h,
    fun hq => ?empty, fun r rest hq reason hreason => ?head, ?totals⟩
  case empty =>
    have h : Answers .readCompletion s (.accepted (completionReply s.cqr)) s :=
      answers_readAll (reply := fun s => completionReply s.cqr) rfl
    rwa [completionReply, hq] at h
  case head =>
    have h : Answers .readCompletion s (.accepted (completionReply s.cqr)) s :=
      answers_readAll (reply := fun s => completionReply s.cqr) rfl
    rw [completionReply, hq] at h
    simp only [record_bytes, reason_code hreason, TxnFlags.code, toNat_eq_bit, class_code, List.length_cons, u8,
      ← List.append_assoc] at h
    exact h
  case totals =>
    have h : Answers .readTotals s (.accepted (totalsReply s.cqr)) s :=
      answers_readAll (reply := fun s => totalsReply s.cqr) rfl
    simp only [totalsReply, List.flatMap_def, flag8, toNat_eq_bit] at h
    exact h

end Sys2Proof.Machine
end

section
/-!
PROOFS. The loads (R1, R9, R14, R15, R20, R22, R36, R56, R76, R95, R120, R187): each is refused in a running site, by its field
checks, or takes its entry; what the taking runs leaves every other entry alone.
-/
namespace Sys2Proof.Machine

variable {s : State}

/-! ### Loads in a running site -/

theorem not_takesLoads_of_running (h : s.site.state = .operating ∨ s.site.state = .shutdown ∨ s.site.state = .powerdown) :
    ¬ s.TakesLoads := by
  rintro (e | e) <;> simp [e] at h

/-- A request whose owner's event is a load is refused where loads are not taken. -/
theorem refuses_load {c : Instr} {body : State → State × Answer} (e : exec c s = request c (load body) s)
    (h : ¬ s.TakesLoads) : Refuses c s .badState := refuses_of e (load_refused h)

theorem ownLoadDensityRow_of_size {row : Nat} {l : List Nat} (h : l.length = 19) (hn : ¬ s.TakesLoads) :
    ownLoadDensityRow row l s = refuse s .badState := by
  simp [ownLoadDensityRow, h, load_refused hn]

theorem ownLoadValveMap_of_length {ps : List (Nat × Nat)} (h1 : 1 ≤ ps.length) (h2 : ps.length ≤ 58) (hn : ¬ s.TakesLoads) :
    ownLoadValveMap ps s = refuse s .badState := by
  rw [ownLoadValveMap, if_neg (by omega), load_refused hn]

/-- Settles O12. -/
theorem loadsAreRefusedInRunningSites : Obligations.LoadsAreRefusedInRunningSites := by
  intro s running
  have hn := not_takesLoads_of_running running
  exact ⟨fun _ => refuses_load rfl hn, fun _ _ h => refuses_of rfl (ownLoadDensityRow_of_size h hn),
    fun _ => refuses_load rfl hn, fun _ => refuses_load rfl hn, fun _ _ => refuses_load rfl hn,
    fun _ _ => refuses_load rfl hn, fun _ _ => refuses_load rfl hn, fun _ _ => refuses_load rfl hn,
    fun _ h1 h2 => refuses_of rfl (ownLoadValveMap_of_length h1 h2 hn), fun _ _ _ _ => refuses_load rfl hn⟩

/-! ### LOAD_SITE -/

@[simp] theorem inRange_iff {lo hi x : Nat} : inRange lo hi x = true ↔ lo ≤ x ∧ x ≤ hi := by simp [inRange]

/-- Settles O13. -/
theorem loadSiteReplacesTheSet : Obligations.LoadSiteReplacesTheSet := by
  intro s f ht ok
  have hok : siteInRange f = true ↔ ok := by
    simp only [siteInRange, Bool.and_eq_true, inRange_iff, decide_eq_true_eq, ok]
    constructor <;> (intro h; simp only [and_assoc] at h ⊢; exact h)
  refine ⟨fun h => answers_of rfl ?_, fun h => refuses_of rfl ?_⟩
  · simp only [ownLoadSite, load_taken ht, if_pos (hok.mpr h)]; rfl
  · simp only [ownLoadSite, load_taken ht, if_neg (mt hok.mp h)]

/-! ### LOAD_DENSITY_ROW -/

theorem nonDecreasing_iff (l : List Nat) : nonDecreasing l = true ↔ ∀ i (h : i + 1 < l.length), l[i] ≤ l[i + 1] := by
  induction l with
  | nil => simp [nonDecreasing]
  | cons x rest ih =>
    cases rest with
    | nil => simp [nonDecreasing]
    | cons y rest =>
      rw [nonDecreasing, Bool.and_eq_true, ih]
      simp only [decide_eq_true_eq]
      constructor
      · rintro ⟨h0, hr⟩ i hi
        cases i with
        | zero => exact h0
        | succ i => exact hr i (by simpa using hi)
      · exact fun h => ⟨h 0 (by simp), fun i hi => h (i + 1) (by simpa using hi)⟩

/-- Settles O14. -/
theorem loadDensityRowChecksOrder : Obligations.LoadDensityRowChecksOrder := by
  intro s row entries h ht v rising fits
  have hl : entries.length = 19 := by simpa using h
  have hrise : nonDecreasing entries = true ↔ rising := by
    rw [nonDecreasing_iff]
    exact ⟨fun k i => k i.val (by omega), fun k i hi => k ⟨i, by omega⟩⟩
  have hfits (hr : row < 17) : s.fitsNeighbours ⟨row, hr⟩ v = true ↔ fits := by
    simp only [State.fitsNeighbours, List.all_eq_true, List.mem_finRange, forall_const, Bool.and_eq_true, Bool.or_eq_true,
      beq_iff_eq, decide_eq_true_eq, fits]
    refine forall_congr' fun i => and_congr ?_ ?_ <;> by_cases e : row = 0 ∨ row = 16 <;> grind
  refine ⟨fun hr => refuses_of rfl ?_, fun hr => ⟨fun k => refuses_of rfl ?_, fun k m nf => refuses_of rfl ?_,
    fun k m => answers_of rfl ?_⟩⟩ <;> rw [ownLoadDensityRow, dif_pos h, load_taken ht]
  · rw [unitOf_ge hr]
  · simp [unitOf_lt hr, mt hrise.mp k]
  · have misfit := mt (hfits hr).mp nf
    simp only [v] at misfit
    simp [unitOf_lt hr, hrise.mpr k, misfit, m]
  · have fitting : s.site.state = .maintenance → s.fitsNeighbours ⟨row, hr⟩ v = true := fun e => (hfits hr).mpr (m e)
    simp only [v] at fitting
    simp only [unitOf_lt hr, hrise.mpr k]
    rw [if_neg (by simp), if_neg (by simpa using fitting)]
    rfl

/-! ### LOAD_RAMP_ENTRY -/

theorem precoolClassOf_none : ∀ {x : Nat}, 4 ≤ x → precoolClassOf x = none
  | _ + 4, _ => rfl
theorem pressureClassOf_none : ∀ {x : Nat}, 2 ≤ x → pressureClassOf x = none
  | _ + 2, _ => rfl
theorem bandOf_none : ∀ {x : Nat}, 5 ≤ x → bandOf x = none
  | _ + 5, _ => rfl
theorem categoryOf_none : ∀ {x : Nat}, 3 ≤ x → categoryOf x = none
  | _ + 3, _ => rfl

/-- An enumerated value has the code it was read from. -/
theorem precoolClassOf_le : ∀ {x : Nat}, x ≤ 3 → ∃ c, precoolClassOf x = some c ∧ c.code = x
  | 0, _ | 1, _ | 2, _ | 3, _ => ⟨_, rfl, rfl⟩
theorem pressureClassOf_le : ∀ {x : Nat}, x ≤ 1 → ∃ c, pressureClassOf x = some c ∧ c.code = x
  | 0, _ | 1, _ => ⟨_, rfl, rfl⟩
theorem bandOf_le : ∀ {x : Nat}, x ≤ 4 → ∃ c, bandOf x = some c ∧ c.code = x
  | 0, _ | 1, _ | 2, _ | 3, _ | 4, _ => ⟨_, rfl, rfl⟩
theorem categoryOf_le : ∀ {x : Nat}, x ≤ 2 → ∃ c, categoryOf x = some c ∧ c.code = x
  | 0, _ | 1, _ | 2, _ => ⟨_, rfl, rfl⟩

theorem rampKeysOf_none {f : RampFields}
    (h : 4 ≤ f.precoolClass ∨ 2 ≤ f.pressureClass ∨ 5 ≤ f.band ∨ 3 ≤ f.category) : rampKeysOf f = none := by
  unfold rampKeysOf
  split
  · next hc hp hb ht =>
    rcases h with h | h | h | h
    · simp [precoolClassOf_none h] at hc
    · simp [pressureClassOf_none h] at hp
    · simp [bandOf_none h] at hb
    · simp [categoryOf_none h] at ht
  · rfl

theorem rampKeysOf_le {f : RampFields} (hc : f.precoolClass ≤ 3) (hp : f.pressureClass ≤ 1) (hb : f.band ≤ 4)
    (ht : f.category ≤ 2) : ∃ r, rampKeysOf f = some r ∧
      r.val = ((f.precoolClass * 2 + f.pressureClass) * 5 + f.band) * 3 + f.category := by
  obtain ⟨c, ec, vc⟩ := precoolClassOf_le hc
  obtain ⟨p, ep, vp⟩ := pressureClassOf_le hp
  obtain ⟨b, eb, vb⟩ := bandOf_le hb
  obtain ⟨t, et, vt⟩ := categoryOf_le ht
  exact ⟨rampIndex c p b t, by simp [rampKeysOf, ec, ep, eb, et], by simp [rampIndex, vc, vp, vb, vt]⟩

/-- Settles O15. -/
theorem loadRampEntryReplacesOneRow : Obligations.LoadRampEntryReplacesOneRow := by
  intro s f ht
  refine ⟨fun hc hp hb hk hr he => ?_, fun bad => refuses_of rfl ?_⟩
  · obtain ⟨r, er, vr⟩ := rampKeysOf_le hc hp hb hk
    refine ⟨r, vr, answers_of rfl ?_⟩
    simp [ownLoadRampEntry, load_taken ht, er, hr, he, accept]
  · rw [ownLoadRampEntry, load_taken ht]
    split
    · next er =>
      refine if_neg fun ok => ?_
      have keys : 4 ≤ f.precoolClass ∨ 2 ≤ f.pressureClass ∨ 5 ≤ f.band ∨ 3 ≤ f.category := by omega
      simp [rampKeysOf_none keys] at er
    · rfl

/-! ### LOAD_PRECOOL -/

/-- Settles O16. -/
theorem loadPrecoolReplacesTheEntry : Obligations.LoadPrecoolReplacesTheEntry := by
  intro s f ht cls ok
  have hok : precoolInRange f = true ↔ ok := by
    simp only [precoolInRange, classInRange, Bool.and_eq_true, inRange_iff, decide_eq_true_eq, ok, cls]
    constructor <;> (intro h; simp only [and_assoc] at h ⊢; omega)
  refine ⟨fun h => answers_of rfl ?_, fun h => refuses_of rfl ?_⟩
  · simp only [ownLoadPrecool, load_taken ht, if_pos (hok.mpr h)]; rfl
  · simp only [ownLoadPrecool, load_taken ht, if_neg (mt hok.mp h)]

/-! ### LOAD_BANK -/

/-- The entry a LOAD_BANK in range carries. -/
def bankOf (f : BankFields) : BankEntry :=
  { valid := f.valid == 1, volume := f.volume, rated := f.rated, floor := f.floor, refillOn := f.refillOn,
    refillOff := f.refillOff, drawPermit := f.drawPermit == 1, fillPermit := f.fillPermit == 1, priority := f.priority }

/-- Checks 2 and 3 of R36. -/
def BankInRange (f : BankFields) : Prop :=
  f.valid ≤ 1 ∧ f.drawPermit ≤ 1 ∧ f.fillPermit ≤ 1 ∧ 50 ≤ f.volume ∧ f.volume ≤ 20000 ∧ 10000 ≤ f.rated ∧
    f.rated ≤ 100000 ∧ f.priority ≤ 7 ∧ f.floor < f.refillOn ∧ f.refillOn < f.refillOff ∧ f.refillOff ≤ f.rated

theorem onOff_none : ∀ {x : Nat}, ¬ x ≤ 1 → onOff x = none
  | 0, h | 1, h => absurd (by omega) h
  | _ + 2, _ => rfl

theorem bankEntryOf_ok {f : BankFields} (h : BankInRange f) : bankEntryOf f = some (bankOf f) := by
  obtain ⟨hv, hd, hp, hr⟩ := h
  simp only [bankEntryOf, onOff_of_le hv, onOff_of_le hd, onOff_of_le hp]
  exact if_pos (by simp only [Bool.and_eq_true, inRange_iff, decide_eq_true_eq]; omega)

theorem bankEntryOf_bad {f : BankFields} (h : ¬ BankInRange f) : bankEntryOf f = none := by
  unfold bankEntryOf
  split
  · next hv hd hp =>
    have le (x : Nat) (b : Bool) (e : onOff x = some b) : x ≤ 1 := (onOff_isSome x).mp ⟨b, e⟩
    refine if_neg fun ok => h ⟨le _ _ hv, le _ _ hd, le _ _ hp, ?_⟩
    simp only [Bool.and_eq_true, inRange_iff, decide_eq_true_eq] at ok
    omega
  · rfl

theorem map_upd_eq {α β : Type} {n : Nat} (g : α → β) (v : Vector α n) (i : Fin n) (x : α) :
    (upd v i x).map g = upd (v.map g) i (g x) := by
  simp [upd]

theorem modBank_fixed (b : BankId) (g : Bank → Bank) :
    (modBank b g s).fixed = { s.fixed with banks := upd s.fixed.banks b (g (s.bank b)).entry } := by
  simp only [State.fixed, modBank_banks, map_upd_eq]
  rfl

/-- The run of the blocks that follows the taking of a bank's entry writes no bank but for the reload mark at its end. -/
theorem installBank_runs (b : BankId) (e : BankEntry) (s : State) :
    ∃ t, Runs false (modBank b (fun k => { k with entry := e }) s) t ∧
    installBank b e s = modBank b (fun k => { k with reload := k.reload || k.protect }) t :=
  ⟨_, Runs.refillEval (.ite (Runs.refl _).forceOff.takeSensor (Runs.refl _).forceOff.postFault), rfl⟩

/-- After an accepted LOAD_BANK: the entry and the reload mark, and nothing else of any bank, table or channel. -/
theorem installBank_settled (b : BankId) (e : BankEntry) (s : State) :
    (settle (installBank b e s)).banks =
        upd s.banks b { s.bank b with entry := e, reload := (s.bank b).reload || (s.bank b).protect } ∧
      (settle (installBank b e s)).fixed = { s.fixed with banks := upd s.fixed.banks b e } := by
  obtain ⟨t, run, eq⟩ := installBank_runs b e s
  have bank : t.bank b = { s.bank b with entry := e } := by
    simp [State.bank, run.banks rfl, modBank_banks]
  have after : Runs false _ (settle (installBank b e s)) := (Runs.refl _).settle
  constructor
  · rw [after.banks rfl, eq, modBank_banks, run.banks rfl, modBank_banks, upd_upd, bank]
  · rw [after.fixed, eq, modBank_fixed, run.fixed, modBank_fixed, bank]
    simp

theorem fillMapped_iff (b : BankId) (e : BankEntry) : s.fillMapped b e = true ↔ s.site.state = .unconfigured ∨
    ∀ k, (s.comp k).loaded = true → e.valid = true → e.rated ≤ (s.comp k).entry.maxDischarge →
      sel s.roleMap (Role.fill k b).number ≠ none := by
  simp only [State.fillMapped, Bool.or_eq_true, beq_iff_eq, mappedFor_iff]
  refine or_congr_right ⟨fun h k l v r => h (.fill k b) (by simp) (by simp [State.roleNeeded, l, v, r]), fun h r => ?_⟩
  cases r with
  | fill k b' =>
    intro eb need
    obtain rfl : b' = b := by simpa using eb
    simp only [State.roleNeeded, modBank_comp, modBank_bank_self, Bool.and_eq_true, decide_eq_true_eq] at need
    exact h k need.1.1 need.1.2 need.2
  | draw | shutoff | vent | recirc => intro no; simp at no

/-- Settles O17. -/
theorem loadBankReplacesTheEntry : Obligations.LoadBankReplacesTheEntry := by
  intro s n f ok needed unmapped
  have mapped (b : BankId) : s.fillMapped b (bankOf f) = true ↔ s.site.state = .unconfigured ∨ ¬ unmapped b := by
    simp only [fillMapped_iff, unmapped, needed, not_exists, not_and, and_imp]
    simp [bankOf]
  refine ⟨fun bad => refuses_of rfl ?_, fun h good hs un => refuses_of rfl ?_, fun h good fits => ?_⟩
  · unfold ownLoadBank
    split
    · next hb he =>
      rcases bad with hn | bad
      · simp [unitOf_ge hn] at hb
      · simp [bankEntryOf_bad bad] at he
    · rfl
  · have : ¬ s.fillMapped ⟨n, h⟩ (bankOf f) = true := fun m => ((mapped _).mp m).elim hs (· un)
    simp only [ownLoadBank, unitOf_lt h, bankEntryOf_ok good, if_neg this]
  · obtain ⟨banks, fixed⟩ := installBank_settled ⟨n, h⟩ (bankOf f) s
    have own : ownLoadBank n f s = accept (settle (installBank ⟨n, h⟩ (bankOf f) s)) := by
      simp only [ownLoadBank, unitOf_lt h, bankEntryOf_ok good, if_pos ((mapped _).mpr fits)]
    have bank (c : BankId) : (settle (installBank ⟨n, h⟩ (bankOf f) s)).bank c =
        if ⟨n, h⟩ = c then { s.bank ⟨n, h⟩ with entry := (bankOf f), reload := (s.bank ⟨n, h⟩).reload || (s.bank ⟨n, h⟩).protect }
        else s.bank c := by
      simp only [State.bank, banks, sel_upd]
    refine ⟨_, answers_of rfl own, ?_⟩
    rw [fixed]
    refine ⟨?_, ?_, ?_, ?_, ?_, fun c hc => ?_, ?_⟩
    all_goals rw [bank]
    case refine_6 => exact if_neg fun e => hc (by rw [← e])
    all_goals rw [if_pos rfl]
    rfl

/-! ### LOAD_COMPRESSOR -/

theorem modComp_fixed (k : CompId) (g : Compressor → Compressor) :
    (modComp k g s).fixed = { s.fixed with
      compressors := upd s.fixed.compressors k ((g (s.comp k)).entry, (g (s.comp k)).loaded) } := by
  simp only [State.fixed, modComp_cs, map_upd_eq]
  rfl

/-- What the fixed part says of a compressor. -/
theorem fixed_comp (u : State) (k : CompId) : sel u.fixed.compressors k = ((u.comp k).entry, (u.comp k).loaded) := by
  simp [State.fixed, State.comp, sel]

theorem compRolesMapped_iff (k : CompId) (f : CompressorFields) :
    (installCompressor k f s).mappedFor (Role.ofComp k) = true ↔ sel s.roleMap (Role.recirc k).number ≠ none ∧
      ∀ b, (s.bank b).entry.valid = true → (s.bank b).entry.rated ≤ f.maxDischarge →
        sel s.roleMap (Role.fill k b).number ≠ none := by
  rw [mappedFor_iff]
  constructor
  · exact fun h => ⟨h (.recirc k) (by simp [Role.ofComp]) (by simp [State.roleNeeded, installCompressor]),
      fun b v r => h (.fill k b) (by simp [Role.ofComp]) (by simp [State.roleNeeded, installCompressor, v, r])⟩
  · rintro ⟨hr, hf⟩ r own need
    cases r with
    | recirc k' => obtain rfl : k' = k := by simpa [Role.ofComp] using own
                   exact hr
    | fill k' b =>
      obtain rfl : k' = k := by simpa [Role.ofComp] using own
      simp only [State.roleNeeded, installCompressor, modComp_comp_self, modComp_bank, Bool.and_eq_true,
        decide_eq_true_eq] at need
      exact hf b need.1.2 need.2
    | draw | shutoff | vent => simp [Role.ofComp] at own

/-- Settles O18. -/
theorem loadCompressorReplacesTheEntry : Obligations.LoadCompressorReplacesTheEntry := by
  intro s n f ht ok unmapped
  have hok : compressorInRange f = true ↔ ok := by
    simp only [compressorInRange, Bool.and_eq_true, inRange_iff, decide_eq_true_eq, ok, and_assoc]
  have mapped (k : CompId) : (installCompressor k f s).mappedFor (Role.ofComp k) = true ↔ ¬ unmapped k := by
    simp only [compRolesMapped_iff, unmapped, not_or, not_exists, not_and, ne_eq]
  refine ⟨fun bad => refuses_of rfl ?_, fun h good hs un => refuses_of rfl ?_, fun h good fits => ?_⟩
  · rw [ownLoadCompressor, load_taken ht]
    split
    · next hk =>
      rcases bad with hn | bad
      · simp [unitOf_ge hn] at hk
      · simp [mt hok.mp bad]
    · rfl
  · have : ¬ (installCompressor ⟨n, h⟩ f s).mappedFor (Role.ofComp ⟨n, h⟩) = true := fun m => (mapped _).mp m un
    simp [ownLoadCompressor, load_taken ht, unitOf_lt h, hok.mpr good, hs, this]
  · have own : ownLoadCompressor n f s = accept (settle (evalNeed ⟨n, h⟩ (installCompressor ⟨n, h⟩ f s))) := by
      have pass : s.site.state = .maintenance → (installCompressor ⟨n, h⟩ f s).mappedFor (Role.ofComp ⟨n, h⟩) = true := by
        intro hm; rw [mapped]; simpa [hm] using fits
      simp only [ownLoadCompressor, load_taken ht, unitOf_lt h, hok.mpr good]
      rw [if_neg (by simp), if_neg (by simpa using pass)]
    have run : Runs false (installCompressor ⟨n, h⟩ f s) (settle (evalNeed ⟨n, h⟩ (installCompressor ⟨n, h⟩ f s))) :=
      (Runs.refl _).evalNeed.settle
    have fixed := run.fixed.trans (modComp_fixed _ _)
    have entry := fixed_comp (settle (evalNeed ⟨n, h⟩ (installCompressor ⟨n, h⟩ f s))) ⟨n, h⟩
    rw [fixed] at entry
    simp only [sel_upd_self, Prod.mk.injEq] at entry
    exact ⟨_, answers_of rfl own, entry.1.symm, entry.2.symm, run.banks rfl, fixed⟩

/-! ### LOAD_FP -/

theorem cascadeOf_ok {l : List Nat} (h1 : 1 ≤ l.length) (h8 : l.length ≤ 8) (hd : l.Nodup) (hb : ∀ b ∈ l, b ≤ 7) :
    ∃ bs, cascadeOf l = some bs ∧ bs.map Fin.val = l := by
  obtain ⟨bs, hm, rfl⟩ := mapM_unitOf l hb
  exact ⟨bs, by rw [cascadeOf, if_neg (by omega), hm]; exact if_pos (List.Nodup.of_map _ hd), rfl⟩

theorem cascadeOf_some {l : List Nat} {bs : List BankId} (h : cascadeOf l = some bs) :
    1 ≤ l.length ∧ l.length ≤ 8 ∧ l.Nodup ∧ ∀ b ∈ l, b ≤ 7 := by
  rw [cascadeOf] at h
  split at h
  · simp at h
  · next hl =>
    have hb : ∀ b ∈ l, b ≤ 7 := by
      by_contra no
      simp [mapM_unitOf_none l no] at h
    obtain ⟨bs', hm, rfl⟩ := mapM_unitOf l hb
    rw [hm] at h
    have hd : bs'.Nodup := by
      by_contra no
      simp [no] at h
    exact ⟨by omega, by omega, hd.map Fin.val_injective, hb⟩

theorem allowedOf_some {x : Nat} {cs : List PrecoolClass} (h : allowedOf x = some cs) : 1 ≤ x ∧ x ≤ 15 := by
  unfold allowedOf at h
  split at h
  · simp at h
  · omega

theorem pressureClassOf_some {x : Nat} {c : PressureClass} (h : pressureClassOf x = some c) : x ≤ 1 := by
  by_contra no
  simp [pressureClassOf_none (x := x) (by omega)] at h

theorem categoryOf_some {x : Nat} {c : Category} (h : categoryOf x = some c) : x ≤ 2 := by
  by_contra no
  simp [categoryOf_none (x := x) (by omega)] at h

theorem onOff_some {x : Nat} {b : Bool} (h : onOff x = some b) : x ≤ 1 := (onOff_isSome x).mp ⟨b, h⟩

/-- The field checks of a LOAD_FP (R95). -/
def FpInRange (f : FpFields) : Prop :=
  f.pressureClass ≤ 1 ∧ 1 ≤ f.allowed ∧ f.allowed ≤ 15 ∧ 1 ≤ f.cascade.length ∧ f.cascade.length ≤ 8 ∧
    f.cascade.Nodup ∧ (∀ b ∈ f.cascade, b ≤ 7) ∧ f.category ≤ 2 ∧ f.commRequired ≤ 1 ∧ f.autoStart ≤ 1 ∧
    100 ≤ f.defaultEstimate ∧ f.defaultEstimate ≤ 120000 ∧ 1000 ≤ f.maxMass ∧ f.maxMass ≤ 120000 ∧
    100 ≤ f.authTimeout ∧ f.authTimeout ≤ 9000 ∧ 300 ≤ f.maxFillTime ∧ f.maxFillTime ≤ 36000 ∧ f.priority ≤ 7 ∧
    1 ≤ f.mgPerPulse ∧ f.mgPerPulse ≤ 10000 ∧ 1 ≤ f.maxPulseRate ∧ f.maxPulseRate ≤ 5000 ∧ 1 ≤ f.creepLimit ∧
    f.creepLimit ≤ 1000 ∧ 500 ≤ f.defaultSoc ∧ f.defaultSoc ≤ 1000

/-- What an entry read from the fields of a LOAD_FP holds (R95). -/
structure FpEntry.Carries (e : FpEntry) (f : FpFields) : Prop where
  pressureClass : e.pressureClass.code = f.pressureClass
  allowed : ∀ c, c ∈ e.allowed ↔ f.allowed.testBit c.code = true
  cascade : e.cascade.map Fin.val = f.cascade
  category : e.category.code = f.category
  marks : e.commRequired = (f.commRequired == 1) ∧ e.autoStart = (f.autoStart == 1)
  figures : e.defaultEstimate = f.defaultEstimate ∧ e.maxMass = f.maxMass ∧
    e.authTimeout = f.authTimeout ∧ e.maxFillTime = f.maxFillTime ∧ e.priority = f.priority ∧
    e.mgPerPulse = f.mgPerPulse ∧ e.maxPulseRate = f.maxPulseRate ∧ e.creepLimit = f.creepLimit ∧
    e.defaultSoc = f.defaultSoc

theorem fpEntryOf_ok {f : FpFields} (h : FpInRange f) : ∃ e, fpEntryOf f = some e ∧ e.Carries f := by
  obtain ⟨hp, ha1, ha, hl1, hl8, hd, hb, hc, hr, hs, figures⟩ := h
  obtain ⟨pc, ep, vp⟩ := pressureClassOf_le hp
  obtain ⟨bs, eb, vb⟩ := cascadeOf_ok hl1 hl8 hd hb
  obtain ⟨ct, ec, vc⟩ := categoryOf_le hc
  simp only [fpEntryOf, ep, allowedOf_of_le _ ha ha1, eb, ec, onOff_of_le hr, onOff_of_le hs]
  refine ⟨_, if_pos ?_, vp, fun c => ?_, vb, vc, ⟨rfl, rfl⟩, rfl, rfl, rfl, rfl, rfl, rfl, rfl, rfl, rfl⟩
  · simp only [Bool.and_eq_true, inRange_iff, decide_eq_true_eq]; omega
  · have all : c ∈ classOrder := by cases c <;> simp [classOrder]
    simp [all]

theorem fpEntryOf_bad {f : FpFields} (h : ¬ FpInRange f) : fpEntryOf f = none := by
  unfold fpEntryOf
  split
  · next hp ha hl hc hr hs =>
    obtain ⟨ha1, ha15⟩ := allowedOf_some ha
    obtain ⟨hl1, hl8, hd, hb⟩ := cascadeOf_some hl
    refine if_neg fun ok => h ⟨pressureClassOf_some hp, ha1, ha15, hl1, hl8, hd, hb, categoryOf_some hc, onOff_some hr,
      onOff_some hs, ?_⟩
    simp only [Bool.and_eq_true, inRange_iff, decide_eq_true_eq] at ok
    omega
  · rfl

theorem fpRolesMapped_iff (i : FpId) (e : FpEntry) :
    (installFp i e s).mappedFor (Role.ofFp i) = true ↔ sel s.roleMap (Role.shutoff i).number ≠ none ∧
      sel s.roleMap (Role.vent i).number ≠ none ∧ ∀ b ∈ e.cascade, sel s.roleMap (Role.draw i b).number ≠ none := by
  rw [mappedFor_iff]
  constructor
  · exact fun h => ⟨h (.shutoff i) (by simp [Role.ofFp]) (by simp [State.roleNeeded, installFp]),
      h (.vent i) (by simp [Role.ofFp]) (by simp [State.roleNeeded, installFp]),
      fun b m => h (.draw i b) (by simp [Role.ofFp]) (by simp [State.roleNeeded, installFp, m])⟩
  · rintro ⟨hs, hv, hd⟩ r own need
    cases r with
    | shutoff j => obtain rfl : j = i := by simpa [Role.ofFp] using own
                   exact hs
    | vent j => obtain rfl : j = i := by simpa [Role.ofFp] using own
                exact hv
    | draw j b =>
      obtain rfl : j = i := by simpa [Role.ofFp] using own
      exact hd b (by simpa [State.roleNeeded, installFp] using need)
    | fill | recirc => simp [Role.ofFp] at own

/-- Settles O19. -/
theorem loadFpReplacesTheEntry : Obligations.LoadFpReplacesTheEntry := by
  intro s n f ht ok unmapped
  have mapped (i : FpId) (e : FpEntry) (c : e.Carries f) :
      (installFp i e s).mappedFor (Role.ofFp i) = true ↔ ¬ unmapped i := by
    have banks (b : BankId) : b ∈ e.cascade ↔ b.val ∈ f.cascade := by
      rw [← c.cascade]; simp [Fin.val_inj]
    simp only [fpRolesMapped_iff, unmapped, not_or, not_exists, not_and, ne_eq, banks]
  refine ⟨fun bad => refuses_of rfl ?_, fun h good hs un => refuses_of rfl ?_, fun h good fits => ?_⟩
  · rw [ownLoadFp, load_taken ht]
    split
    · next hi he =>
      rcases bad with hn | bad
      · simp [unitOf_ge hn] at hi
      · simp [fpEntryOf_bad bad] at he
    · rfl
  · obtain ⟨e, he, c⟩ := fpEntryOf_ok good
    have : ¬ (installFp ⟨n, h⟩ e s).mappedFor (Role.ofFp ⟨n, h⟩) = true := fun m => (mapped _ e c).mp m un
    simp [ownLoadFp, load_taken ht, unitOf_lt h, he, hs, this]
  · obtain ⟨e, he, c⟩ := fpEntryOf_ok good
    have pass : s.site.state = .maintenance → (installFp ⟨n, h⟩ e s).mappedFor (Role.ofFp ⟨n, h⟩) = true := by
      intro hm; rw [mapped _ e c]; simpa [hm] using fits
    refine ⟨installFp ⟨n, h⟩ e s, e, answers_of rfl ?_, rfl, c.pressureClass, c.allowed, c.cascade, c.category, c.marks.1,
      c.marks.2, c.figures⟩
    simp only [ownLoadFp, load_taken ht, unitOf_lt h, he]
    exact if_neg (by simpa using pass)

/-! ### LOAD_CHANNEL -/

theorem bindingOf_bad {c n : Nat} (h : 8 < c ∨ (c ≤ 1 ∧ 3 < n) ∨ (c ≤ 3 ∧ 7 < n) ∨ (c = 6 ∧ 1 < n)) : bindingOf c n = none := by
  unfold bindingOf
  split <;> simp [unitOf] <;> omega

theorem scaleInRange_iff (bd : Binding) (f : ChannelFields) : scaleInRange bd f = true ↔ bd = .unused ∨
    (if bd.isPressure then 0 else 1000) ≤ f.scaleLow ∧ f.scaleHigh ≤ (if bd.isPressure then 100000 else 4500) ∧
      f.scaleLow < f.scaleHigh ∧ f.scaleLow ≤ f.plausLow ∧ f.plausLow ≤ f.plausHigh ∧ f.plausHigh ≤ f.scaleHigh := by
  unfold scaleInRange
  split
  · simp
  · next h =>
    simp only [Bool.and_eq_true, inRange_iff, decide_eq_true_eq]
    have : bd ≠ .unused := h
    constructor
    · intro ok; right; split at ok <;> simp_all
    · rintro (e | ok)
      · exact absurd e this
      · split at ok <;> simp_all <;> omega

theorem heldElsewhere_iff (i : ChanId) (bd : Binding) :
    s.heldElsewhere i bd = true ↔ bd ≠ .unused ∧ ∃ j : ChanId, j.val ≠ i.val ∧ (s.chan j).binding = bd := by
  simp [State.heldElsewhere, allChans, Fin.ext_iff]

/-- Settles O20. -/
theorem loadChannelRestartsTheChannel : Obligations.LoadChannelRestartsTheChannel := by
  intro s n f ht
  have own (i : ChanId) (bd : Binding) (hn : unitOf 48 n = some i) (hb : bindingOf f.binding f.index = some bd) :
      ownLoadChannel n f s = if s.heldElsewhere i bd || !scaleInRange bd f then refuse s .badField
        else accept (settle (if (s.chan i).binding ≠ .unused ∧ (s.chan i).status = .good then
          tellHeld (s.chan i).binding 0 (modChan i (fun c => c.restarted bd f) s) else
            modChan i (fun c => c.restarted bd f) s)) := by
    simp only [ownLoadChannel, load_taken ht, hn, hb]
  refine ⟨fun bad => refuses_of rfl ?_, ?_⟩
  · rw [ownLoadChannel, load_taken ht]
    split
    · next hb => simp [bindingOf_bad bad] at hb
    · rfl
  intro bd hb top low ok taken
  refine ⟨fun bad => refuses_of rfl ?_, ?_⟩
  · by_cases hn : n < 48
    · rw [own _ _ (unitOf_lt hn) hb]
      refine if_pos ?_
      rw [Bool.or_eq_true, heldElsewhere_iff, Bool.not_eq_true', ← Bool.not_eq_true, scaleInRange_iff]
      rcases bad with h | h | h
      · omega
      · exact .inr h
      · exact .inl h
    · simp only [ownLoadChannel, load_taken ht, unitOf_ge (Nat.le_of_not_lt hn)]
  · intro h good free c s1 told
    have pass : ¬ (s.heldElsewhere ⟨n, h⟩ bd || !scaleInRange bd f) = true := by
      rw [Bool.or_eq_true, heldElsewhere_iff, Bool.not_eq_true', ← Bool.not_eq_true, scaleInRange_iff]
      exact not_or.mpr ⟨free, not_not.mpr good⟩
    have run : Runs true s1 (settle (if told then tellHeld (s.chan ⟨n, h⟩).binding 0 s1 else s1)) :=
      (Runs.ite (Runs.refl _).tellHeld (Runs.refl _)).settle
    refine ⟨_, answers_of rfl ((own _ _ (unitOf_lt h) hb).trans (if_neg pass)), congrArg Fixed.chans run.fixed, run.site,
      fun t => congrArg settle (if_pos t), fun t e => ?_⟩
    exact (congrArg settle (if_neg t)).trans (settle_nil _ e)

/-! ### LOAD_INPUT -/

theorem lineFnOf_none : ∀ {x : Nat}, 13 < x → lineFnOf x = none
  | _ + 14, _ => rfl
theorem polarityOf_none : ∀ {x : Nat}, 1 < x → polarityOf x = none
  | _ + 2, _ => rfl
theorem detectModeOf_none : ∀ {x : Nat}, 3 < x → detectModeOf x = none
  | _ + 4, _ => rfl

theorem polarityOf_le : ∀ {x : Nat}, x ≤ 1 → ∃ p, polarityOf x = some p ∧ p.code = x
  | 0, _ | 1, _ => ⟨_, rfl, rfl⟩
theorem detectModeOf_le : ∀ {x : Nat}, x ≤ 3 → ∃ m, detectModeOf x = some m ∧ (m = .level ↔ x = 0) ∧ (m = .rising ↔ x = 1)
  | 0, _ | 1, _ | 2, _ | 3, _ => ⟨_, rfl, by decide, by decide⟩

/-- The target a function with this code does not have (R9). -/
def BadTarget (code target : Nat) : Prop := (6 ≤ code ∧ code ≤ 11 ∧ 3 < target) ∨ (code = 12 ∧ 1 < target)

/-- The mode a function with this code does not permit (R9). -/
def BadMode (code mode : Nat) : Prop :=
  ((code = 6 ∨ code = 7) ∧ mode ≠ 0) ∨ ((code = 8 ∨ code = 9) ∧ mode = 0) ∨
    (code ≠ 6 ∧ code ≠ 7 ∧ code ≠ 8 ∧ code ≠ 9 ∧ code ≠ 3 ∧ code ≠ 13 ∧ 1 < mode)

/-- What a function says of targets and modes, by its code. -/
structure LineFn.Reads (fn : LineFn) (code : Nat) : Prop where
  target : ∀ t, (fn.targets ≠ 0 ∧ fn.targets ≤ t) ↔ BadTarget code t
  mode : ∀ m md, (md = .level ↔ m = 0) → (md = .rising ↔ m = 1) → (fn.permits md = true ↔ ¬ BadMode code m)
  holster : fn = .nozzleHolster ↔ code = 6
  connect : fn = .nozzleConnect ↔ code = 7
  nozzle : fn.isNozzle = true ↔ fn = .nozzleHolster ∨ fn = .nozzleConnect

theorem lineFnOf_le {x : Nat} (h : x ≤ 13) : ∃ fn, lineFnOf x = some fn ∧ fn.Reads x := by
  interval_cases x
  all_goals
    refine ⟨_, rfl, fun t => ?_, fun m md e0 e1 => ?_, by decide, by decide, by decide⟩
    · simp only [LineFn.targets, BadTarget, true_and]; omega
    · simp [LineFn.permits, BadMode, e0, e1]; try omega

theorem Event.lines {w : Bool} {t : State} (h : Event w s t) : t.lines = s.lines := congrArg Fixed.lines h.rest

/-- A loaded line has its new entry and its old levels, and every other line stands. -/
theorem installLine_lines (l : LineId) (fn : LineFn) (t : Nat) (p : Polarity) (m : DetectMode) (s : State) :
    (settle (installLine l fn t p m s)).lines =
      upd s.lines l { s.line l with fn := fn, target := t, polarity := p, mode := m } :=
  ((event_installLine l fn t p m s).settle (w := true)).lines

theorem nozzleTaken_iff (j : LineId) (fn : LineFn) (t code : Nat) (r : fn.Reads code) :
    s.nozzleTaken j fn t = true ↔ ∃ k : LineId, k.val ≠ j.val ∧ (s.line k).target = t ∧
      ((code = 6 ∧ (s.line k).fn = .nozzleHolster) ∨ (code = 7 ∧ (s.line k).fn = .nozzleConnect)) := by
  simp only [State.nozzleTaken, allLines, Bool.and_eq_true, List.any_eq_true, List.mem_finRange, true_and, bne_iff_ne,
    beq_iff_eq, r.nozzle, ← r.holster, ← r.connect, Fin.ext_iff, ne_eq]
  grind

/-- Settles O21. -/
theorem loadInputReplacesTheLine : Obligations.LoadInputReplacesTheLine := by
  intro s n f ht nozzle perFp badTarget badMode taken bad
  have hTarget : badTarget ↔ BadTarget f.function f.target := by simp only [badTarget, perFp, BadTarget, and_assoc]
  have hMode : badMode ↔ BadMode f.function f.mode := by simp only [badMode, nozzle, BadMode, not_or, and_assoc]
  have own {j fn p m} (hj : unitOf 32 n = some j) (hf : lineFnOf f.function = some fn) (hp : polarityOf f.polarity = some p)
      (hm : detectModeOf f.mode = some m) : ownLoadInput n f s =
        if (fn.targets != 0 && decide (fn.targets ≤ f.target)) || !fn.permits m || s.nozzleTaken j fn f.target then
          refuse s .badField else accept (settle (installLine j fn f.target p m s)) := by
    simp only [ownLoadInput, load_taken ht, hj, hf, hp, hm]
  by_cases dec : n < 32 ∧ f.function ≤ 13 ∧ f.polarity ≤ 1 ∧ f.mode ≤ 3
  · obtain ⟨hn, hfn, hp, hm⟩ := dec
    obtain ⟨fn, ef, rf⟩ := lineFnOf_le hfn
    obtain ⟨p, ep, -⟩ := polarityOf_le hp
    obtain ⟨m, em, level, rising⟩ := detectModeOf_le hm
    have test : ((fn.targets != 0 && decide (fn.targets ≤ f.target)) || !fn.permits m ||
        s.nozzleTaken ⟨n, hn⟩ fn f.target) = true ↔ bad := by
      simp only [Bool.or_eq_true, Bool.and_eq_true, bne_iff_ne, decide_eq_true_eq, Bool.not_eq_true', ← Bool.not_eq_true,
        rf.target, rf.mode _ _ level rising, not_not, nozzleTaken_iff _ _ _ _ rf, ← hTarget, ← hMode, bad, taken,
        Nat.not_le.mpr hn, Nat.not_lt.mpr hfn, Nat.not_lt.mpr hp, Nat.not_lt.mpr hm, false_or, or_assoc]
    refine ⟨fun b => refuses_of rfl ((own (unitOf_lt hn) ef ep em).trans (if_pos (test.mpr b))), fun good => ?_⟩
    have taken := (own (unitOf_lt hn) ef ep em).trans (if_neg (mt test.mp good))
    refine ⟨hn, settle (installLine ⟨n, hn⟩ fn f.target p m s), fn, p, m, answers_of rfl taken, ef, ep, em, ?_, fun j hj => ?_⟩
    · simp [State.line, installLine_lines]
    · have : (⟨n, hn⟩ : LineId) ≠ j := fun e => hj (by rw [← e])
      simp [State.line, installLine_lines, sel_upd, this]
  · refine ⟨fun _ => refuses_of rfl ?_, fun good => absurd ?_ good⟩
    · rw [ownLoadInput, load_taken ht]
      split
      · next hj hf hp hm =>
        refine absurd ⟨?_, ?_, ?_, ?_⟩ dec <;> by_contra no
        · simp [unitOf_ge (Nat.le_of_not_lt no)] at hj
        · simp [lineFnOf_none (Nat.lt_of_not_le no)] at hf
        · simp [polarityOf_none (Nat.lt_of_not_le no)] at hp
        · simp [detectModeOf_none (Nat.lt_of_not_le no)] at hm
      · rfl
    · simp only [bad]; omega

/-! ### LOAD_VALVE_MAP -/

/-- The line a pair of a valve map names; a number that names no line is NONE. -/
def lineNamed (x : Nat) : Option (Fin 64) := if h : x < 64 then some ⟨x, h⟩ else none

/-- The line the map gives a role after the pairs. -/
def lineAfter (m : Vector (Option (Fin 64)) 58) (ps : List (Nat × Nat)) (r : Fin 58) : Option (Fin 64) :=
  ((ps.find? (fun p => p.1 == r.val)).map (fun p => lineNamed p.2)).getD (sel m r)

/-- Every pair names a role and a line, or NONE. -/
def PairsOk (ps : List (Nat × Nat)) : Prop := ∀ p ∈ ps, p.1 ≤ 57 ∧ (p.2 ≤ 63 ∨ p.2 = 255)

theorem mapLineOf_ok {x : Nat} (h : x ≤ 63 ∨ x = 255) : mapLineOf x = some (lineNamed x) := by
  rcases h with h | rfl
  · have : x < 64 := by omega
    simp [mapLineOf, lineNamed, this, show x ≠ 255 by omega]
  · rfl

theorem mapLineOf_bad {x : Nat} (h : ¬ (x ≤ 63 ∨ x = 255)) : mapLineOf x = none := by
  simp [mapLineOf, unitOf_ge (show 64 ≤ x by omega), show x ≠ 255 by omega]

theorem pairsOf_cons (p : Nat × Nat) (ps : List (Nat × Nat)) (r : Fin 58) (o : Option (Fin 64))
    (l : List (Fin 58 × Option (Fin 64))) (hr : unitOf 58 p.1 = some r) (ho : mapLineOf p.2 = some o)
    (hl : pairsOf ps = some l) : pairsOf (p :: ps) = some ((r, o) :: l) := by
  rw [pairsOf] at hl ⊢
  simp [List.mapM_cons, hr, ho, hl]

/-- The pairs read, applied in turn, give each role the line of its first pair, no role being named twice. -/
theorem pairsOf_ok {ps : List (Nat × Nat)} (h : PairsOk ps) : ∃ l, pairsOf ps = some l ∧
    l.map (·.1.val) = ps.map (·.1) ∧
    ((ps.map (·.1)).Nodup → ∀ m r, sel (applyPairs m l) r = lineAfter m ps r) := by
  induction ps with
  | nil => exact ⟨[], rfl, rfl, fun _ _ _ => rfl⟩
  | cons p ps ih =>
    obtain ⟨l, el, keys, lines⟩ := ih fun q hq => h q (by simp [hq])
    obtain ⟨hr, ho⟩ := h p (by simp)
    refine ⟨_, pairsOf_cons p ps _ _ l (unitOf_lt (show p.1 < 58 by omega)) (mapLineOf_ok ho) el, by simp [keys],
      fun nd m r => ?_⟩
    obtain ⟨fresh, nd⟩ := List.nodup_cons.mp nd
    have step := lines nd (upd m ⟨p.1, by omega⟩ (lineNamed p.2)) r
    refine Eq.trans step ?_
    by_cases e : p.1 = r.val
    · have none : ps.find? (fun q => q.1 == r.val) = none := by
        rw [List.find?_eq_none]
        intro q hq hk
        exact fresh (List.mem_map.mpr ⟨q, hq, by simpa [e] using hk⟩)
      simp [lineAfter, none, e]
    · simp [lineAfter, e, sel_upd, Fin.ext_iff]

theorem pairsOf_bad {ps : List (Nat × Nat)} (h : ¬ PairsOk ps) : pairsOf ps = none := by
  induction ps with
  | nil => simp [PairsOk] at h
  | cons p ps ih =>
    by_cases hp : p.1 ≤ 57 ∧ (p.2 ≤ 63 ∨ p.2 = 255)
    · have tail := ih fun k => h fun q hq => (List.mem_cons.mp hq).elim (· ▸ hp) (k q)
      rw [pairsOf] at tail ⊢
      simp [List.mapM_cons, tail]
    · rw [pairsOf]
      by_cases hr : p.1 ≤ 57
      · simp [List.mapM_cons, mapLineOf_bad fun o => hp ⟨hr, o⟩]
      · simp [List.mapM_cons, unitOf_ge (show 58 ≤ p.1 by omega)]

theorem mapDistinct_iff (m : Vector (Option (Fin 64)) 58) :
    mapDistinct m = true ↔ ∀ r r' : Fin 58, r ≠ r' → ∀ o, sel m r = some o → sel m r' ≠ some o := by
  rw [mapDistinct, decide_eq_true_eq]
  rw [List.Nodup, List.pairwise_filterMap, List.pairwise_iff_getElem]
  constructor
  · intro h r r' ne o e e'
    rcases Nat.lt_or_gt_of_ne (Fin.val_ne_of_ne ne) with lt | lt
    · exact h r.val r'.val (by simp) (by simp) lt o (by simpa [sel] using e) o (by simpa [sel] using e') rfl
    · exact h r'.val r.val (by simp) (by simp) lt o (by simpa [sel] using e') o (by simpa [sel] using e) rfl
  · rintro h i j hi hj lt b e b' e' rfl
    exact h ⟨i, by simpa using hi⟩ ⟨j, by simpa using hj⟩ (by simp; omega) b (by simpa [sel] using e) (by simpa [sel] using e')

theorem mapped_iff (m : Vector (Option (Fin 64)) 58) : ({ s with roleMap := m } : State).mapped = true ↔
    ∀ r, s.roleNeeded (roleAt r) = true → sel m r ≠ none := by
  rw [State.mapped, mappedFor_iff]
  constructor
  · intro h r need
    have := h (roleAt r) rfl need
    rwa [number_roleAt] at this
  · intro h r _ need
    refine h r.number ?_
    rwa [roleAt_number]

/-- Settles O22. -/
theorem loadValveMapIsAllOrNothing : Obligations.LoadValveMapIsAllOrNothing := by
  intro s ps ht h1 h58 wf line clash
  have hline (r : Fin 58) : line r = lineAfter s.roleMap ps r := by
    simp only [line, lineAfter]
    cases ps.find? (fun p => p.1 == r.val) <;> rfl
  have own : ownLoadValveMap ps s = _ := (if_neg (by omega)).trans (load_taken ht)
  by_cases hw : wf
  · obtain ⟨l, el, keys, lines⟩ := pairsOf_ok hw
    have nodup : (l.map (·.1)).Nodup ↔ (ps.map (·.1)).Nodup := by
      rw [← keys, ← List.nodup_map_iff Fin.val_injective, List.map_map]; rfl
    have clashes : ¬ clash ↔ (l.map (·.1)).Nodup ∧ mapDistinct (applyPairs s.roleMap l) = true := by
      rw [nodup, not_or, not_not, mapDistinct_iff]
      refine and_congr_right fun nd => ?_
      simp only [not_exists, not_and, hline, lines nd]
      exact ⟨fun h r r' ne o => h r r' o ne, fun h r r' o ne => h r r' ne o⟩
    have pass : ¬ clash → (!decide (l.map (·.1)).Nodup || !mapDistinct (applyPairs s.roleMap l)) = false := by
      rw [clashes]; simp
    have mapped (ok : ¬ clash) : ({ s with roleMap := applyPairs s.roleMap l } : State).mapped = true ↔
        ∀ r, s.roleNeeded (roleAt r) = true → line r ≠ none := by
      simp only [mapped_iff, hline, lines (nodup.mp (clashes.mp ok).1)]
    refine ⟨fun bad => refuses_of rfl ?_, fun _ ok hm ⟨r, need, no⟩ => refuses_of rfl ?_, fun _ ok fits => ?_⟩
    · have : ¬ ((l.map (·.1)).Nodup ∧ mapDistinct (applyPairs s.roleMap l) = true) := by
        rw [← clashes]; exact not_not.mpr (bad.resolve_left (not_not.mpr hw))
      rw [own, el]
      exact if_pos (by simpa [not_and_or, -not_and] using this)
    · have : ¬ ({ s with roleMap := applyPairs s.roleMap l } : State).mapped = true := fun m => (mapped ok).mp m r need no
      rw [own, el]
      simp only [pass ok]
      rw [if_neg (by simp)]
      exact if_pos (by simpa [hm] using this)
    · refine ⟨{ s with roleMap := applyPairs s.roleMap l }, answers_of rfl ?_, rfl, fun r => ?_⟩
      · rw [own, el]
        simp only [pass ok]
        rw [if_neg (by simp)]
        refine if_neg ?_
        rcases fits with e | all
        · simp [e]
        · simp [(mapped ok).mpr all]
      · rw [hline, ← lines (nodup.mp (clashes.mp ok).1)]
  · refine ⟨fun _ => refuses_of rfl ?_, fun h => absurd h hw, fun h => absurd h hw⟩
    rw [own, pairsOf_bad hw]

/-! ### LOAD_EVENT_OUTPUT -/

theorem conditionOf_bad {c n : Nat} (h : 8 < c ∨ (c = 2 ∧ 3 < n)) : conditionOf c n = none := by
  unfold conditionOf
  split <;> simp [unitOf] <;> omega

theorem conditionOf_ok {c n : Nat} (hc : c ≤ 8) (hn : c = 2 → n ≤ 3) : ∃ d, conditionOf c n = some d := by
  by_cases e : c = 2
  · subst e
    have lt : n < 4 := Nat.lt_succ_of_le (hn rfl)
    exact ⟨.fpFilling ⟨n, lt⟩, by simp [conditionOf, unitOf_lt lt]⟩
  · interval_cases c <;> first | exact absurd rfl e | exact ⟨_, rfl⟩

/-- Settles O23. -/
theorem loadEventOutputReplacesTheEntry : Obligations.LoadEventOutputReplacesTheEntry := by
  intro s l c n p ht
  refine ⟨fun bad => refuses_of rfl ?_, fun hl hc hn hp => ?_⟩
  · rw [ownLoadEventOutput, load_taken ht]
    split
    · next he hd hq =>
      rcases bad with h | h | h | h
      · simp [unitOf_ge h] at he
      · simp [conditionOf_bad (.inl h)] at hd
      · simp [conditionOf_bad (.inr h)] at hd
      · simp [polarityOf_none h] at hq
    · rfl
  · obtain ⟨cond, ec⟩ := conditionOf_ok hc hn
    obtain ⟨pol, ep, vp⟩ := polarityOf_le hp
    refine ⟨cond, pol, { s with events := upd s.events ⟨l, hl⟩ { condition := cond, polarity := pol } }, answers_of rfl ?_,
      ec, ep, rfl, ?_⟩
    · simp only [ownLoadEventOutput, load_taken ht, unitOf_lt hl, ec, ep]; rfl
    · subst vp
      cases pol <;> simp [State.eventActive, Polarity.code] <;> rfl

end Sys2Proof.Machine
end

section
/-!
PROOFS. Prices, the calendar, authorizations and the creep counter (R156 to R162, R170, R198).
-/
namespace Sys2Proof.Machine

variable {s : State}

/-! ### SET_PRICE -/

theorem pressureClassOf_lt {n : Nat} (h : n < 2) : ∃ c, pressureClassOf n = some c ∧ priceIndex c = ⟨n, h⟩ := by
  obtain ⟨c, e, v⟩ := pressureClassOf_le (x := n) (by omega)
  exact ⟨c, e, Fin.ext v⟩

/-- Settles O24. -/
theorem setPriceTakesEffectOrWaits : Obligations.SetPriceTakesEffectOrWaits := by
  intro s n price time
  refine ⟨fun bad => refuses_of rfl ?_, fun h hp => ?_⟩
  · unfold ownSetPrice
    split
    · next hc =>
      have hn : n ≤ 1 := pressureClassOf_some hc
      exact if_neg (by omega)
    · rfl
  · obtain ⟨c, ec, ic⟩ := pressureClassOf_lt h
    have own : ownSetPrice n price time s =
        (installPrice c price time s, .accepted (priceBytes ((installPrice c price time s).price c))) := by
      simp only [ownSetPrice, ec, if_pos hp]
    refine ⟨fun now => answers_of rfl (own.trans ?_), fun later => answers_of rfl (own.trans ?_)⟩
    · have e : installPrice c price time s = post flagPrice (setPriceEntry c { active := price, pending := none } s) :=
        if_pos now
      rw [e, ← ic]
      simp [post, modSli, setPriceEntry, State.price, priceBytes, flagPrice, u32, u8]
    · have e : installPrice c price time s =
          setPriceEntry c { active := (s.price c).active, pending := some (price, time) } s :=
        if_neg (Nat.not_le.mpr later)
      rw [e, ← ic]
      simp [setPriceEntry, State.price, priceBytes, u32, u8]

/-! ### The calendar -/

/-- A pending price whose time has come. -/
def Price.Due (p : Price) (now : Nat) : Prop := ∃ v t, p.pending = some (v, t) ∧ t ≤ now

/-- The price as the calendar stands at `now`. -/
def Price.at (p : Price) (now : Nat) : Price :=
  match p.pending with
  | some (v, t) => if t ≤ now then { active := v, pending := none } else p
  | none => p

theorem Price.at_due {p : Price} {now v t : Nat} (h : p.pending = some (v, t)) (le : t ≤ now) :
    p.at now = { active := v, pending := none } := by simp [Price.at, h, le]

theorem Price.at_waits {p : Price} {now : Nat} (h : ¬ p.Due now) : p.at now = p := by
  unfold Price.at
  split
  · next v t e => exact if_neg fun le => h ⟨v, t, e, le⟩
  · rfl

theorem activatePrice_due {c : PressureClass} (h : (s.price c).Due s.site.calendar) :
    activatePrice c s = post flagPrice (setPriceEntry c ((s.price c).at s.site.calendar) s) := by
  obtain ⟨v, t, e, le⟩ := h
  rw [Price.at_due e le]
  simp [activatePrice, e, le]

theorem activatePrice_waits {c : PressureClass} (h : ¬ (s.price c).Due s.site.calendar) : activatePrice c s = s := by
  unfold activatePrice
  split
  · next v t e => exact if_neg fun le => h ⟨v, t, e, le⟩
  · rfl

theorem setPriceEntry_price (c d : PressureClass) (p : Price) :
    (setPriceEntry c p s).price d = if c = d then p else s.price d := by
  cases c <;> cases d <;> simp [setPriceEntry, State.price, priceIndex, sel_upd, PressureClass.code]

/-- What looking at one class, or at all of `P`, does as the calendar has moved: each price that is due becomes active, and is
posted. -/
structure PricesFollow (P : PressureClass → Prop) (s u : State) : Prop where
  rest : u = { s with prices := u.prices, sli := { s.sli with summary := u.sli.summary } }
  price : ∀ c, P c → u.price c = (s.price c).at s.site.calendar
  others : ∀ c, ¬ P c → u.price c = s.price c
  posts : ∀ c, P c → (s.price c).Due s.site.calendar → u.sli.summary = s.sli.summary ||| BitVec.twoPow 15 14
  quiet : (∀ c, P c → ¬ (s.price c).Due s.site.calendar) → u = s

theorem PricesFollow.site {P : PressureClass → Prop} {u : State} (h : PricesFollow P s u) : u.site = s.site := by rw [h.rest]

theorem activatePrice_follows (c : PressureClass) (s : State) : PricesFollow (· = c) s (activatePrice c s) := by
  by_cases h : (s.price c).Due s.site.calendar
  · rw [activatePrice_due h]
    refine ⟨rfl, ?_, fun d n => ?_, fun _ _ _ => rfl, fun q => absurd h (q c rfl)⟩
    · rintro _ rfl; exact (setPriceEntry_price _ _ _).trans (if_pos rfl)
    · exact (setPriceEntry_price _ _ _).trans (if_neg fun e => n e.symm)
  · rw [activatePrice_waits h]
    refine ⟨rfl, ?_, fun _ _ => rfl, ?_, fun _ => rfl⟩
    · rintro _ rfl; exact (Price.at_waits h).symm
    · rintro _ rfl due; exact absurd due h

theorem activatePrices_follow (s : State) : PricesFollow (fun _ => True) s (activatePrices s) := by
  have a := activatePrice_follows .h70 s
  have b := activatePrice_follows .h35 (activatePrice .h70 s)
  have h35 : (activatePrice .h70 s).price .h35 = s.price .h35 := a.others _ (by simp)
  rw [activatePrices]
  generalize activatePrice .h70 s = u at *
  generalize activatePrice .h35 u = v at *
  have price (c : PressureClass) : v.price c = (s.price c).at s.site.calendar := by
    cases c
    · rw [b.others _ (by simp), a.price _ rfl]
    · rw [b.price _ rfl, h35, a.site]
  have idle70 (h : ¬ (s.price .h70).Due s.site.calendar) : u = s := a.quiet (by rintro _ rfl; exact h)
  have idle35 (h : ¬ (s.price .h35).Due s.site.calendar) : v = u := b.quiet (by rintro _ rfl; rwa [h35, a.site])
  refine ⟨by rw [b.rest, a.rest], fun c _ => price c, fun _ n => absurd trivial n, fun c _ due => ?_, fun q => ?_⟩
  · by_cases d35 : (s.price .h35).Due s.site.calendar
    · have e := b.posts _ rfl (by rwa [h35, a.site])
      by_cases d70 : (s.price .h70).Due s.site.calendar
      · rw [e, a.posts _ rfl d70, BitVec.or_assoc, BitVec.or_self]
      · rw [e, idle70 d70]
    · have d70 : (s.price .h70).Due s.site.calendar := by cases c with
        | h70 => exact due
        | h35 => exact absurd due d35
      rw [idle35 d35, a.posts _ rfl d70]
  · rw [idle35 (q _ trivial), idle70 (q _ trivial)]

/-- Settles O25. -/
theorem calendarMovesAndPricesFollow : Obligations.CalendarMovesAndPricesFollow := by
  intro s due follows
  have follow (site : Site) : follows (activatePrices { s with site := site }) site := by
    have h := activatePrices_follow { s with site := site }
    have at_ (c : Fin 2) : ∃ d, priceIndex d = c := by
      obtain ⟨d, -, e⟩ := pressureClassOf_lt c.isLt
      exact ⟨d, e⟩
    refine ⟨h.rest, fun c => ?_, fun ⟨c, d⟩ => ?_, fun none => ?_⟩
    · obtain ⟨d, rfl⟩ := at_ c
      exact ⟨fun v t e le => (h.price d trivial).trans (Price.at_due e le), fun w => (h.price d trivial).trans (Price.at_waits w)⟩
    · obtain ⟨k, rfl⟩ := at_ c
      exact h.posts k trivial d
    · rw [h.quiet fun c _ d => none ⟨priceIndex c, d⟩]
  refine ⟨refuses_of rfl (if_pos rfl), fun v hv => ⟨_, answers_of rfl (if_neg hv), follow _⟩, fun set count => ?_, fun idle => ?_⟩
  · have : s.secondDue = true := by simp [State.secondDue, set, Config.secondTicks, count]
    exact ⟨_, congrArg Host.Outcome.next (if_pos this), follow _⟩
  · have : ¬ s.secondDue = true := by
      simp only [State.secondDue, Bool.and_eq_true, decide_eq_true_eq]
      rintro ⟨a, b⟩
      have ten : 10 ≤ s.site.secondCount := b
      rcases idle with h | h
      · simp [a] at h
      · omega
    exact congrArg Host.Outcome.next (if_neg this)

/-! ### AUTHORIZE -/

theorem presetKindOf_none : ∀ {x : Nat}, 3 ≤ x → presetKindOf x = none
  | _ + 3, _ => rfl
theorem presetKindOf_lt : ∀ {x : Nat}, x < 3 → ∃ k, presetKindOf x = some k ∧ k.code = x
  | 0, _ | 1, _ | 2, _ => ⟨_, rfl, rfl⟩

theorem socField_none {p : Nat} (t : Nat) (h : 2 ≤ p) : socField p t = none := by
  simp [socField, onOff_none (x := p) (by omega)]
theorem socField_le {p : Nat} (t : Nat) (h : p ≤ 1) : socField p t = some (if p = 0 then none else some t) := by
  rw [socField, onOff_of_le h]
  have : p = 0 ∨ p = 1 := by omega
  rcases this with rfl | rfl <;> rfl

theorem clampTo_eq (lo hi x : Nat) (h : lo ≤ hi) : clampTo lo hi x = max lo (min hi x) := by
  unfold clampTo
  split
  · omega
  · split <;> omega

theorem cannotAuthorize_iff (i : FpId) : s.cannotAuthorize i = true ↔ s.site.state ≠ .operating ∨
    s.site.forecourtOpen = false ∨ (s.fp i).fill ≠ .idle ∨ (s.meter i).auth.state ≠ .noAuth ∨
    (s.meter i).creepBlock = true ∨ s.cqr.fault = true := by
  simp only [State.cannotAuthorize, Bool.or_eq_true, bne_iff_ne, Bool.not_eq_true', or_assoc, ne_eq]

theorem mayStart_iff (i : FpId) : s.mayStart i = true ↔ (s.fp i).fill = .idle ∧ s.site.state = .operating ∧
    (s.meter i).auth.state = .pending ∧ s.nozzleCondition i = .connected ∧ s.combined .breakaway i.val = false ∧
    s.combined .meterError i.val = false := by
  simp only [State.mayStart, Bool.and_eq_true, beq_iff_eq, Bool.not_eq_true', and_assoc]

/-- A start takes the fill to LINK_WAIT and the authorization into use. -/
theorem startFill_parts (i : FpId) (s : State) : ((startFill i s).fp i).fill = .linkWait ∧
    ((startFill i s).meter i).auth = { (s.meter i).auth with state := .inUse, timer := none } ∧ (startFill i s).cqr = s.cqr := by
  unfold startFill
  refine ⟨?_, ?_, ?_⟩
  · rw [modLink_fp, setFill_fp]
  · simp [meterStart]
  · simp [meterStart]

/-- The record of an accepted AUTHORIZE, field by field. -/
structure Auth.Formed (a : Auth) (e : FpEntry) (p k v m x : Nat) : Prop where
  state : a.state = .pending
  kind : a.kind.code = k
  value : a.value = if k = 0 then 0 else if k = 1 then min (e.maxMass * 1000) v else min 99999999 v
  soc : a.soc = if m = 0 then none else some (max 500 (min 1000 x))
  price : a.price = p
  timer : a.timer = some e.authTimeout
  clampMass : a.clampMass = true ↔ k = 1 ∧ e.maxMass * 1000 < v
  clampAmount : a.clampAmount = true ↔ k = 2 ∧ 99999999 < v
  clampSoc : a.clampSoc = true ↔ m = 1 ∧ (x < 500 ∨ 1000 < x)

theorem newAuth_formed (e : FpEntry) (price value soc : Nat) (k : PresetKind) {p : Nat} (h : p ≤ 1) :
    (newAuth e price k value (if p = 0 then none else some soc)).Formed e price k.code value p soc := by
  have hp : p = 0 ∨ p = 1 := by omega
  refine ⟨rfl, rfl, ?_, ?_, rfl, rfl, ?_, ?_, ?_⟩
  · cases k <;> simp [newAuth, PresetKind.code]
  · rcases hp with rfl | rfl <;> simp [newAuth, clampTo_eq]
  · cases k <;> simp [newAuth, PresetKind.code]
  · cases k <;> simp [newAuth, PresetKind.code]
  · rcases hp with rfl | rfl <;> simp [newAuth]

/-- An accepted AUTHORIZE takes a slot and forms the record; with auto-start and the nozzle connected a fill may start. -/
theorem installAuth_parts (i : FpId) (a : Auth) (s : State) :
    (installAuth i a s).cqr = { s.cqr with slots := s.cqr.slots + 1 } ∧
    ((s.fp i).entry.autoStart = false ∨ s.nozzleCondition i ≠ .connected →
      installAuth i a s = { s with cqr := { s.cqr with slots := s.cqr.slots + 1 },
                                   mtu := upd s.mtu i { s.meter i with auth := a } }) ∧
    ((s.fp i).entry.autoStart = true → s.nozzleCondition i = .connected → (s.fp i).fill = .idle → s.site.state = .operating →
      a.state = .pending → s.combined .breakaway i.val = false → s.combined .meterError i.val = false →
      ((installAuth i a s).fp i).fill = .linkWait ∧
        ((installAuth i a s).meter i).auth = { a with state := .inUse, timer := none }) := by
  let s1 := modMeter i (fun m => { m with auth := a }) (reserveSlot s)
  have eq : installAuth i a s =
      if (s.fp i).entry.autoStart ∧ s.nozzleCondition i = .connected then tryStart i s1 else s1 := rfl
  refine ⟨?_, fun away => ?_, fun auto conn idle op pend hb hm => ?_⟩
  · have started : (tryStart i s1).cqr = s1.cqr := by
      unfold tryStart
      split
      · exact (startFill_parts i s1).2.2
      · rfl
    rw [eq]
    split
    · exact started
    · rfl
  · rw [eq, if_neg (by rcases away with h | h <;> simp [h])]
    rfl
  · have may : s1.mayStart i = true := (mayStart_iff i).mpr ⟨idle, op, by simpa [s1] using pend, conn, hb, hm⟩
    rw [eq, if_pos ⟨auto, conn⟩, tryStart, if_pos may]
    have k := startFill_parts i s1
    exact ⟨k.1, by rw [k.2.1]; simp [s1]⟩

/-- Settles O26. -/
theorem authorizeChecksThenReserves : Obligations.AuthorizeChecksThenReserves := by
  intro s n kind value presence soc c badField
  refine ⟨fun bad => refuses_of rfl ?_, fun h good => ?_⟩
  · unfold ownAuthorize
    split
    · next hi hk ht =>
      rcases bad with h | h | h | ⟨h, v⟩
      · simp [unitOf_ge h] at hi
      · simp [presetKindOf_none h] at hk
      · simp [socField_none _ h] at ht
      · refine if_pos ⟨fun e => h ?_, v⟩
        have k3 : kind < 3 := by
          by_contra no
          simp [presetKindOf_none (Nat.le_of_not_lt no)] at hk
        obtain ⟨k', ek, vk⟩ := presetKindOf_lt k3
        rw [← vk, Option.some.inj (ek.symm.trans hk), e]
        rfl
    · rfl
  intro i f cannot
  obtain ⟨k, ek, vk⟩ := presetKindOf_lt (x := kind) (by simp only [badField] at good; omega)
  have hp : presence ≤ 1 := by simp only [badField] at good; omega
  have preset : ¬ (k ≠ .noPreset ∧ value = 0) := by
    rintro ⟨hk, hv⟩
    refine good (.inr (.inr (.inr ⟨fun e => hk ?_, hv⟩)))
    cases k <;> simp_all [PresetKind.code]
  have own : ownAuthorize n kind value presence soc s =
      if !(s.fp i).loaded then refuse s .notConfigured
      else if s.cannotAuthorize i then refuse s .badState
      else if Config.slots ≤ s.cqr.slots then refuse s .noSlot
      else let a := newAuth f.entry (s.price f.entry.pressureClass).active k value (if presence = 0 then none else some soc)
        (installAuth i a s, .accepted (authorizeReply a)) := by
    simp only [ownAuthorize, unitOf_lt h, ek, socField_le soc hp, if_neg preset]
    rfl
  refine ⟨fun l => refuses_of rfl ?_, fun l no => refuses_of rfl ?_, fun l may full => refuses_of rfl ?_, fun l may room => ?_⟩
  · rw [own, if_pos (by simpa using l)]
  · rw [own, if_neg (by simpa using l), if_pos ((cannotAuthorize_iff i).mpr no)]
  · rw [own, if_neg (by simpa using l), if_neg (mt (cannotAuthorize_iff i).mp may)]
    exact if_pos full
  · have formed := newAuth_formed f.entry (s.price f.entry.pressureClass).active value soc k hp
    rw [vk] at formed
    generalize ea : newAuth f.entry (s.price f.entry.pressureClass).active k value
      (if presence = 0 then none else some soc) = a at formed
    have taken : ownAuthorize n kind value presence soc s = (installAuth i a s, .accepted (authorizeReply a)) := by
      rw [own, if_neg (by simpa using l), if_neg (mt (cannotAuthorize_iff i).mp may), ← ea]
      exact if_neg (Nat.not_le.mpr room)
    obtain ⟨cqr, still, starts⟩ := installAuth_parts i a s
    refine ⟨a, installAuth i a s, answers_of rfl taken, formed.state, formed.kind, formed.value, formed.soc, formed.price,
      formed.timer, formed.clampMass, formed.clampAmount, formed.clampSoc, cqr, fun away => ?_, fun auto conn hb hm => ?_⟩
    · rw [cqr]; exact still away
    · simp only [cannot, not_or, not_not] at may
      exact starts auto conn may.2.2.1 may.1 formed.state hb hm

/-! ### CANCEL_AUTH, CLEAR_CREEP -/

theorem cancelAuthorization_pending {i : FpId} (h : (s.meter i).auth.state = .pending) : cancelAuthorization i s =
    { s with mtu := upd s.mtu i { s.meter i with auth := Auth.empty }, cqr := { s.cqr with slots := s.cqr.slots - 1 } } :=
  if_pos h

theorem due_iff (t : Timer) : due t = true ↔ t = some 0 := by simp [due]

/-- Settles O27. -/
theorem authorizationIsCancelledOrExpires : Obligations.AuthorizationIsCancelledOrExpires := by
  intro s n gone
  refine ⟨fun hn => refuses_of rfl ?_, fun h => ⟨fun p => answers_of rfl ?_, fun p => refuses_of rfl ?_⟩,
    fun i => ⟨fun p t => ?_, fun idle => congrArg Host.Outcome.next (if_neg ?_)⟩⟩
  · simp only [ownCancelAuth, unitOf_ge hn]
  · simp only [ownCancelAuth, unitOf_lt h, if_pos p, cancelAuthorization_pending p]
    rfl
  · simp only [ownCancelAuth, unitOf_lt h, if_neg p]
  · refine (congrArg Host.Outcome.next (if_pos ⟨(due_iff _).mpr t, p⟩)).trans ?_
    rw [cancelAuthorization_pending p]
    rfl
  · rintro ⟨t, p⟩
    exact idle.elim (· p) (· ((due_iff _).mp t))

/-- Settles O28. -/
theorem clearCreepReportsAndClears : Obligations.ClearCreepReportsAndClears := by
  intro s n
  refine ⟨fun hn => refuses_of rfl ?_, fun h => answers_of rfl ?_⟩
  · simp only [ownClearCreep, unitOf_ge hn]
  · simp only [ownClearCreep, unitOf_lt h]
    rfl

end Sys2Proof.Machine
end

section
/-!
PROOFS. The site controller's commands (R186 to R196): the forecourt, MAINTENANCE, COMMISSION, the transitions, SHUTDOWN, and the
two resets.
-/
namespace Sys2Proof.Machine

variable {s : State}

/-! ### OPEN, CLOSE, ENTER_MAINT -/

/-- A site record that keeps its cause posts SITE where the state or the forecourt moves. -/
theorem setSite_keep (st : SiteState) (op : Bool) (s : State) : setSite st op s.site.cause s =
    { s with site := { s.site with state := st, forecourtOpen := op }
             sli := { s.sli with summary :=
               if st ≠ s.site.state ∨ op ≠ s.site.forecourtOpen then s.sli.summary ||| BitVec.twoPow 15 10
               else s.sli.summary } } := by
  have moves : (s.site.state != st || s.site.forecourtOpen != op || s.site.cause != s.site.cause) = true ↔
      st ≠ s.site.state ∨ op ≠ s.site.forecourtOpen := by
    simp only [bne_self_eq_false, Bool.or_false, Bool.or_eq_true, bne_iff_ne]
    exact or_congr ne_comm ne_comm
  unfold setSite postIf
  by_cases h : st ≠ s.site.state ∨ op ≠ s.site.forecourtOpen
  · rw [if_pos (moves.mpr h), if_pos h]; rfl
  · rw [if_neg (mt moves.mp h), if_neg h]; rfl

theorem fill_none_iff (f : FillState) : f.none = true ↔ f = .idle ∨ f = .complete ∨ f = .fault := by
  cases f <;> simp [FillState.none]

theorem all_fps (p : FpId → Bool) : allFps.all p = true ↔ ∀ i, p i = true := by
  simp [allFps, Fin.forall_fin_succ]

theorem all_comps (p : CompId → Bool) : allComps.all p = true ↔ ∀ k, p k = true := by
  simp [allComps, Fin.forall_fin_succ]

theorem all_banks (p : BankId → Bool) : allBanks.all p = true ↔ ∀ b, p b = true := by
  simp [allBanks, Fin.forall_fin_succ]

theorem quiet_iff : s.quiet = true ↔ ∀ i : FpId, (s.meter i).auth.state ≠ .pending ∧
    ((s.fp i).fill = .idle ∨ (s.fp i).fill = .complete ∨ (s.fp i).fill = .fault) := by
  simp only [State.quiet, all_fps, Bool.and_eq_true, fill_none_iff, bne_iff_ne, and_comm]

theorem compressorsAtRest_iff : s.compressorsAtRest = true ↔
    ∀ k : CompId, (s.comp k).state = .off ∨ (s.comp k).state = .disabled ∨ (s.comp k).state = .tripped := by
  simp only [State.compressorsAtRest, all_comps]
  refine forall_congr' fun k => ?_
  cases (s.comp k).state <;> simp

theorem compressorsStopped_iff : s.compressorsStopped = true ↔ ∀ k : CompId, (s.comp k).state ≠ .starting ∧
    (s.comp k).state ≠ .recirc ∧ (s.comp k).state ≠ .filling ∧ (s.comp k).state ≠ .stopping := by
  simp only [State.compressorsStopped, all_comps]
  refine forall_congr' fun k => ?_
  cases (s.comp k).state <;> simp [CompState.running]

/-- Settles O29. -/
theorem forecourtAndMaintenance : Obligations.ForecourtAndMaintenance := by
  intro s moved atRest
  have rest : (s.quiet = true ∧ s.compressorsAtRest = true) ↔ atRest := and_congr quiet_iff compressorsAtRest_iff
  have forecourt (op : Bool) (h : s.site.state = .operating) :
      ownForecourt op s = (moved .operating op, .accepted (siteRecordBytes (moved .operating op))) := by
    rw [ownForecourt, if_pos h, setSite_keep]; rfl
  refine ⟨fun h => ⟨answers_of rfl (forecourt true h), answers_of rfl (forecourt false h)⟩, fun h q => answers_of rfl ?_,
    fun h => ⟨refuses_of rfl (if_neg h), refuses_of rfl (if_neg h)⟩, fun h => refuses_of rfl (if_neg ?_)⟩
  · rw [ownEnterMaint, if_pos ⟨h, rest.mpr q⟩, setSite_keep]; rfl
  · rintro ⟨op, q⟩
    exact h.elim (· op) (· (rest.mp q))

/-! ### COMMISSION, the entries into the site states -/

/-- The landing of a commissioned site (R188). -/
theorem landing_commissioned (h : s.site.commissioned = true) : s.landing =
    if s.inputAsserted .powerFail = true then (.powerdown, s.site.cause)
    else if s.combined .esd = true then (.shutdown, .esd)
    else if s.combined .gasAlarm = true then (.shutdown, .gasAlarm)
    else if s.combined .fireAlarm = true then (.shutdown, .fireAlarm)
    else (.operating, .noCause) := by
  unfold State.landing State.alarm
  rw [h]
  by_cases p : s.inputAsserted .powerFail = true
  · simp [p]
  · by_cases e : s.combined .esd = true <;> by_cases g : s.combined .gasAlarm = true <;>
      by_cases f : s.combined .fireAlarm = true <;> simp [p, e, g, f]

/-- What an entry into a site state leaves: the site record as it is set, the tables and the prices, and the line modes as the
exit from the old state leaves them. -/
structure EntersSite (s u : State) (site : Site) : Prop where
  site : u.site = site
  tables : u.tables = s.tables
  prices : u.prices = s.prices
  modes : u.lineModes = (closeForced s).lineModes

theorem entersSite {w : Bool} {st : SiteState} {c : ShutCause} {u : State} (h : Runs w (setSite st false c (closeForced s)) u) :
    EntersSite s u { s.site with state := st, forecourtOpen := false, cause := c } := by
  have set : (setSite st false c (closeForced s)).tables = s.tables ∧
      (setSite st false c (closeForced s)).prices = s.prices := by
    obtain ⟨n, e⟩ := setSite_parts st false c (closeForced s)
    rw [e]
    unfold closeForced
    split <;> exact ⟨rfl, rfl⟩
  refine ⟨?_, ?_, ?_, ?_⟩
  · rw [h.site, setSite_site, closeForced_site]
  · rw [← set.1, tables_eq, tables_eq, h.fixed]
  · rw [← set.2]; exact congrArg Fixed.prices h.fixed
  · rw [h.lineModes, setSite_lineModes]

/-! ### COMMISSION -/

theorem tableOk_iff : (s.tableComplete && s.tableOrdered) = true ↔
    (∀ j, (sel s.density j).loaded = true) ∧ ∀ j < 16, ∀ i < 19, s.entryAt (j + 1) i ≤ s.entryAt j i := by
  simp only [Bool.and_eq_true]
  refine and_congr ?_ ?_
  · simp [State.tableComplete, sel, Fin.forall_iff]
  · simp [State.tableOrdered]

theorem bound_iff (bd : Binding) : s.bound bd = true ↔ ∃ i : ChanId, (s.chan i).binding = bd := by
  rw [State.bound, List.any_eq_true]
  simp only [Vector.mem_toList_iff, Vector.mem_iff_getElem, beq_iff_eq, State.chan, sel, Fin.exists_iff]
  grind

/-- The checks 3 to 7 of R189. -/
def State.entriesLoaded (s : State) : Bool :=
  s.ramp.toList.all (·.loaded) && s.pcm.loaded && allFps.any (fun i => (s.fp i).loaded) &&
  allFps.all (fun i => !(s.fp i).loaded || (s.fp i).entry.cascade.all (fun b => (s.bank b).entry.valid)) && s.channelsBound

theorem commissionFault_eq : s.commissionFault =
    if !s.site.paramsLoaded then some .notConfigured
    else if !(s.tableComplete && s.tableOrdered) then some .tableOrder
    else if !s.entriesLoaded then some .notConfigured
    else if !s.mapped then some .unmapped
    else none := by
  unfold State.commissionFault State.entriesLoaded
  generalize s.site.paramsLoaded = a, (s.tableComplete && s.tableOrdered) = b, s.ramp.toList.all (·.loaded) = c,
    s.pcm.loaded = d, allFps.any (fun i => (s.fp i).loaded) = e, allFps.all _ = f, s.channelsBound = g
  cases c <;> cases d <;> cases e <;> cases f <;> cases g <;> rfl

theorem channelsBound_iff : s.channelsBound = true ↔
    (∀ i : FpId, (s.fp i).loaded = true →
      (∃ c : ChanId, (s.chan c).binding = .nozzleP i) ∧ ∃ c : ChanId, (s.chan c).binding = .gasT i) ∧
    (∀ b : BankId, (s.bank b).entry.valid = true →
      (∃ c : ChanId, (s.chan c).binding = .bankP b) ∧ ∃ c : ChanId, (s.chan c).binding = .bankT b) ∧
    (∃ c : ChanId, (s.chan c).binding = .coldStoreT) ∧ (∃ c : ChanId, (s.chan c).binding = .ambientT) ∧
    ∀ k : CompId, (s.comp k).loaded = true →
      (∃ c : ChanId, (s.chan c).binding = .dischargeT k) ∧ ∃ c : ChanId, (s.chan c).binding = .supplyP := by
  have needs (a b : Bool) : (!a || b) = true ↔ (a = true → b = true) := by cases a <;> simp
  simp only [State.channelsBound, Bool.and_eq_true, all_fps, all_banks, all_comps, needs, bound_iff, and_assoc]

theorem entriesLoaded_iff : s.entriesLoaded = true ↔ (∀ r, (sel s.ramp r).loaded = true) ∧ s.pcm.loaded = true ∧
    (∃ i : FpId, (s.fp i).loaded = true) ∧
    (∀ i : FpId, (s.fp i).loaded = true → ∀ b ∈ (s.fp i).entry.cascade, (s.bank b).entry.valid = true) ∧
    s.channelsBound = true := by
  have needs (a b : Bool) : (!a || b) = true ↔ (a = true → b = true) := by cases a <;> simp
  have ramp : s.ramp.toList.all (·.loaded) = true ↔ ∀ r, (sel s.ramp r).loaded = true := by
    simp [sel, Fin.forall_iff]
  have any : allFps.any (fun i => (s.fp i).loaded) = true ↔ ∃ i : FpId, (s.fp i).loaded = true := by
    simp [allFps, Fin.exists_fin_succ]
  simp only [State.entriesLoaded, Bool.and_eq_true, all_fps, needs, ramp, any, and_assoc]
  simp only [List.all_eq_true]

theorem ownCommission_fault {r : RefusalCode} (h : s.site.state = .unconfigured) (f : s.commissionFault = some r) :
    ownCommission s = refuse s r := by
  rw [ownCommission, if_neg (not_not.mpr h), f]

/-- Settles O30. -/
theorem commissionChecksInOrder : Obligations.CommissionChecksInOrder := by
  intro s table bound channels entries roles landing
  have hTable : (s.tableComplete && s.tableOrdered) = true ↔ table := tableOk_iff
  have hEntries : s.entriesLoaded = true ↔ entries := by
    rw [entriesLoaded_iff, channelsBound_iff]
  have hRoles : s.mapped = true ↔ roles := mapped_iff s.roleMap
  refine ⟨fun h => refuses_of rfl (if_pos h), fun h => ⟨fun p => ?_, fun p t => ?_, fun p t e => ?_, fun p t e r => ?_,
    fun p t e r => ?_⟩⟩
  · refine refuses_of rfl (ownCommission_fault h ?_)
    rw [commissionFault_eq, p]; rfl
  · refine refuses_of rfl (ownCommission_fault h ?_)
    rw [commissionFault_eq, p, Bool.eq_false_of_not_eq_true (mt hTable.mp t)]; rfl
  · refine refuses_of rfl (ownCommission_fault h ?_)
    rw [commissionFault_eq, p, hTable.mpr t, Bool.eq_false_of_not_eq_true (mt hEntries.mp e)]; rfl
  · refine refuses_of rfl (ownCommission_fault h ?_)
    rw [commissionFault_eq, p, hTable.mpr t, hEntries.mpr e, Bool.eq_false_of_not_eq_true (mt hRoles.mp r)]; rfl
  · have pass : s.commissionFault = none := by
      rw [commissionFault_eq, p, hTable.mpr t, hEntries.mpr e, hRoles.mpr r]; rfl
    let s1 := modSite (fun r => { r with commissioned := true }) s
    have own : ownCommission s = siteAccept (settle (land s1)) := by
      rw [ownCommission, if_neg (not_not.mpr h), pass]
    have lands : s1.landing = landing := landing_commissioned rfl
    have enters := entersSite (land_enters (w := false) s1).settle
    rw [lands] at enters
    exact ⟨_, answers_of rfl own, enters.tables, enters.prices, enters.site⟩

/-! ### DECOMMISSION, LEAVE_MAINT, RESUME -/

theorem closeForced_maintenance (h : s.site.state = .maintenance) (o : Fin 64) :
    sel (closeForced s).lineModes o = if sel s.lineModes o = .forceOpen then .auto else sel s.lineModes o := by
  simp only [closeForced, if_pos h, sel, Vector.getElem_map]
  exact if_congr Iff.rfl rfl rfl

theorem closeForced_other (h : s.site.state ≠ .maintenance) : closeForced s = s := if_neg h

theorem no_alert_iff : s.alarm = none ↔
    ¬ (s.combined .esd = true ∨ s.combined .gasAlarm = true ∨ s.combined .fireAlarm = true) := by
  unfold State.alarm
  cases s.combined .esd <;> cases s.combined .gasAlarm <;> cases s.combined .fireAlarm <;> simp

/-- Settles O31. -/
theorem siteTransitions : Obligations.SiteTransitions := by
  intro s quiet goes alarm first operating
  have hQuiet : (s.quiet = true ∧ s.compressorsStopped = true) ↔ quiet := and_congr quiet_iff compressorsStopped_iff
  have going {c : Instr} {own : State → State × Answer} {st : SiteState} {k : ShutCause} {u s1 : State}
      (e : exec c s = request c own s) (h : own s = siteAccept (settle u)) (m : s1.lineModes = s.lineModes)
      (ss : s1.site.state = s.site.state) (tb : s1.tables = s.tables) (pr : s1.prices = s.prices)
      (run : Runs false (setSite st false k (closeForced s1)) u) :
      goes c { s1.site with state := st, forecourtOpen := false, cause := k } := by
    have en := entersSite run.settle
    refine ⟨settle u, answers_of e h, en.site, en.tables.trans tb, en.prices.trans pr, fun hm o => ?_, fun hm => ?_⟩
    · rw [en.modes, closeForced_maintenance (ss.trans hm), m]
    · rw [en.modes, closeForced_other (ss ▸ hm), m]
  refine ⟨fun h q => ?_, fun h => refuses_of rfl (if_neg ?_), fun h => ?_, fun h => refuses_of rfl (if_neg h), fun h a => ?_,
    fun h a => refuses_of rfl ?_, fun h p => refuses_of rfl ?_, fun h p c a => ?_, fun h p c a => ?_, fun h1 h2 => refuses_of rfl ?_⟩
  · exact going (s1 := modSite (fun r => { r with commissioned := false }) s) rfl (if_pos ⟨h, hQuiet.mpr q⟩) rfl rfl rfl rfl
      (enterUnconfigured_runs _)
  · rintro ⟨op, q⟩
    exact h.elim (· op) (· (hQuiet.mp q))
  · exact going rfl (if_pos h) rfl rfl rfl rfl (enterOperating_runs s)
  · refine going (s1 := s) rfl ?_ rfl rfl rfl rfl (enterOperating_runs s)
    simp only [ownResume, h, no_alert_iff.mpr a]
    rfl
  · have : s.alarm ≠ none := mt no_alert_iff.mp (not_not.mpr a)
    simp [ownResume, h, this]
  · simp [ownResume, h, p]
  · have lands : s.landing = (.operating, .noCause) := by
      rw [landing_commissioned c, if_neg (by simp [p])]
      simp only [alarm, not_or] at a
      simp [a]
    have run := land_enters (w := false) s
    rw [lands] at run
    refine going (s1 := s) (u := land s) rfl ?_ rfl rfl rfl rfl run
    simp [ownResume, h, p]
  · have lands : s.landing = (.shutdown, first) := by
      rw [landing_commissioned c, if_neg (by simp [p])]
      simp only [first]
      split
      · rfl
      · split
        · rfl
        · next ne ng => exact if_pos ((a.resolve_left ne).resolve_left ng)
    have run := land_enters (w := false) s
    rw [lands] at run
    refine going (s1 := s) (u := land s) rfl ?_ rfl rfl rfl rfl run
    simp [ownResume, h, p]
  · cases e : s.site.state <;> simp_all [ownResume]

end Sys2Proof.Machine
end

section
/-!
PROOFS. What stays within one fuelling point, and within one compressor; the halts of the site (R55, R73, R84, R93, R116, R160, R192) and
the restart of the blocks (R195).
-/
namespace Sys2Proof.Machine

variable {i j : FpId} {k : CompId} {s t u v : State}

/-! ### Events taken in any order -/

/-- Where each of several events is taken once, in an order left free, and `Q` says what holds while the events of a list are
still to come, `Q` holds of none to come at the end. -/
theorem takeAll_each {ι : Type} {f : ι → State → State} {Q : List ι → State → Prop}
    (order : ∀ l u n, Q l u → Q l { u with orderCount := n })
    (step : ∀ a l l' u, l.Perm (a :: l') → Q l u → Q l' (f a u)) :
    ∀ n l u, l.length ≤ n → Q l u → Q [] (takeAll n (l.map f) u) := by
  intro n
  induction n with
  | zero =>
    intro l u hl hq
    obtain rfl : l = [] := List.length_eq_zero_iff.mp (Nat.le_zero.mp hl)
    exact hq
  | succ n ih =>
    intro l u hl hq
    match l with
    | [] => exact hq
    | [a] => exact step a _ [] _ (List.Perm.refl _) hq
    | a :: b :: rest =>
      let m := Config.order u.orderCount % (a :: b :: rest).length
      have hm : m < (a :: b :: rest).length := Nat.mod_lt _ (by simp)
      have taken : takeAll (n + 1) ((a :: b :: rest).map f) u =
          takeAll n (((a :: b :: rest).eraseIdx m).map f)
            (f ((a :: b :: rest)[m]) { u with orderCount := u.orderCount + 1 }) := by
        have el : (((a :: b :: rest).map f)[m]?.getD id) = f ((a :: b :: rest)[m]) := by
          rw [List.getElem?_map, List.getElem?_eq_getElem hm]; rfl
        rw [← List.eraseIdx_map, ← el]
        simp only [m, ← List.length_map (f := f) (as := a :: b :: rest)]
        rfl
      rw [taken]
      refine ih _ _ ?_ (step _ _ _ _ (List.getElem_cons_eraseIdx_perm hm).symm (order _ _ _ hq))
      rw [List.length_eraseIdx_of_lt hm]
      omega

/-- The same of an event's notices. -/
theorem inAnyOrder_each {ι : Type} {f : ι → State → State} {Q : List ι → State → Prop} {l : List ι}
    (order : ∀ l u n, Q l u → Q l { u with orderCount := n })
    (step : ∀ a l l' u, l.Perm (a :: l') → Q l u → Q l' (f a u)) (h : Q l u) : Q [] (inAnyOrder (l.map f) u) :=
  takeAll_each order step _ l u (by simp) h

/-! ### What stays within one fuelling point -/

/-- From `u` to `v` only fuelling point `i` moved: its sequencer, meter and receiver, the completion queue and the posted flags. -/
structure Local (i : FpId) (u v : State) : Prop where
  rest : v = { u with fps := v.fps, vlr := v.vlr, mtu := v.mtu, cqr := v.cqr, orderCount := v.orderCount,
                      sli := { u.sli with summary := v.sli.summary } }
  fp : ∀ j, j ≠ i → v.fp j = u.fp j
  link : ∀ j, j ≠ i → v.link j = u.link j
  meter : ∀ j, j ≠ i → v.meter j = u.meter j

theorem Local.refl (u : State) : Local i u u := ⟨rfl, fun _ _ => rfl, fun _ _ => rfl, fun _ _ => rfl⟩

theorem Local.trans (h : Local i s u) (k : Local i u v) : Local i s v :=
  ⟨by rw [k.rest, h.rest], fun j n => (k.fp j n).trans (h.fp j n), fun j n => (k.link j n).trans (h.link j n),
    fun j n => (k.meter j n).trans (h.meter j n)⟩

theorem Local.site (h : Local i u v) : v.site = u.site := by rw [h.rest]
theorem Local.lines (h : Local i u v) : v.lines = u.lines := by rw [h.rest]
theorem Local.banks (h : Local i u v) : v.banks = u.banks := by rw [h.rest]
theorem Local.pcm (h : Local i u v) : v.pcm = u.pcm := by rw [h.rest]
theorem Local.cs (h : Local i u v) : v.cs = u.cs := by rw [h.rest]
theorem Local.holder (h : Local i u v) : v.holder = u.holder := by rw [h.rest]
theorem Local.stacked (h : Local i u v) : v.stacked = u.stacked := by rw [h.rest]
theorem Local.csInbox (h : Local i u v) : v.csInbox = u.csInbox := by rw [h.rest]
theorem Local.refill (h : Local i u v) : v.refill = u.refill := by rw [h.rest]

@[simp] theorem Local.modFp {f} (h : Local i s u) : Local i s (modFp i f u) :=
  h.trans ⟨rfl, fun _ n => modFp_fp_ne _ _ _ _ n.symm, fun _ _ => rfl, fun _ _ => rfl⟩
@[simp] theorem Local.modMeter {f} (h : Local i s u) : Local i s (modMeter i f u) :=
  h.trans ⟨rfl, fun _ _ => rfl, fun _ _ => rfl, fun _ n => modMeter_meter_ne _ _ _ _ n.symm⟩
@[simp] theorem Local.modTxn {f} (h : Local i s u) : Local i s (modTxn i f u) := h.modMeter
@[simp] theorem Local.modLink {f} (h : Local i s u) : Local i s (modLink i f u) :=
  h.trans ⟨rfl, fun _ _ => rfl, fun _ n => modLink_link_ne _ _ _ _ n.symm, fun _ _ => rfl⟩
@[simp] theorem Local.modCqr {f} (h : Local i s u) : Local i s (modCqr f u) :=
  h.trans ⟨rfl, fun _ _ => rfl, fun _ _ => rfl, fun _ _ => rfl⟩
@[simp] theorem Local.post {n} (h : Local i s u) : Local i s (post n u) :=
  h.trans ⟨rfl, fun _ _ => rfl, fun _ _ => rfl, fun _ _ => rfl⟩
@[simp] theorem Local.postIf {b n} (h : Local i s u) : Local i s (postIf b n u) := by
  unfold Machine.postIf; split
  · exact h.post
  · exact h
@[simp] theorem Local.ite {c : Prop} [Decidable c] (h : Local i s u) (k : Local i s v) : Local i s (if c then u else v) := by
  split <;> assumption
@[simp] theorem Local.setFill {st} (h : Local i s u) : Local i s (setFill i st u) := by unfold Machine.setFill; exact h.modFp.postIf
@[simp] theorem Local.closeDraw (h : Local i s u) : Local i s (closeDraw i u) := h.modTxn
@[simp] theorem Local.openDraw {b} (h : Local i s u) : Local i s (openDraw i b u) := h.modTxn
@[simp] theorem Local.setFlags {f} (h : Local i s u) : Local i s (setFlags i f u) := h.modTxn
@[simp] theorem Local.endLink (h : Local i s u) : Local i s (endLink i u) := h.modLink
@[simp] theorem Local.takeReason {r} (h : Local i s u) : Local i s (takeReason i r u) := by
  unfold Machine.takeReason; exact .ite h.modFp.modTxn h.modFp
@[simp] theorem Local.loadRecord {r} (h : Local i s u) : Local i s (loadRecord r u) := h.modCqr.modCqr.post
@[simp] theorem Local.handOver {r b} (h : Local i s u) : Local i s (handOver i r b u) := by
  unfold Machine.handOver
  dsimp only
  split
  · exact h.modMeter.closeDraw
  · exact h.modMeter.closeDraw.modMeter.loadRecord.modMeter
@[simp] theorem Local.finish (h : Local i s u) : Local i s (finish i u) := by
  unfold Machine.finish
  split
  · exact .ite (.ite h.setFill.setFill h.setFill) h.setFill
  · exact h.setFill
@[simp] theorem Local.cancelAuthorization (h : Local i s u) : Local i s (cancelAuthorization i u) := by
  unfold Machine.cancelAuthorization; exact .ite h.modMeter.modCqr h
@[simp] theorem Local.setSub {x} (h : Local i s u) : Local i s (setSub i x u) := h.modFp.postIf
@[simp] theorem Local.rederive (h : Local i s u) : Local i s (rederive i u) := h.setSub
@[simp] theorem Local.rebase (h : Local i s u) : Local i s (rebase i u) := h.modFp

/-! ### What stays within one compressor -/

/-- From `u` to `v` only compressor `k` moved, the notices that wait and the posted flags. -/
structure CompLocal (k : CompId) (u v : State) : Prop where
  rest : v = { u with cs := v.cs, csInbox := v.csInbox, sli := { u.sli with summary := v.sli.summary } }
  comp : ∀ j, j ≠ k → v.comp j = u.comp j

theorem CompLocal.refl (u : State) : CompLocal k u u := ⟨rfl, fun _ _ => rfl⟩
theorem CompLocal.trans (h : CompLocal k s u) (m : CompLocal k u v) : CompLocal k s v :=
  ⟨by rw [m.rest, h.rest], fun j n => (m.comp j n).trans (h.comp j n)⟩

theorem CompLocal.site (h : CompLocal k u v) : v.site = u.site := by rw [h.rest]
theorem CompLocal.refill (h : CompLocal k u v) : v.refill = u.refill := by rw [h.rest]
theorem CompLocal.pcm (h : CompLocal k u v) : v.pcm = u.pcm := by rw [h.rest]
theorem CompLocal.banks (h : CompLocal k u v) : v.banks = u.banks := by rw [h.rest]
theorem CompLocal.holder (h : CompLocal k u v) : v.holder = u.holder := by rw [h.rest]
theorem CompLocal.stacked (h : CompLocal k u v) : v.stacked = u.stacked := by rw [h.rest]

@[simp] theorem CompLocal.ite {c : Prop} [Decidable c] (h : CompLocal k s u) (m : CompLocal k s v) :
    CompLocal k s (if c then u else v) := by split <;> assumption
@[simp] theorem CompLocal.modComp {f} (h : CompLocal k s u) : CompLocal k s (modComp k f u) :=
  h.trans ⟨rfl, fun _ n => modComp_comp_ne _ _ _ _ n.symm⟩
@[simp] theorem CompLocal.setCompState {st} (h : CompLocal k s u) : CompLocal k s (setCompState k st u) := by
  unfold Machine.setCompState Machine.postIf
  have m := h.modComp (f := fun c => { c with state := st })
  exact .ite (m.trans ⟨rfl, fun _ _ => rfl⟩) m
@[simp] theorem CompLocal.setTarget {b} (h : CompLocal k s u) : CompLocal k s (setTarget k b u) := by
  unfold Machine.setTarget
  exact .ite h (h.modComp.trans ⟨rfl, fun _ _ => rfl⟩)
@[simp] theorem CompLocal.enterStarting {b} (h : CompLocal k s u) : CompLocal k s (enterStarting k b u) :=
  h.modComp.setCompState.setTarget
@[simp] theorem CompLocal.evalNeed (h : CompLocal k s u) : CompLocal k s (evalNeed k u) := by
  unfold Machine.evalNeed
  split
  · exact .ite h.enterStarting h.setCompState
  · exact .ite h.enterStarting h
  · exact h.setCompState
  · exact h
@[simp] theorem CompLocal.evalPermission (h : CompLocal k s u) : CompLocal k s (evalPermission k u) := by
  unfold Machine.evalPermission
  split
  · exact h.evalNeed
  all_goals exact h
@[simp] theorem CompLocal.enterOff (h : CompLocal k s u) : CompLocal k s (enterOff k u) :=
  h.modComp.setCompState.setTarget.evalNeed
@[simp] theorem CompLocal.enterDisabled (h : CompLocal k s u) : CompLocal k s (enterDisabled k u) :=
  h.modComp.setCompState.setTarget
@[simp] theorem CompLocal.deferredToOff (h : CompLocal k s u) : CompLocal k s (deferredToOff k u) := h.setCompState.evalNeed
@[simp] theorem CompLocal.csShutdown (h : CompLocal k s u) : CompLocal k s (csShutdown k u) := by
  unfold Machine.csShutdown
  split
  · exact h.enterOff
  · exact h.enterOff
  · exact h.enterOff
  · exact h.enterOff
  · exact h.deferredToOff
  all_goals exact h
@[simp] theorem CompLocal.csSoftReset (h : CompLocal k s u) : CompLocal k s (csSoftReset k u) := by
  unfold Machine.csSoftReset
  dsimp only
  split
  · exact h.modComp
  · exact h.modComp
  all_goals exact h.modComp.enterOff

/-! ### BKA, PCM and MTU halted -/

/-- BKA is empty, nobody waits for cold, the chiller does not run, no authorization is PENDING, and the site closes every valve
(R17, R55, R84, R93, R160). -/
structure Stopped (u : State) : Prop where
  closed : u.site.state.closesAll = true
  banks : ∀ b, u.holderOf b = none ∧ u.stackedAt b = []
  waits : u.pcm.waitList = []
  chiller : u.pcm.chiller ≠ .running
  sales : ∀ i, (u.meter i).auth.state ≠ .pending

/-- An authorization that is PENDING after a cancellation was PENDING before, of another fuelling point; every other part of its
meter stands. -/
theorem cancelAuthorization_pending_of (h : ((cancelAuthorization j u).meter i).auth.state = .pending) :
    i ≠ j ∧ (u.meter i).auth.state = .pending := by
  unfold cancelAuthorization at h
  split at h
  · by_cases e : i = j
    · subst e; simp [releaseSlot, Auth.empty] at h
    · exact ⟨e, by simpa [releaseSlot, modMeter_meter, Ne.symm e] using h⟩
  · next n => exact ⟨fun e => n (e ▸ h), h⟩

/-- The parts of a meter that a cancellation leaves. -/
theorem cancelAuthorization_txn (j : FpId) (u : State) (i : FpId) :
    ((cancelAuthorization j u).meter i).txn = (u.meter i).txn ∧ ((cancelAuthorization j u).meter i).window = (u.meter i).window := by
  unfold cancelAuthorization
  split
  · simp only [releaseSlot, modCqr_meter, modMeter_meter]; split <;> simp_all
  · exact ⟨rfl, rfl⟩

/-- The authorizations of `l` cancelled, one after another. -/
structure Cancelled (l : List FpId) (u v : State) : Prop where
  rest : v = { u with mtu := v.mtu, cqr := v.cqr }
  sales : ∀ i, (v.meter i).auth.state = .pending → i ∉ l ∧ (u.meter i).auth.state = .pending
  txn : ∀ i, (v.meter i).txn = (u.meter i).txn ∧ (v.meter i).window = (u.meter i).window

theorem cancelAll_cancels (l : List FpId) (u : State) : Cancelled l u (l.foldl (fun s i => cancelAuthorization i s) u) := by
  induction l generalizing u with
  | nil => exact ⟨rfl, fun _ p => ⟨by simp, p⟩, fun _ => ⟨rfl, rfl⟩⟩
  | cons i l ih =>
    have h := ih (cancelAuthorization i u)
    have one : cancelAuthorization i u = { u with mtu := (cancelAuthorization i u).mtu, cqr := (cancelAuthorization i u).cqr } := by
      unfold cancelAuthorization; split <;> rfl
    refine ⟨?_, fun j p => ?_, fun j => ⟨(h.txn j).1.trans (cancelAuthorization_txn i u j).1,
      (h.txn j).2.trans (cancelAuthorization_txn i u j).2⟩⟩
    · rw [List.foldl_cons, h.rest, one]
    · obtain ⟨out, p⟩ := h.sales j p
      obtain ⟨ne, p⟩ := cancelAuthorization_pending_of p
      exact ⟨by simp [ne, out], p⟩

theorem mem_allFps (i : FpId) : i ∈ allFps := by fin_cases i <;> decide

/-- The three blocks that take a halt first. -/
theorem haltBlocks_stops (h : s.site.state.closesAll = true) : Stopped (haltBlocks s) ∧ (haltBlocks s).fps = s.fps ∧
    (haltBlocks s).cs = s.cs ∧ (haltBlocks s).site = s.site ∧ (haltBlocks s).vlr = s.vlr := by
  have c := cancelAll_cancels allFps (chillerHeldIdle (emptyWaitList (emptyArbiter s)))
  have idle : (chillerHeldIdle (emptyWaitList (emptyArbiter s))).pcm.chiller ≠ .running := by
    unfold chillerHeldIdle
    split
    · simp [setChiller, modPcm_pcm]
    all_goals simp_all
  have rest : ∃ n p, chillerHeldIdle (emptyWaitList (emptyArbiter s)) =
      { emptyArbiter s with pcm := p, sli := { s.sli with summary := n } } ∧ p.waitList = [] := by
    unfold chillerHeldIdle
    split
    · unfold setChiller postIf; split <;> exact ⟨_, _, rfl, rfl⟩
    all_goals exact ⟨s.sli.summary, _, rfl, rfl⟩
  obtain ⟨n, p, e, w⟩ := rest
  rw [haltBlocks]
  generalize chillerHeldIdle (emptyWaitList (emptyArbiter s)) = x at *
  generalize allFps.foldl (fun s i => cancelAuthorization i s) x = y at *
  have r := c.rest
  subst e
  refine ⟨⟨?_, fun b => ?_, ?_, ?_, fun i p => (c.sales i p).1 (mem_allFps i)⟩, ?_, ?_, ?_, ?_⟩
  · rw [r]; exact h
  · rw [r]; simp [State.holderOf, State.stackedAt, emptyArbiter]
  · rw [r]; exact w
  · rw [r]; exact idle
  all_goals rw [r]; rfl

/-! ### A fill ended where BKA and the wait list are empty -/

/-- Where nobody holds or waits for a bank there is nothing to let go. -/
theorem letGo_free {r : Requester} {b : BankId} (h : u.holderOf b = none) (w : u.stackedAt b = []) : letGo r b u = u := by
  have : releaseBank r b u = u := if_neg (by simp [h])
  rw [letGo, this, withdrawBank, w]
  simp only [List.erase_nil, setStacked]
  rw [← w, State.stackedAt, upd_sel_self]

theorem letGoOfBank_free (h : ∀ b, u.holderOf b = none ∧ u.stackedAt b = []) : letGoOfBank i u = u := by
  unfold letGoOfBank
  split
  · exact letGo_free (h _).1 (h _).2
  · rfl

theorem beforeRelease_local {r : Reason} : Local i u (beforeRelease i r u) :=
  ((Local.refl u).modFp.setFill.takeReason.closeDraw).modFp

theorem Local.free (l : Local i u v) (h : ∀ b, u.holderOf b = none ∧ u.stackedAt b = []) :
    ∀ b, v.holderOf b = none ∧ v.stackedAt b = [] := by
  unfold State.holderOf State.stackedAt at *
  rw [l.holder, l.stacked]
  exact h

theorem takeReason_auth (r : Reason) : ((takeReason i r u).meter i).auth = (u.meter i).auth := by rw [takeReason_meter]

theorem handOver_auth (r : Reason) (b : Bool) :
    ((handOver i r b u).meter i).auth = (u.meter i).auth ∨ ((handOver i r b u).meter i).auth = Auth.empty := by
  unfold handOver
  dsimp only
  split
  · left; simp [closeDraw, modTxn]
  · right; simp

/-- A fill closed where BKA is empty: no other unit moves. -/
theorem closeFill_free {r : Reason} (h : ∀ b, u.holderOf b = none ∧ u.stackedAt b = []) :
    closeFill i r u = endLink i (beforeRelease i r u) := by
  rw [closeFill_eq, letGoOfBank_free (beforeRelease_local.free h)]

theorem closeFill_free_auth {r : Reason} (h : ∀ b, u.holderOf b = none ∧ u.stackedAt b = []) :
    ((closeFill i r u).meter i).auth = (u.meter i).auth := by
  rw [closeFill_free h]
  simp [endLink, beforeRelease, closeDraw, modTxn, takeReason_auth]

/-- A fill ended in LINK_WAIT or PRECOOL_WAIT where nobody waits for cold: no other unit moves. -/
theorem endEarly_free {r : Reason} (h : u.pcm.waitList = []) : endEarly i r u =
    finish i (handOver i r false (endLink i (modFp i (fun f => { f with acquisition := none }) (takeReason i r u)))) := by
  unfold endEarly
  rw [show withdrawAdmission i (modFp i (fun f => { f with acquisition := none }) (takeReason i r u)) =
    modFp i (fun f => { f with acquisition := none }) (takeReason i r u) from if_neg (by simp [h])]

theorem endEarly_free_fp {r : Reason} (h : u.pcm.waitList = []) (n : r.normal = false) :
    ((endEarly i r u).fp i).fill = .fault ∧ ((endEarly i r u).fp i).reason = some r := by
  rw [endEarly_free h]
  have e : (handOver i r false (endLink i (modFp i (fun f => { f with acquisition := none }) (takeReason i r u)))).fp i =
      { u.fp i with reason := some r, hostHold := false, acquisition := none } := by
    rw [handOver_fp, endLink, modLink_fp, modFp_fp_self, takeReason_fp]
  rw [finish_fp r (by rw [e]), e, n]
  exact ⟨rfl, rfl⟩

theorem endEarly_free_auth {r : Reason} (h : u.pcm.waitList = []) :
    ((endEarly i r u).meter i).auth = (u.meter i).auth ∨ ((endEarly i r u).meter i).auth = Auth.empty := by
  rw [endEarly_free h, finish_meter]
  have := handOver_auth (i := i) (u := endLink i (modFp i (fun f => { f with acquisition := none }) (takeReason i r u))) r false
  simpa [endLink, takeReason_auth] using this

/-! ### One fuelling point at SHUTDOWN -/

/-- What SHUTDOWN makes of a fuelling point (R116). -/
structure FpShut (f g : Fps) : Prop where
  closed : f.fill = .leakCheck ∨ f.fill = .filling → g.fill = .settling ∧ g.reason = some .esd
  ended : f.fill = .linkWait ∨ f.fill = .precoolWait → g.fill = .fault ∧ g.reason = some .esd
  venting : f.fill = .venting → g.fill = .fault
  rest : f.fill = .idle ∨ f.fill = .settling ∨ f.fill = .complete ∨ f.fill = .fault → g.fill = f.fill

theorem Local.stopped (l : Local i u v) (h : Stopped u)
    (a : (v.meter i).auth = (u.meter i).auth ∨ (v.meter i).auth = Auth.empty) : Stopped v := by
  refine ⟨by rw [l.site]; exact h.closed, l.free h.banks, by rw [l.pcm]; exact h.waits, by rw [l.pcm]; exact h.chiller, fun j => ?_⟩
  by_cases e : j = i
  · subst e
    rcases a with a | a <;> rw [a]
    · exact h.sales j
    · simp [Auth.empty]
  · rw [l.meter j e]; exact h.sales j

theorem shutdownFp_shuts (h : Stopped u) :
    Local i u (shutdownFp i u) ∧ Stopped (shutdownFp i u) ∧ FpShut (u.fp i) ((shutdownFp i u).fp i) := by
  have closing (e : (u.fp i).fill = .leakCheck ∨ (u.fp i).fill = .filling) : Local i u (closeFill i .esd u) ∧
      Stopped (closeFill i .esd u) ∧ FpShut (u.fp i) ((closeFill i .esd u).fp i) := by
    have l : Local i u (closeFill i .esd u) := by rw [closeFill_free h.banks]; exact beforeRelease_local.endLink
    have c := closeFill_closes (i := i) (s := u) .esd
    refine ⟨l, l.stopped h (.inl (closeFill_free_auth h.banks)), fun _ => ⟨c.settling, c.reason⟩, ?_, ?_, ?_⟩ <;>
      rcases e with e | e <;> simp [e]
  have early (e : (u.fp i).fill = .linkWait ∨ (u.fp i).fill = .precoolWait) : Local i u (endEarly i .esd u) ∧
      Stopped (endEarly i .esd u) ∧ FpShut (u.fp i) ((endEarly i .esd u).fp i) := by
    have l : Local i u (endEarly i .esd u) := by
      rw [endEarly_free h.waits]; exact (Local.refl u).takeReason.modFp.endLink.handOver.finish
    refine ⟨l, l.stopped h (endEarly_free_auth h.waits), ?_, fun _ => endEarly_free_fp h.waits rfl, ?_, ?_⟩ <;>
      rcases e with e | e <;> simp [e]
  have staying (e : (u.fp i).fill = .idle ∨ (u.fp i).fill = .settling ∨ (u.fp i).fill = .complete ∨ (u.fp i).fill = .fault) :
      Local i u u ∧ Stopped u ∧ FpShut (u.fp i) (u.fp i) := by
    refine ⟨.refl u, h, ?_, ?_, ?_, fun _ => rfl⟩ <;> rcases e with e | e | e | e <;> simp [e]
  unfold shutdownFp endFill
  cases e : (u.fp i).fill with
  | linkWait => exact early (.inl e)
  | precoolWait => exact early (.inr e)
  | leakCheck => exact closing (.inl e)
  | filling => exact closing (.inr e)
  | venting =>
    have l : Local i u (setFill i .fault (modFp i (fun f => { f with vent := none }) u)) := (Local.refl u).modFp.setFill
    refine ⟨l, l.stopped h (.inl (by simp)), ?_, ?_, fun _ => by rw [setFill_fp], ?_⟩ <;> simp [e]
  | idle => exact staying (.inl e)
  | settling => exact staying (.inr (.inl e))
  | complete => exact staying (.inr (.inr (.inl e)))
  | fault => exact staying (.inr (.inr (.inr e)))

/-! ### The compressors at a halt -/

/-- A compressor at rest: no motor, no valve, no bank (R73). -/
def AtRest (c : Compressor) : Prop :=
  c.state = .off ∨ c.state = .startDeferred ∨ c.state = .disabled ∨ c.state = .tripped

@[simp] theorem setCompState_comp_self (k : CompId) (st : CompState) (u : State) :
    (setCompState k st u).comp k = { u.comp k with state := st } := by
  unfold setCompState postIf; split <;> simp

@[simp] theorem setTarget_comp_self (k : CompId) (b : Option BankId) (u : State) :
    (setTarget k b u).comp k = { u.comp k with target := b } := by
  unfold setTarget
  split
  · next e => rw [← e]
  · exact (modComp_comp_self u k fun c => { c with target := b } : _)

/-- A compressor that may not start waits for its start, or for nothing (R61, R62). -/
theorem evalNeed_forbidden (np : u.permitted k = false) (h : (u.comp k).state = .off ∨ (u.comp k).state = .startDeferred) :
    ∃ st, (st = .off ∨ st = .startDeferred) ∧ (evalNeed k u).comp k = { u.comp k with state := st } := by
  unfold evalNeed
  split
  · next e _ => exact ⟨.startDeferred, .inr rfl, by rw [if_neg (by simp [np]), setCompState_comp_self]⟩
  · next e _ => exact ⟨.startDeferred, .inr rfl, by rw [if_neg (by simp [np]), ← e]⟩
  · exact ⟨.off, .inl rfl, setCompState_comp_self _ _ _⟩
  · exact ⟨_, h, rfl⟩

theorem not_permitted_of_site (h : u.site.state ≠ .operating) : u.permitted k = false := by
  simp [State.permitted, h]

/-- Notices keep what each of them keeps. -/
theorem settle_induct {P : State → Prop} (box : ∀ u l, P u → P { u with csInbox := l })
    (order : ∀ u n, P u → P { u with orderCount := n }) (notice : ∀ k u, P u → P (csNotice k u)) (h : P s) : P (settle s) := by
  have all : ∀ (m : Nat) (u : State), P u → P (settleFor m u) := by
    intro m
    induction m with
    | zero => exact fun u p => p
    | succ m ih =>
      intro u p
      unfold settleFor
      split
      · exact p
      · exact ih _ (notice _ _ (box _ _ p))
      · exact ih _ (notice _ _ (box _ _ (order _ _ p)))
  exact all 64 s h

/-- From `s` to `u` only compressors moved. -/
def CompsMoved (s u : State) : Prop :=
  u = { s with cs := u.cs, csInbox := u.csInbox, orderCount := u.orderCount, sli := { s.sli with summary := u.sli.summary } }

theorem CompsMoved.step (h : CompsMoved s u) (l : CompLocal k u v) : CompsMoved s v := by
  unfold CompsMoved at *
  rw [l.rest, h]

theorem CompsMoved.box {l} (h : CompsMoved s u) : CompsMoved s { u with csInbox := l } := by
  unfold CompsMoved at *
  rw [h]
theorem CompsMoved.order {n} (h : CompsMoved s u) : CompsMoved s { u with orderCount := n } := by
  unfold CompsMoved at *
  rw [h]

/-- The part but for the compressors, and every compressor at rest in a site that does not operate. -/
structure CompsHalted (s u : State) : Prop where
  rest : CompsMoved s u
  site : s.site.state ≠ .operating
  comps : ∀ k, AtRest (u.comp k)

theorem CompsHalted.step (h : CompsHalted s u) (l : CompLocal k u v) (r : AtRest (v.comp k)) : CompsHalted s v := by
  refine ⟨h.rest.step l, h.site, fun j => ?_⟩
  by_cases e : j = k
  · exact e ▸ r
  · rw [l.comp j e]; exact h.comps j

theorem evalNeed_rests (h : u.site.state ≠ .operating) (r : (u.comp k).state = .off ∨ (u.comp k).state = .startDeferred) :
    AtRest ((evalNeed k u).comp k) := by
  obtain ⟨st, e, c⟩ := evalNeed_forbidden (not_permitted_of_site h) r
  rw [c]
  rcases e with rfl | rfl
  · exact .inl rfl
  · exact .inr (.inl rfl)

theorem CompsHalted.notice (h : CompsHalted s u) : CompsHalted s (csNotice k u) := by
  have site : u.site.state ≠ .operating := by rw [h.rest]; exact h.site
  unfold csNotice
  rcases h.comps k with e | e | e | e <;> rw [e]
  · exact h.step (CompLocal.refl u).evalNeed (evalNeed_rests site (.inl e))
  · exact h.step (CompLocal.refl u).evalNeed (evalNeed_rests site (.inr e))
  · exact h
  · exact h

theorem CompsHalted.settle (h : CompsHalted s u) : CompsHalted s (settle u) :=
  settle_induct (fun _ _ p => ⟨p.rest.box, p.site, p.comps⟩) (fun _ _ p => ⟨p.rest.order, p.site, p.comps⟩)
    (fun _ _ p => p.notice) h

theorem csShutdown_rests (h : u.site.state ≠ .operating) : AtRest ((csShutdown k u).comp k) := by
  have off : AtRest ((enterOff k u).comp k) := by
    refine evalNeed_rests ?_ (.inl (by simp))
    rwa [((CompLocal.refl u).modComp.setCompState.setTarget).site]
  unfold csShutdown
  cases e : (u.comp k).state with
  | starting => exact off
  | recirc => exact off
  | filling => exact off
  | stopping => exact off
  | startDeferred =>
    refine evalNeed_rests ?_ (.inl (by simp))
    rwa [((CompLocal.refl u).setCompState).site]
  | disabled => exact .inr (.inr (.inl e))
  | off => exact .inl e
  | tripped => exact .inr (.inr (.inr e))

theorem haltCompressors_halts (h : s.site.state ≠ .operating) : CompsHalted s (haltCompressors s) := by
  have q := inAnyOrder_each (f := csShutdown) (l := allComps) (u := s)
    (Q := fun l u => CompsMoved s u ∧ ∀ k, k ∉ l → AtRest (u.comp k))
    (fun l u n q => ⟨q.1.order, q.2⟩)
    (fun k l l' u p q => by
      have c := (CompLocal.refl u).csShutdown (k := k)
      refine ⟨q.1.step c, fun j out => ?_⟩
      by_cases e : j = k
      · subst e; exact csShutdown_rests (by rw [q.1]; exact h)
      · rw [c.comp j e]
        exact q.2 j fun m => (List.mem_cons.mp (p.mem_iff.mp m)).elim e out)
    ⟨rfl, fun k out => absurd (by fin_cases k <;> decide) out⟩
  exact ⟨q.1, h, fun k => q.2 k (by simp)⟩

/-! ### SHUTDOWN -/

/-- The site's entry into SHUTDOWN, its notices taken, halts the part (R192). -/
theorem enterShutdown_shuts (c : ShutCause) (s : State) : s.ShutDown (settle (enterShutdown c s)) := by
  let s1 := setSite .shutdown false c (closeForced s)
  obtain ⟨stop, fps, -, site, -⟩ := haltBlocks_stops (s := s1) (by simp [s1, SiteState.closesAll])
  have fp0 (i : FpId) : (haltBlocks s1).fp i = s.fp i := by
    have : s1.fps = s.fps := by
      obtain ⟨n, e⟩ := setSite_parts .shutdown false c (closeForced s)
      simp only [s1, e]
      unfold closeForced
      split <;> rfl
    unfold State.fp
    rw [fps, this]
  have q := inAnyOrder_each (f := shutdownFp) (l := allFps) (u := haltBlocks s1)
    (Q := fun l u => Stopped u ∧ u.site = s1.site ∧ (∀ i ∈ l, u.fp i = s.fp i) ∧ (∀ i, i ∉ l → FpShut (s.fp i) (u.fp i)) ∧ l.Nodup)
    (fun l u n q => ⟨⟨q.1.closed, q.1.banks, q.1.waits, q.1.chiller, q.1.sales⟩, q.2⟩)
    (fun i l l' u p ⟨st, si, todo, did, nd⟩ => by
      obtain ⟨lo, st', shut⟩ := shutdownFp_shuts (i := i) st
      obtain ⟨fresh, nd⟩ := List.nodup_cons.mp (p.nodup nd)
      refine ⟨st', by rw [lo.site, si], fun j m => ?_, fun j out => ?_, nd⟩
      · rw [lo.fp j fun e => fresh (e ▸ m), todo j (p.mem_iff.mpr (List.mem_cons_of_mem _ m))]
      · by_cases e : j = i
        · subst e; rw [← todo j (p.mem_iff.mpr List.mem_cons_self)]; exact shut
        · rw [lo.fp j e]
          exact did j fun m => (List.mem_cons.mp (p.mem_iff.mp m)).elim e out)
    ⟨stop, site, fun i _ => fp0 i, fun i out => absurd (mem_allFps i) out, by decide⟩
  have ent : enterShutdown c s = haltCompressors (inAnyOrder (allFps.map shutdownFp) (haltBlocks s1)) := rfl
  obtain ⟨st, si, -, did, -⟩ := q
  rw [ent]
  generalize inAnyOrder (allFps.map shutdownFp) (haltBlocks s1) = u at *
  have halt := (haltCompressors_halts (s := u) (by rw [si]; simp [s1])).settle
  generalize settle (haltCompressors u) = v at *
  have shut (i : FpId) : FpShut (s.fp i) (v.fp i) := by
    have : v.fp i = u.fp i := by rw [halt.rest]; rfl
    rw [this]; exact did i (by simp)
  refine ⟨⟨fun o => ?_, fun b => ?_, ?_, ?_, halt.comps, fun i => ?_⟩, fun i => (shut i).closed, fun i => (shut i).ended,
    fun i => (shut i).venting, fun i => (shut i).rest⟩
  · refine if_pos ?_; rw [halt.rest]; exact st.closed
  · rw [halt.rest]; exact st.banks b
  · rw [halt.rest]; exact st.waits
  · rw [halt.rest]; exact st.chiller
  · have : v.meter i = u.meter i := by rw [halt.rest]; rfl
    rw [this]; exact st.sales i

/-- Settles O32. -/
theorem shutdownHaltsTheForecourt : Obligations.ShutdownHaltsTheForecourt := by
  intro s
  refine ⟨fun h => ?_, fun h1 h2 => refuses_of rfl ?_⟩
  · have en := entersSite (enterShutdown_runs (w := false) .host s).settle
    refine ⟨_, answers_of rfl ?_, en.tables, en.prices, en.site, enterShutdown_shuts .host s⟩
    rcases h with h | h <;> (simp only [ownShutdown, h]; rfl)
  · cases e : s.site.state <;> simp_all [ownShutdown]

/-! ### SOFT_RESET -/

/-- What every one of several events keeps, their order left free. -/
theorem inAnyOrder_keeps {P : State → Prop} {fs : List (State → State)} (order : ∀ u n, P u → P { u with orderCount := n })
    (step : ∀ f ∈ fs, ∀ u, P u → P (f u)) (h : P u) : P (inAnyOrder fs u) := by
  have := inAnyOrder_each (f := id) (l := fs) (u := u) (Q := fun l u => (∀ f ∈ l, f ∈ fs) ∧ P u)
    (fun _ u n q => ⟨q.1, order u n q.2⟩)
    (fun f l l' u p q => ⟨fun g m => q.1 g (p.mem_iff.mpr (List.mem_cons_of_mem _ m)),
      step f (q.1 f (p.mem_iff.mpr List.mem_cons_self)) u q.2⟩) ⟨fun _ => id, h⟩
  simpa using this.2

/-- The blocks as a restart leaves them (R49, R55, R74, R86, R118, R154, R171). -/
structure Restarted (u : State) : Prop where
  refill : u.refill = []
  banks : ∀ b, u.holderOf b = none ∧ u.stackedAt b = []
  waits : u.pcm.waitList = []
  records : ∀ i, (u.reservation i).state = .noRecord
  band : u.pcm.band = .a5
  fills : ∀ i, (u.fp i).fill = .idle ∧ (u.fp i).mode = .undecided
  links : ∀ i, (u.link i).state = .idle
  sales : ∀ i, (u.meter i).auth.state ≠ .pending ∧ (u.meter i).window = false
  comps : ∀ k, (u.comp k).state = .off ∨ (u.comp k).state = .disabled ∨ (u.comp k).state = .tripped

/-- A change of other parts. -/
theorem Restarted.of_parts (h : Restarted u) (r : v.refill = u.refill) (ho : v.holder = u.holder) (st : v.stacked = u.stacked)
    (w : v.pcm.waitList = u.pcm.waitList) (re : v.pcm.records = u.pcm.records) (b : v.pcm.band = u.pcm.band)
    (f : v.fps = u.fps) (l : v.vlr = u.vlr) (m : v.mtu = u.mtu) (c : v.cs = u.cs) : Restarted v := by
  refine ⟨r.trans h.refill, fun b => ?_, w.trans h.waits, fun i => ?_, b.trans h.band, fun i => ?_, fun i => ?_, fun i => ?_,
    fun k => ?_⟩
  · unfold State.holderOf State.stackedAt; rw [ho, st]; exact h.banks b
  · unfold State.reservation; rw [re]; exact h.records i
  · unfold State.fp; rw [f]; exact h.fills i
  · unfold State.link; rw [l]; exact h.links i
  · unfold State.meter; rw [m]; exact h.sales i
  · unfold State.comp; rw [c]; exact h.comps k

theorem Restarted.order {n} (h : Restarted u) : Restarted { u with orderCount := n } :=
  h.of_parts rfl rfl rfl rfl rfl rfl rfl rfl rfl rfl
theorem Restarted.box {l} (h : Restarted u) : Restarted { u with csInbox := l } :=
  h.of_parts rfl rfl rfl rfl rfl rfl rfl rfl rfl rfl

/-- Where the refill list is empty no compressor looks for a bank. -/
theorem Restarted.evalNeed (h : Restarted u) : evalNeed k u = u := by
  have none : u.chooseBank k none = none := by simp [State.chooseBank, h.refill]
  unfold Machine.evalNeed
  rw [none]
  rcases h.comps k with e | e | e <;> rw [e]

theorem Restarted.csNotice (h : Restarted u) : csNotice k u = u := by
  unfold Machine.csNotice
  rcases h.comps k with e | e | e <;> rw [e]
  exact h.evalNeed

theorem Restarted.settle (h : Restarted u) : Restarted (settle u) :=
  settle_induct (fun _ _ => .box) (fun _ _ => .order) (fun k u p => by rwa [p.csNotice]) h

theorem Restarted.setChiller {c} (h : Restarted u) : Restarted (setChiller c u) := by
  unfold Machine.setChiller postIf
  split <;> exact h.of_parts rfl rfl rfl rfl rfl rfl rfl rfl rfl rfl

theorem Restarted.evalChiller (h : Restarted u) : Restarted (evalChiller u) := h.setChiller

theorem Restarted.chillerHeldIdle (h : Restarted u) : Restarted (chillerHeldIdle u) := by
  unfold Machine.chillerHeldIdle
  split
  · exact h.setChiller
  all_goals exact h

theorem Restarted.setSite {st op c} (h : Restarted u) : Restarted (setSite st op c u) := by
  obtain ⟨n, e⟩ := setSite_parts st op c u
  rw [e]
  exact h.of_parts rfl rfl rfl rfl rfl rfl rfl rfl rfl rfl

theorem Restarted.closeForced (h : Restarted u) : Restarted (closeForced u) := by
  unfold Machine.closeForced
  split
  · exact h.of_parts rfl rfl rfl rfl rfl rfl rfl rfl rfl rfl
  · exact h

theorem Restarted.cancelAuthorization (h : Restarted u) : cancelAuthorization i u = u := if_neg (h.sales i).1

theorem Restarted.haltBlocks (h : Restarted u) : Restarted (haltBlocks u) := by
  have empty : Restarted (emptyWaitList (emptyArbiter u)) := by
    refine ⟨h.refill, fun b => ?_, rfl, fun i => ?_, h.band, h.fills, h.links, h.sales, h.comps⟩
    · simp [emptyWaitList, emptyArbiter, State.holderOf, State.stackedAt]
    · have e : (emptyWaitList (emptyArbiter u)).reservation i =
          if (u.reservation i).state = .waiting then Reservation.empty else u.reservation i := sel_map _ _ _
      rw [e]
      split
      · rfl
      · exact h.records i
  have fold : ∀ (l : List FpId) (x : State), Restarted x → Restarted (l.foldl (fun s i => Machine.cancelAuthorization i s) x) := by
    intro l
    induction l with
    | nil => exact fun _ p => p
    | cons i l ih => exact fun x p => ih _ (by show Restarted (Machine.cancelAuthorization i x); rwa [p.cancelAuthorization])
  exact fold _ _ empty.chillerHeldIdle

theorem Restarted.haltCompressors (h : Restarted u) : Restarted (haltCompressors u) := by
  refine inAnyOrder_keeps (fun _ _ => .order) (fun f m x p => ?_) h
  obtain ⟨k, -, rfl⟩ := List.mem_map.mp m
  have : csShutdown k x = x := by
    unfold csShutdown
    rcases p.comps k with e | e | e <;> rw [e]
  rwa [this]

theorem Restarted.markChange (h : Restarted u) : Restarted (markChange u) :=
  h.of_parts rfl rfl rfl rfl rfl rfl rfl rfl rfl rfl

theorem Restarted.enterShutdown {c} (h : Restarted u) : Restarted (enterShutdown c u) := by
  refine (inAnyOrder_keeps (fun _ _ => .order) (fun f m x p => ?_) h.closeForced.setSite.haltBlocks).haltCompressors
  obtain ⟨i, -, rfl⟩ := List.mem_map.mp m
  have : shutdownFp i x = x := by unfold shutdownFp; rw [(p.fills i).1]
  rwa [this]

theorem Restarted.enterPowerdown (h : Restarted u) : Restarted (enterPowerdown u) := by
  refine (inAnyOrder_keeps (fun _ _ => .order) (fun f m x p => ?_) h.closeForced.setSite.haltBlocks).haltCompressors
  rcases List.mem_cons.mp m with rfl | m
  · exact p.markChange
  · obtain ⟨i, -, rfl⟩ := List.mem_map.mp m
    have : powerdownFp i x = x := by unfold powerdownFp; rw [(p.fills i).1]
    rwa [this]

theorem Restarted.enterOperating (h : Restarted u) : Restarted (enterOperating u) := by
  refine (inAnyOrder_keeps (fun _ _ => .order) (fun f m x p => ?_) h.closeForced.setSite).evalChiller
  obtain ⟨k, -, rfl⟩ := List.mem_map.mp m
  have : evalPermission k x = x := by
    unfold evalPermission
    rcases p.comps k with e | e | e <;> rw [e]
  rwa [this]

theorem Restarted.enterUnconfigured (h : Restarted u) : Restarted (enterUnconfigured u) := by
  refine inAnyOrder_keeps (fun _ _ => .order) (fun f m x p => ?_) h.closeForced.setSite.chillerHeldIdle
  obtain ⟨k, -, rfl⟩ := List.mem_map.mp m
  have : csDecommission k x = x := by
    unfold csDecommission
    rcases p.comps k with e | e | e <;> rw [e]
  rwa [this]

theorem Restarted.landAfterReset (h : Restarted u) : Restarted (landAfterReset u) := by
  unfold Machine.landAfterReset
  split
  · exact h.setSite.evalChiller
  · unfold land
    split
    · exact h.enterUnconfigured
    · exact h.enterOperating
    · exact h.enterShutdown
    · exact h.enterPowerdown
    · exact h

/-- A fill wound up where BKA is empty: no other unit moves. -/
theorem windUp_local {r : Reason} {b : Bool} (h : ∀ b, u.holderOf b = none ∧ u.stackedAt b = []) :
    Local i u (windUp i r b u) := by
  have stop : Local i u (stopFill i r u) := by
    have before : Local i u (modFp i Fps.closed (closeDraw i (takeReason i r u))) := (Local.refl u).takeReason.closeDraw.modFp
    rw [stopFill, letGoOfBank_free (before.free h)]
    exact before.endLink
  unfold windUp
  split
  · exact (Local.refl u).takeReason.modFp.endLink.handOver
  · exact (Local.refl u).takeReason.modFp.endLink.handOver
  · exact stop.handOver
  · exact stop.handOver
  · exact (Local.refl u).modFp.handOver
  · exact (Local.refl u).modFp
  all_goals exact .refl u

theorem softResetFp_resets (h : ∀ b, u.holderOf b = none ∧ u.stackedAt b = []) : Local i u (softResetFp i u) ∧
    ((softResetFp i u).fp i).fill = .idle ∧ ((softResetFp i u).fp i).mode = .undecided := by
  refine ⟨(windUp_local h).modFp.setFill, ?_⟩
  rw [softResetFp, setFill_fp, modFp_fp_self]
  exact ⟨rfl, rfl⟩

/-- The fills wound up, in whatever order: PCM and BKA stand as their own restart left them. -/
theorem softResetFps_reset (h : ∀ b, u.holderOf b = none ∧ u.stackedAt b = []) :
    let v := inAnyOrder (allFps.map softResetFp) u
    v.pcm = u.pcm ∧ (∀ b, v.holderOf b = none ∧ v.stackedAt b = []) ∧ v.cs = u.cs ∧
      ∀ i, (v.fp i).fill = .idle ∧ (v.fp i).mode = .undecided := by
  have q := inAnyOrder_each (f := softResetFp) (l := allFps) (u := u)
    (Q := fun l v => v.pcm = u.pcm ∧ (∀ b, v.holderOf b = none ∧ v.stackedAt b = []) ∧ v.cs = u.cs ∧
      ∀ i, i ∉ l → (v.fp i).fill = .idle ∧ (v.fp i).mode = .undecided)
    (fun _ _ _ q => q)
    (fun i l l' v p ⟨hp, free, hc, did⟩ => by
      obtain ⟨lo, idle⟩ := softResetFp_resets (i := i) free
      refine ⟨lo.pcm.trans hp, lo.free free, lo.cs.trans hc, fun j out => ?_⟩
      by_cases e : j = i
      · exact e ▸ idle
      · rw [lo.fp j e]
        exact did j fun m => (List.mem_cons.mp (p.mem_iff.mp m)).elim e out)
    ⟨rfl, h, rfl, fun i out => absurd (mem_allFps i) out⟩
  exact ⟨q.1, q.2.1, q.2.2.1, fun i => q.2.2.2 i (by simp)⟩

theorem pcmSoftReset_parts (u : State) : (pcmSoftReset u).pcm.waitList = [] ∧ (pcmSoftReset u).pcm.band = .a5 ∧
    (∀ i, ((pcmSoftReset u).reservation i).state = .noRecord) ∧ (pcmSoftReset u).holder = u.holder ∧
    (pcmSoftReset u).stacked = u.stacked := by
  unfold pcmSoftReset chillerHeldIdle
  split
  · unfold setChiller postIf
    split <;> exact ⟨rfl, rfl, fun i => by simp [State.reservation, modPcm_pcm, Reservation.empty], rfl, rfl⟩
  all_goals exact ⟨rfl, rfl, fun i => by simp [State.reservation, modPcm_pcm, Reservation.empty], rfl, rfl⟩

/-- After the fills and the receivers: the parts but for the compressors. -/
theorem csSoftReset_rests (r : u.refill = []) : CompLocal k u (csSoftReset k u) ∧
    (((csSoftReset k u).comp k).state = .off ∨ ((csSoftReset k u).comp k).state = .disabled ∨
      ((csSoftReset k u).comp k).state = .tripped) := by
  refine ⟨(CompLocal.refl u).csSoftReset, ?_⟩
  have off (v : State) (hv : v.refill = []) : ((enterOff k v).comp k).state = .off := by
    let w := setTarget k none (setCompState k .off (modComp k (fun c =>
      { c.timersOff with minOff := some c.entry.minOff, disablePending := false, tripCause := none }) v))
    have hw : w.refill = [] := (((CompLocal.refl v).modComp.setCompState.setTarget).refill).trans hv
    have none : w.chooseBank k none = none := by simp [State.chooseBank, hw]
    have st : (w.comp k).state = .off := by simp [w]
    show ((evalNeed k w).comp k).state = .off
    have : evalNeed k w = w := by unfold evalNeed; rw [none, st]
    rw [this, st]
  unfold csSoftReset
  dsimp only
  split
  · next e => exact .inr (.inl e)
  · next e => exact .inr (.inr e)
  all_goals exact .inl (off _ r)

theorem restartBlocks_restarted (s : State) : Restarted (restartBlocks s) := by
  obtain ⟨waits, band, records, ho, st⟩ := pcmSoftReset_parts (emptyArbiter s)
  obtain ⟨hp, free, -, fills⟩ := softResetFps_reset (u := pcmSoftReset (emptyArbiter s))
    fun b => by unfold State.holderOf State.stackedAt; rw [ho, st]; simp [emptyArbiter]
  rw [restartBlocks_eq]
  generalize inAnyOrder (allFps.map softResetFp) (pcmSoftReset (emptyArbiter s)) = x at *
  have c := cancelAll_cancels allFps x
  generalize allFps.foldl (fun s i => cancelAuthorization i s) x = y at *
  have rest := c.rest
  have fp (i : FpId) : y.fp i = x.fp i := by rw [rest]; rfl
  have q := inAnyOrder_each (f := csSoftReset) (l := allComps) (u := restartUnits y)
    (Q := fun l v => CompsMoved (restartUnits y) v ∧ ∀ k, k ∉ l →
      (v.comp k).state = .off ∨ (v.comp k).state = .disabled ∨ (v.comp k).state = .tripped)
    (fun _ _ _ q => ⟨q.1.order, q.2⟩)
    (fun k l l' v p ⟨mv, did⟩ => by
      obtain ⟨lo, off⟩ := csSoftReset_rests (u := v) (k := k) (by rw [mv]; rfl)
      refine ⟨mv.step lo, fun j out => ?_⟩
      by_cases e : j = k
      · exact e ▸ off
      · rw [lo.comp j e]
        exact did j fun m => (List.mem_cons.mp (p.mem_iff.mp m)).elim e out)
    ⟨rfl, fun k out => absurd (by fin_cases k <;> decide) out⟩
  obtain ⟨mv, comps⟩ := q
  generalize inAnyOrder (allComps.map csSoftReset) (restartUnits y) = z at *
  have pcm : z.pcm = y.pcm := by rw [mv]; rfl
  have pcmx : y.pcm = x.pcm := by rw [rest]
  refine Restarted.markChange ⟨by rw [mv]; rfl, fun b => ?_, ?_, fun i => ?_, ?_, fun i => ?_, fun i => ?_, fun i => ?_,
    fun k => comps k (by simp)⟩
  · rw [mv]
    show y.holderOf b = none ∧ y.stackedAt b = []
    rw [rest]; exact free b
  · rw [pcm, pcmx, hp]; exact waits
  · show (sel z.pcm.records i).state = _
    rw [pcm, pcmx, hp]; exact records i
  · rw [pcm, pcmx, hp]; exact band
  · have : z.fp i = y.fp i := by rw [mv]; rfl
    rw [this, fp]; exact fills i
  · have : z.link i = (y.link i).ended := by rw [mv]; exact sel_map _ _ _
    rw [this]; rfl
  · have : z.meter i = { y.meter i with window := false, flow := [], pulses := [] } := by rw [mv]; exact restartUnits_meter i
    rw [this]
    exact ⟨fun p => (c.sales i p).1 (mem_allFps i), rfl⟩

/-- The site record after the landing of a reset. -/
theorem landAfterReset_site (u : State) : (landAfterReset u).site =
    { u.site with state := u.landing.1, forecourtOpen := false, cause := u.landing.2 } := by
  unfold landAfterReset
  split
  · rw [((Runs.refl (w := false) _).evalChiller).site, setSite_site]
  · exact (entersSite (land_enters (w := false) u)).site

/-- The tables and the prices that no reset of the blocks moves, and the channels, whose values stand. -/
theorem restartBlocks_keeps (s : State) : (restartBlocks s).tables = s.tables ∧ (restartBlocks s).prices = s.prices ∧
    (restartBlocks s).site = s.site ∧ (restartBlocks s).lines = s.lines ∧
    ∀ c, (restartBlocks s).chan c = { s.chan c with status := .stale, failCount := 0, staleTimer := none } := by
  have fills : Runs false s (allFps.foldl (fun s i => cancelAuthorization i s)
      (inAnyOrder (allFps.map softResetFp) (pcmSoftReset (emptyArbiter s)))) :=
    (Runs.refl s).emptyArbiter.pcmSoftReset.softResetFps.cancelAll
  rw [restartBlocks_eq]
  generalize allFps.foldl (fun s i => cancelAuthorization i s)
    (inAnyOrder (allFps.map softResetFp) (pcmSoftReset (emptyArbiter s))) = x at *
  have comps : Runs false (restartUnits x) (markChange (inAnyOrder (allComps.map csSoftReset) (restartUnits x))) :=
    (Runs.refl _).csSoftResets.markChange
  refine ⟨?_, ?_, ?_, ?_, fun c => ?_⟩
  · rw [tables_eq, comps.fixed, ← tables_eq, restartUnits_tables, tables_eq, fills.fixed, ← tables_eq]
  · exact (congrArg Fixed.prices comps.fixed).trans (congrArg Fixed.prices fills.fixed)
  · exact comps.site.trans fills.site
  · exact (congrArg Fixed.lines comps.fixed).trans (congrArg Fixed.lines fills.fixed)
  · have a := congrArg (fun f => sel (Fixed.chans f) c) comps.fixed
    have b := congrArg (fun f => sel (Fixed.chans f) c) fills.fixed
    refine Eq.trans a ((restartUnits_chan c).trans ?_)
    rw [show x.chan c = s.chan c from b]

/-- The landing reads the lines and the site record alone. -/
theorem landing_of (hl : u.lines = s.lines) (hs : u.site = s.site) : u.landing = s.landing := by
  unfold State.landing State.alarm State.inputAsserted State.combined
  rw [hl, hs]

/-- What the landing of a reset leaves: the tables, the prices, the channels, and every line in AUTO where it stood there. -/
theorem landAfterReset_keeps (auto : ∀ o, sel u.lineModes o = .auto) : (landAfterReset u).tables = u.tables ∧
    (landAfterReset u).prices = u.prices ∧ (landAfterReset u).chans = u.chans ∧
    ∀ o, sel (landAfterReset u).lineModes o = .auto := by
  unfold landAfterReset
  split
  · have run : Runs false (setSite u.landing.1 false u.landing.2 u) (evalChiller (setSite u.landing.1 false u.landing.2 u)) :=
      (Runs.refl _).evalChiller
    obtain ⟨n, e⟩ := setSite_parts u.landing.1 false u.landing.2 u
    refine ⟨?_, (congrArg Fixed.prices run.fixed).trans ?_, (congrArg Fixed.chans run.fixed).trans ?_, fun o => ?_⟩
    · rw [tables_eq, run.fixed, ← tables_eq, e]; rfl
    · rw [e]; rfl
    · rw [e]; rfl
    · rw [run.lineModes, setSite_lineModes, auto]
  · have run := land_enters (w := false) u
    have en := entersSite run
    refine ⟨en.tables, en.prices, (congrArg Fixed.chans run.fixed).trans ?_, fun o => ?_⟩
    · obtain ⟨n, e⟩ := setSite_parts u.landing.1 false u.landing.2 (closeForced u)
      rw [e]
      unfold closeForced
      split <;> rfl
    · rw [en.modes]
      by_cases h : u.site.state = .maintenance
      · rw [closeForced_maintenance h, auto]; rfl
      · rw [closeForced_other h, auto]

/-- Settles O33. -/
theorem softResetRestartsTheBlocks : Obligations.SoftResetRestartsTheBlocks := by
  intro s landing
  obtain ⟨tables, prices, site, lines, chans⟩ := restartBlocks_keeps s
  obtain ⟨tables', prices', chans', auto⟩ := landAfterReset_keeps (restartBlocks_auto (s := s))
  have landed := landAfterReset_site (restartBlocks s)
  have lands : (restartBlocks s).landing = landing := by
    rw [landing_of lines site]
    cases h : s.site.commissioned with
    | false => rw [landing_uncommissioned h]; simp [landing, h]
    | true => rw [landing_commissioned h]; simp [landing, h]
  rw [lands, site] at landed
  have run : Runs false (landAfterReset (restartBlocks s)) (settle (landAfterReset (restartBlocks s))) := (Runs.refl _).settle
  have r := ((restartBlocks_restarted s).landAfterReset).settle
  have soft : softResetAll s = modSli (fun l => { l with summary := 0 }) (settle (landAfterReset (restartBlocks s))) := rfl
  refine ⟨softResetAll s, answers_of rfl rfl, ?_⟩
  rw [soft]
  generalize settle (landAfterReset (restartBlocks s)) = u at *
  have chan (c : ChanId) : u.chan c = { s.chan c with status := .stale, failCount := 0, staleTimer := none } := by
    rw [← chans c]
    exact (congrArg (fun f => sel (Fixed.chans f) c) run.fixed).trans (congrArg (sel · c) chans')
  refine ⟨?_, (congrArg Fixed.prices run.fixed).trans (prices'.trans prices), run.site.trans landed, rfl,
    fun o => (congrArg (sel · o) run.lineModes).trans (auto o), r.refill, r.banks, r.waits, r.records, r.band,
    fun i => ⟨(r.fills i).1, (r.fills i).2, r.links i, r.sales i⟩, fun c => ?_, r.comps⟩
  · exact Eq.trans (b := u.tables) rfl (by rw [tables_eq, run.fixed, ← tables_eq, tables', tables])
  · show (u.chan c).status = _ ∧ (u.chan c).failCount = _ ∧ (u.chan c).staleTimer = _ ∧ (u.chan c).value = _
    rw [chan]; exact ⟨rfl, rfl, rfl, rfl⟩

/-! ### POWER_ON_RESET (R184, R196) -/

/-- CQR set afresh, a valid empty image being written. -/
structure Cqr.Lost (c : Cqr) : Prop where
  lost : c.lost = true
  queue : c.queue = []
  slots : c.slots = 0
  number : c.nextNumber = 1
  totals : ∀ i, sel c.totals i = { mass := 0, amount := 0, fills := 0 }
  fault : c.fault = false
  write : ∃ w, c.write = some w ∧ w.timer = some 50 ∧ w.image.image = RetainedImage.empty

/-- CQR at the content of a good image. -/
structure Cqr.Holds (c : Cqr) (g : StoredImage) : Prop where
  lost : c.lost = false
  queue : c.queue = g.image.records
  slots : c.slots = g.image.records.length
  number : c.nextNumber = g.image.nextNumber
  totals : c.totals = g.image.totals
  write : c.write = none
  fault : c.fault = false

theorem lostRead_lost (store : StoreContents) (n : Nat) : (Cqr.restored.lostRead store n).Lost :=
  ⟨rfl, rfl, rfl, rfl, fun i => by simp [Cqr.restored.lostRead, Cqr.startWrite, Totals.zero], rfl, _, rfl, rfl, rfl⟩


variable {c : Cqr} {g : StoredImage} {n : Nat}

theorem restored_error : (c.restored true n).Lost := lostRead_lost _ _

theorem restored_none (h : c.found n = none) {e : Bool} : (c.restored e n).Lost := by
  cases e
  · have : c.restored false n = Cqr.restored.lostRead .blank c.writeSeq := by unfold Cqr.restored; rw [h]; rfl
    exact this ▸ lostRead_lost _ _
  · exact restored_error

theorem restored_bad (h : c.found n = some g) (bad : g.valid = false) {e : Bool} : (c.restored e n).Lost := by
  cases e
  · have : c.restored false n = Cqr.restored.lostRead .blank c.writeSeq := by unfold Cqr.restored; rw [h]; simp [bad]
    exact this ▸ lostRead_lost _ _
  · exact restored_error

theorem restored_good (h : c.found n = some g) (good : g.valid = true) : (c.restored false n).Holds g := by
  have : c.restored false n =
      { queue := g.image.records, slots := g.image.records.length, nextNumber := g.image.nextNumber,
        totals := g.image.totals, write := none, pendingChange := false, fault := false, lost := false,
        store := .holds g, writeSeq := c.writeSeq } := by unfold Cqr.restored; rw [h]; simp [good]
  rw [this]
  exact ⟨rfl, rfl, rfl, rfl, rfl, rfl, rfl⟩

theorem found_blank (h : c.store = .blank) : c.found n = none := by
  unfold Cqr.found Cqr.standing
  rw [h]
  cases c.write <;> rfl

theorem found_holds (h : c.store = .holds g) (w : c.write = none) : c.found n = some g := by
  simp [Cqr.found, Cqr.standing, h, w]

/-- After a write that did not complete the last image is found, or none is. -/
theorem found_unsure (h : c.store = .unsure g ∨ (c.store = .holds g ∧ c.write ≠ none)) :
    c.found n = some g ∨ c.found n = none := by
  have : c.standing = .unsure g := by
    rcases h with h | ⟨h, w⟩
    · unfold Cqr.standing; rw [h]; simp [StoreContents.cut]
    · simp [Cqr.standing, h, StoreContents.cut, Option.isSome_iff_ne_none.mpr w]
  unfold Cqr.found
  rw [this]
  dsimp only
  split
  · exact .inl rfl
  · exact .inr rfl

theorem found_of (h : c.store = .holds g ∨ c.store = .unsure g) : c.found n = some g ∨ c.found n = none := by
  rcases h with h | h
  · by_cases w : c.write = none
    · exact .inl (found_holds h w)
    · exact found_unsure (.inr ⟨h, w⟩)
  · exact found_unsure (.inl h)

/-- Settles O34: what stands in the memory is found, or an image that fails its check is. -/
theorem powerOnResetStartsAfresh : Obligations.PowerOnResetStartsAfresh := by
  intro s levels err lost restored
  have lose (h : (powerOn levels err s).cqr.Lost) : lost (powerOn levels err s) :=
    ⟨h.lost, h.queue, h.slots, h.number, h.totals, h.fault, if_pos h.lost, h.write⟩
  have hold {g} (h : (powerOn levels err s).cqr.Holds g) : restored (powerOn levels err s) g :=
    ⟨h.lost, h.queue, h.slots, h.number, h.totals, h.write, h.fault, if_neg fun l => absurd (h.lost.symm.trans l) (by decide)⟩
  rw [powerOn_cqr] at lose
  simp only [powerOn_cqr] at hold
  refine ⟨powerOn levels err s, rfl, rfl, rfl, fun l => ?_, fun h => lose ?_, fun g e h w good => hold ?_,
    fun g e h good => ?_⟩
  · show sel (Vector.ofFn fun i : Fin 32 => InLine.reset (levels.getLsbD i.val)) l = _
    unfold sel
    rw [Vector.getElem_ofFn]; rfl
  · rcases h with rfl | blank | ⟨g, holds, bad⟩
    · exact restored_error
    · exact restored_none (found_blank blank)
    · rcases found_of holds with f | f
      · exact restored_bad f bad
      · exact restored_none f
  · exact e ▸ restored_good (found_holds h w) good
  · rcases found_unsure h with f | f
    · exact .inl (hold (e ▸ restored_good f good))
    · exact .inr (lose (restored_none f))

/-! ### VALVE_MODE (R17) -/

theorem lineModeOf_none {m : Nat} (h : 4 ≤ m) : lineModeOf m = none := by
  unfold lineModeOf
  split <;> first | omega | rfl

theorem lineModeOf_lt {m : Nat} (h : m < 4) : ∃ l, lineModeOf m = some l ∧ l.code = m := by
  interval_cases m <;> exact ⟨_, rfl, rfl⟩

theorem roleOn_none {o : Fin 64} (h : ∀ r, sel s.roleMap r ≠ some o) : s.roleOn o = none := by
  simp [State.roleOn, h]

theorem roleOn_some {o : Fin 64} {r : Fin 58} (h : ∀ r', sel s.roleMap r' = some o ↔ r' = r) : s.roleOn o = some (roleAt r) := by
  have : (List.finRange 58).find? (fun r => sel s.roleMap r == some o) = some r := by
    have : (fun r' => sel s.roleMap r' == some o) = fun r' => r' == r := by
      funext r'
      rw [Bool.eq_iff_iff, beq_iff_eq, beq_iff_eq, h]
    rw [this]
    have mem : r ∈ List.finRange 58 := List.mem_finRange r
    cases f : (List.finRange 58).find? (· == r) with
    | none => exact absurd (List.find?_eq_none.mp f r mem) (by simp)
    | some x =>
      have e : (x == r) = true := List.find?_some (p := (· == r)) f
      rw [beq_iff_eq.mp e]
  rw [State.roleOn, this]; rfl

/-- Settles O35: the request checked, then the drive of the line as R17 gives it for the mode. -/
theorem valveModeSetsTheDrive : Obligations.ValveModeSetsTheDrive := by
  intro s n m
  refine ⟨fun h => refuses_of rfl ?_, fun hn hm hs => refuses_of rfl ?_, ?_⟩
  · rcases h with h | h
    · rw [ownValveMode, unitOf_ge h]
    · rw [ownValveMode, lineModeOf_none h]
      cases unitOf 64 n <;> rfl
  · subst hm
    rw [ownValveMode, unitOf_lt hn]
    exact if_pos ⟨rfl, hs⟩
  · intro hn hm hf o
    obtain ⟨l, hl, code⟩ := lineModeOf_lt hm
    have taken : ownValveMode n m s = accept { s with lineModes := upd s.lineModes o l } := by
      rw [ownValveMode, unitOf_lt hn, hl]
      exact if_neg fun ⟨e, ns⟩ => ns (hf (by rw [← code, e]; rfl))
    let u : State := { s with lineModes := upd s.lineModes o l }
    have mode : sel u.lineModes o = l := sel_upd_self ..
    have drive (p : Fin 64) : u.drive p = if s.site.state.closesAll then .drivenClosed else match sel u.lineModes p with
        | .forceClosed => .drivenClosed
        | .forceOpen => .drivenOpen
        | .released => .notDriven
        | .auto => match s.roleOn p with
          | some r => if s.roleOpen r then .drivenOpen else .drivenClosed
          | .none => .drivenClosed := rfl
    refine ⟨u, answers_of rfl taken, ?_, by rw [mode, code], fun p hp => ?_, fun h => ?_, fun h1 h2 => ?_⟩
    · rw [mode]
    · have : sel u.lineModes p = sel s.lineModes p := sel_upd_ne _ _ _ _ hp.symm
      rw [drive, this]; rfl
    · rw [drive]
      rcases h with h | h <;> rw [h] <;> rfl
    · have runs : s.site.state.closesAll = false := by
        cases h : s.site.state <;> first | rfl | contradiction
      have is (m' : LineMode) (h : m = m'.code) : l = m' := by
        rw [← code] at h
        cases l <;> cases m' <;> first | rfl | cases h
      rw [drive, mode, runs]
      refine ⟨fun h => ?_, fun h => ?_, fun h => ?_, fun h free => ?_, fun h r only => ?_⟩
      · rw [is .forceClosed h]; rfl
      · rw [is .forceOpen h]; rfl
      · rw [is .released h]; rfl
      · rw [is .auto h, roleOn_none free]; rfl
      · rw [is .auto h, roleOn_some only]; rfl

end Sys2Proof.Machine
end

section
/-!
PROOFS. FP_COMMAND (chapter 6): its checks, the start of a fill, its ends and its holds.
-/
namespace Sys2Proof.Machine

variable {i j : FpId} {k : CompId} {s t u v : State}

/-! ### FP_COMMAND -/

theorem running_iff (f : FillState) : f.running = true ↔ f = .linkWait ∨ f = .precoolWait ∨ f = .leakCheck ∨ f = .filling := by
  cases f <;> decide

section FpCommand
variable {n : Nat} {body : FpId → State → State × Answer}

theorem fpCommand_ge (h : 4 ≤ n) : fpCommand n body s = refuse s .badField := by rw [fpCommand, unitOf_ge h]

theorem fpCommand_lt (h : n < 4) : fpCommand n body s =
    if (s.fp ⟨n, h⟩).loaded then body ⟨n, h⟩ s else refuse s .notConfigured := by rw [fpCommand, unitOf_lt h]

theorem fpCommand_val : fpCommand i.val body s = if (s.fp i).loaded then body i s else refuse s .notConfigured := by
  rw [fpCommand, unitOf_val]

theorem fpCommand_loaded (l : (s.fp i).loaded = true) : fpCommand i.val body s = body i s := by rw [fpCommand_val, if_pos l]

/-- What every FP_COMMAND is refused with whatever it would do. -/
theorem fpCommands_refused {r : RefusalCode} (h : ∀ body, fpCommand n body s = refuse s r) :
    ∀ c ∈ [Instr.fpStart n, .fpStop n, .fpHold n, .fpReleaseHold n, .fpClearFault n, .fpReset n], Refuses c s r := by
  intro c m
  simp only [List.mem_cons, List.not_mem_nil, or_false] at m
  rcases m with rfl | rfl | rfl | rfl | rfl | rfl <;> exact refuses_of rfl (h _)

end FpCommand

/-- Settles O36: the unit, its entry, then each command's own condition. -/
theorem fpCommandsAreRefused : Obligations.FpCommandsAreRefused := by
  intro s n commands
  refine ⟨fun h => fpCommands_refused fun _ => fpCommand_ge h, fun h => ?_⟩
  intro i running
  have isRunning : running ↔ (s.fp i).fill.running = true := (running_iff _).symm
  refine ⟨fun l => fpCommands_refused fun _ => (fpCommand_lt h).trans
    (if_neg (by simp [show (s.fp ⟨n, h⟩).loaded = false from l])), fun l => ?_⟩
  have own (body) : fpCommand n body s = body i s := fpCommand_loaded (i := i) l
  refine ⟨fun c => refuses_of rfl ((own _).trans (if_neg fun m => ?_)),
    fun c => refuses_of rfl ((own _).trans (if_neg fun m => c (isRunning.mpr m))),
    fun c => refuses_of rfl ((own _).trans (if_neg fun ⟨m, hold⟩ => ?_)),
    fun c => refuses_of rfl ((own _).trans (if_neg (by simp [c]))),
    fun c => refuses_of rfl ((own _).trans (if_neg fun ⟨m, z⟩ => c.elim (· m) (· z)))⟩
  · obtain ⟨idle, op, pend, conn, hb, hm⟩ := (mayStart_iff i).mp m
    rcases c with c | c | c | c | c | c
    · exact c idle
    · exact c op
    · exact c pend
    · exact c conn
    · exact absurd (hb.symm.trans c) (by decide)
    · exact absurd (hm.symm.trans c) (by decide)
  · rcases c with c | c
    · exact c (isRunning.mpr m)
    · exact absurd (hold.symm.trans c) (by decide)

/-! ### START (R98) -/

theorem postIf_eq (b : Bool) (n : Nat) (s : State) : postIf b n s =
    { s with sli := { s.sli with summary := s.sli.summary ||| if b then BitVec.twoPow 15 n else 0 } } := by
  cases b
  · simp [postIf]
  · rfl

/-- A change of one fill's record, with its post. -/
theorem setFill_eq (i : FpId) (st : FillState) (s : State) : setFill i st s =
    { s with
      fps := upd s.fps i { s.fp i with fill := st, sub := if st = .filling then (s.fp i).sub else none }
      sli := { s.sli with summary := s.sli.summary ||| if (s.fp i).fill = st then 0 else BitVec.twoPow 15 i.val } } := by
  unfold setFill
  rw [postIf_eq]
  by_cases h : (s.fp i).fill = st <;> simp [h, modFp, flagFp]

/-- Settles O37: the parts of R98, one after the other. -/
theorem fpStartOpensAFill : Obligations.FpStartOpensAFill := by
  intro s i l idle op pend conn hb hm
  have own : fpCommand i.val ownFpStart s = accept (startFill i s) :=
    (fpCommand_loaded l).trans (if_pos ((mayStart_iff i).mpr ⟨idle, op, pend, conn, hb, hm⟩))
  refine answers_of rfl (own.trans ?_)
  have fp : (meterStart i (modFp i (fun f => f.started s.site.params.linkAcquisition) s)).fp i =
      (s.fp i).started s.site.params.linkAcquisition := by simp [meterStart]
  rw [startFill, setFill_eq, fp]
  have fill : ((s.fp i).started s.site.params.linkAcquisition).fill ≠ .linkWait := by
    rw [Fps.started, idle]; decide
  rw [if_neg fill]
  simp [accept, modLink, meterStart, modMeter, modFp, upd_upd, State.link, State.meter, Fps.started, Vlr.listen, openTxn,
    TxnFlags.clear]

/-! ### STOP and the largest fill time (R107 to R110) -/

theorem endFill_close {r : Reason} (f : (s.fp i).fill = .leakCheck ∨ (s.fp i).fill = .filling) :
    endFill i r s = closeFill i r s := by
  unfold endFill
  rcases f with f | f <;> rw [f]

theorem endFill_early {r : Reason} (f : (s.fp i).fill = .linkWait ∨ (s.fp i).fill = .precoolWait) :
    endFill i r s = endEarly i r s := by
  unfold endFill
  rcases f with f | f <;> rw [f]

theorem endFill_other {r : Reason} (f : (s.fp i).fill.running = false) : endFill i r s = s := by
  unfold endFill
  cases e : (s.fp i).fill <;> first | rfl | (rw [e] at f; cases f)

theorem endFill_closes {r : Reason} (f : (s.fp i).fill = .leakCheck ∨ (s.fp i).fill = .filling) :
    s.ClosedBy (endFill i r s) i r := endFill_close f ▸ closeFill_closes r

theorem endFill_ends {r : Reason} (f : (s.fp i).fill = .linkWait ∨ (s.fp i).fill = .precoolWait) (w : s.WaitOk) :
    s.EndedEarly (endFill i r s) i r := endFill_early f ▸ endEarly_ends r w f

/-- An event that acts where its condition holds. -/
theorem exec_pos {c : Instr} {p : Prop} [Decidable p] (e : exec c s = .next (if p then t else u)) (h : p) : exec c s = .next t :=
  e.trans (congrArg Host.Outcome.next (if_pos h))

theorem exec_neg {c : Instr} {p : Prop} [Decidable p] (e : exec c s = .next (if p then t else u)) (h : ¬ p) : exec c s = .next u :=
  e.trans (congrArg Host.Outcome.next (if_neg h))

/-- The two states agree on what the end of the fill of `i` is told by. -/
structure Alike (i : FpId) (s u : State) : Prop where
  fixed : u.fixed = s.fixed
  banks : u.banks = s.banks
  refill : u.refill = s.refill
  cqr : u.cqr = s.cqr
  pos : (u.fp i).cascadePos = (s.fp i).cascadePos
  mode : (u.fp i).mode = (s.fp i).mode
  soc : (u.fp i).presentSoc = (s.fp i).presentSoc

theorem Alike.site (a : Alike i s u) : u.site = s.site := congrArg Fixed.site a.fixed
theorem Alike.lines (a : Alike i s u) : u.lines = s.lines := congrArg Fixed.lines a.fixed

theorem State.ClosedBy.back {r : Reason} (h : u.ClosedBy t i r) (a : Alike i s u) (pcm : u.pcm = s.pcm) : s.ClosedBy t i r := by
  obtain ⟨fixed, banks, refill, cqr, pcm'⟩ := h.rest
  exact ⟨h.settling, h.reason, a.site ▸ h.settle, h.timers, h.hold, ⟨h.bank.1, fun b e => h.bank.2 b (a.pos.trans e)⟩,
    h.receiver, h.draw, fun m x e => (h.soc (a.mode.trans m) x e).trans a.soc, fixed.trans a.fixed, banks.trans a.banks,
    refill.trans a.refill, cqr.trans a.cqr, pcm'.trans pcm⟩

theorem State.EndedEarly.back {r : Reason} (h : u.EndedEarly t i r) (a : Alike i s u)
    (txn : ∀ x, (s.meter i).txn = some x → ∃ y, (u.meter i).txn = some y ∧ y.price = x.price ∧ y.mass = x.mass) :
    s.EndedEarly t i r := by
  obtain ⟨fixed, banks, refill⟩ := h.rest
  refine ⟨nozzleCondition_of (i := i) a.lines ▸ h.state, h.reason, h.timers, h.hold, h.receiver, h.waits, fun x e => ?_,
    fixed.trans a.fixed, banks.trans a.banks, refill.trans a.refill⟩
  obtain ⟨y, ey, price, mass⟩ := txn x e
  obtain ⟨auth, q, queue, number, fp, reason, qp, qm, qa, time, soc⟩ := h.record y ey
  refine ⟨auth, q, ?_, ?_, fp, reason, qp.trans price, qm.trans mass, ?_, ?_, fun m => (soc (a.mode.trans m)).trans a.soc⟩
  · rw [queue, a.cqr]
  · rw [number, a.cqr]
  · rw [qa, price, mass]
  · rw [time, a.site]

/-- A change of a fill's timers. -/
theorem Alike.modFp {g : Fps → Fps} (e : ∀ f : Fps, (g f).entry = f.entry ∧ (g f).loaded = f.loaded)
    (p : (g (s.fp i)).cascadePos = (s.fp i).cascadePos := by rfl) (m : (g (s.fp i)).mode = (s.fp i).mode := by rfl)
    (q : (g (s.fp i)).presentSoc = (s.fp i).presentSoc := by rfl) : Alike i s (modFp i g s) := by
  refine ⟨((Runs.refl (w := false) s).modFp e).fixed, rfl, rfl, rfl, ?_, ?_, ?_⟩ <;> rw [modFp_fp_self] <;> assumption

/-- Settles O38. -/
theorem runningFillEnds : Obligations.RunningFillEnds := by
  intro s i
  have stop (l : (s.fp i).loaded = true) (run : (s.fp i).fill.running = true) :
      fpCommand i.val ownFpStop s = accept (endFill i .customerStop s) := (fpCommand_loaded l).trans (if_pos run)
  refine ⟨fun l f => ⟨_, answers_of rfl (stop l ?_), endFill_closes f⟩,
    fun l f w => ⟨_, answers_of rfl (stop l ?_), endFill_ends f w⟩,
    fun d f => ⟨_, exec_pos rfl ⟨(due_iff _).mpr d, f⟩, ?_⟩, fun n => exec_neg rfl fun ⟨d, f⟩ => ?_⟩
  · rcases f with f | f <;> rw [f] <;> rfl
  · rcases f with f | f <;> rw [f] <;> rfl
  · have f' : ((modFp i (fun f => { f with maxFill := none }) s).fp i).fill = (s.fp i).fill := by rw [modFp_fp_self]
    exact (endFill_closes (by rwa [f'])).back (.modFp fun _ => ⟨rfl, rfl⟩) rfl
  · rcases n with n | ⟨n1, n2⟩
    · exact n ((due_iff _).mp d)
    · exact f.elim n1 n2

/-! ### What a fill keeps as it chooses a bank or is closed (R102, R110, R137) -/

/-- A fill's record without what the choice of a bank, the substate and the close move. -/
def Fps.context (f : Fps) : Fps :=
  { f with fill := .idle, sub := none, reason := none, hostHold := false, cascadePos := none, link := .unlinked,
           bankWait := none, leakPulse := none, leakHold := none, maxFill := none, settle := none, grace := none,
           lowFlow := none }

/-- A transaction without its draw list and its final SOC. -/
def Txn.context (t : Txn) : Txn := { t with draw := [], finalSoc := none }

/-- A meter without its draw list and the final SOC. -/
def Meter.context (m : Meter) : Meter := { m with txn := m.txn.map Txn.context }

/-- The fill of `i` goes on from `u` to `v`, or settles: it chose a bank, was granted one, was closed. -/
structure Goes (i : FpId) (u v : State) : Prop where
  fill : (v.fp i).fill = (u.fp i).fill ∨ (v.fp i).fill = .settling
  context : (v.fp i).context = (u.fp i).context
  hold : (u.fp i).hostHold = false → (v.fp i).hostHold = false
  meter : (v.meter i).context = (u.meter i).context
  link : (v.link i).ended = (u.link i).ended
  pcm : v.pcm = u.pcm
  runs : Runs false u v

theorem Goes.refl (u : State) : Goes i u u := ⟨.inl rfl, rfl, id, rfl, rfl, rfl, Runs.refl u⟩

theorem Goes.trans (h : Goes i s u) (k : Goes i u v) : Goes i s v := by
  refine ⟨?_, k.context.trans h.context, k.hold ∘ h.hold, k.meter.trans h.meter, k.link.trans h.link, k.pcm.trans h.pcm,
    h.runs.trans k.runs⟩
  rcases k.fill with e | e
  · rcases h.fill with e' | e'
    · exact .inl (e.trans e')
    · exact .inr (e.trans e')
  · exact .inr e

/-- A change of the fill's record alone. -/
theorem Goes.modFp {g : Fps → Fps} (h : Goes i s u) (e : ∀ f : Fps, (g f).entry = f.entry ∧ (g f).loaded = f.loaded)
    (l : ∀ f : Fps, (g f).fill = f.fill ∨ (g f).fill = .settling := by exact fun _ => .inl rfl)
    (c : ∀ f : Fps, (g f).context = f.context := by exact fun _ => rfl)
    (o : ∀ f : Fps, f.hostHold = false → (g f).hostHold = false := by exact fun _ => id) : Goes i s (modFp i g u) := by
  refine h.trans ⟨?_, ?_, ?_, rfl, rfl, rfl, (Runs.refl u).modFp e⟩ <;> rw [modFp_fp_self]
  · exact l _
  · exact c _
  · exact o _

/-- A change of the draw list or the final SOC alone. -/
theorem Goes.modTxn {g : Txn → Txn} (h : Goes i s u) (c : ∀ x : Txn, (g x).context = x.context)
    (d : ∀ x : Txn, drawSum x.draw = x.mass → drawSum (g x).draw = (g x).mass) : Goes i s (modTxn i g u) := by
  refine h.trans ⟨.inl rfl, rfl, id, ?_, rfl, rfl, (Runs.refl u).modTxn d⟩
  unfold Machine.modTxn
  rw [modMeter_meter_self]
  cases h : (u.meter i).txn with
  | none => simp [Meter.context, h]
  | some x => simp [Meter.context, h, c]

theorem Goes.postIf {b : Bool} {n : Nat} (h : Goes i s u) : Goes i s (postIf b n u) :=
  h.trans ⟨.inl (by simp), by simp, by simp, by simp, by simp, by simp, (Runs.refl u).postIf⟩

theorem Goes.endLink (h : Goes i s u) : Goes i s (endLink i u) :=
  h.trans ⟨.inl rfl, rfl, id, rfl, by rw [Machine.endLink, modLink_link_self]; rfl, rfl, (Runs.refl u).modLink⟩

/-- What moves other units alone. -/
theorem Goes.spares (h : Goes i s u) (k : Spares false (· = i) u v) : Goes i s v :=
  h.trans ⟨.inl (by rw [k.fp i rfl]), by rw [k.fp i rfl], by rw [k.fp i rfl]; exact id, by rw [k.meter i rfl],
    by rw [k.link i rfl], k.pcm rfl, k.runs⟩

theorem Goes.setSub {x : Substate} (h : Goes i s u) : Goes i s (setSub i x u) := by
  have e (old : Option Substate) (low : Bool) (dwell : Nat) (f : Fps) :
      (flowTimers old x low dwell f).context = f.context ∧ (flowTimers old x low dwell f).fill = f.fill ∧
        (flowTimers old x low dwell f).hostHold = f.hostHold ∧ (flowTimers old x low dwell f).entry = f.entry ∧
        (flowTimers old x low dwell f).loaded = f.loaded := by
    unfold flowTimers
    split <;> (try split) <;> exact ⟨rfl, rfl, rfl, rfl, rfl⟩
  exact Goes.postIf (Goes.modFp h (fun f => ⟨(e _ _ _ f).2.2.2.1, (e _ _ _ f).2.2.2.2⟩) (fun _ => .inl (e _ _ _ _).2.1)
    (fun _ => (e _ _ _ _).1) fun _ o => (e _ _ _ _).2.2.1.trans o)

theorem Goes.rederive (h : Goes i s u) : Goes i s (rederive i u) := h.setSub

theorem Goes.closeDraw (h : Goes i s u) : Goes i s (closeDraw i u) :=
  h.modTxn (fun _ => rfl) fun _ a => (drawSum_close _ _).trans a

theorem Goes.openDraw {b : BankId} (h : Goes i s u) : Goes i s (openDraw i b u) :=
  h.modTxn (fun _ => rfl) fun _ a => by simpa [drawSum] using a

theorem Goes.fpsTake {b : BankId} (h : Goes i s u) : Goes i s (fpsTake i b u) := by
  have g : Goes i s (Machine.openDraw i b (Machine.modFp i (fun f => { f with link := .granted, bankWait := none }) u)) :=
    Goes.openDraw (Goes.modFp h fun _ => ⟨rfl, rfl⟩)
  unfold Machine.fpsTake
  dsimp only
  split
  · split
    · exact g
    · exact g.modFp fun _ => ⟨rfl, rfl⟩
  · exact g.rederive
  all_goals exact g

theorem Goes.takeReason {r : Reason} (h : Goes i s u) : Goes i s (takeReason i r u) := by
  have g : Goes i s (Machine.modFp i (fun f => { f with reason := some r, hostHold := false }) u) :=
    h.modFp (fun _ => ⟨rfl, rfl⟩) (o := fun _ _ => rfl)
  unfold Machine.takeReason
  dsimp only
  split
  · exact g.modTxn (fun _ => rfl) fun _ => id
  · exact g

theorem Goes.settles (h : Goes i s u) : Goes i s (setFill i .settling u) :=
  Goes.postIf (Goes.modFp h (fun _ => ⟨rfl, rfl⟩) fun _ => .inr rfl)

theorem Goes.closeFill {r : Reason} (h : Goes i s u) : Goes i s (closeFill i r u) := by
  have settles : Goes i s (setFill i .settling (Machine.modFp i (fun f =>
      { f with settle := some u.site.params.settleWindow }) u)) :=
    Goes.settles (Goes.modFp h fun _ => ⟨rfl, rfl⟩)
  have before : Goes i s (beforeRelease i r u) := (settles.takeReason.closeDraw).modFp fun _ => ⟨rfl, rfl⟩
  exact (before.spares (letGoOfBank_spares r)).endLink

/-- A request moves the arbiter's own tables alone. -/
theorem requestBank_parts (r : Requester) (b : BankId) (u : State) :
    (requestBank r b u).1 = { u with holder := (requestBank r b u).1.holder, stacked := (requestBank r b u).1.stacked } := by
  unfold requestBank
  split
  · rfl
  · split <;> rfl

theorem Goes.requestBank {r : Requester} {b : BankId} (h : Goes i s u) : Goes i s (requestBank r b u).1 := by
  have e := requestBank_parts r b u
  have runs := (Runs.refl (w := false) u).requestBank (r := r) (b := b)
  generalize (Machine.requestBank r b u).1 = v at *
  refine h.trans ⟨?_, ?_, ?_, ?_, ?_, ?_, runs⟩ <;> rw [e]
  · exact .inl rfl
  · rfl
  · exact id
  · rfl
  · rfl

theorem Goes.tryBanks {l : List BankId} {why : Reason} (h : Goes i s u) : Goes i s (tryBanks i l why u) := by
  induction l generalizing u why with
  | nil => exact h.closeFill
  | cons b rest ih =>
    unfold Machine.tryBanks
    split
    · have asks : Goes i s (Machine.requestBank (fpReq i) b (Machine.modFp i (fun f => { f with cascadePos := some b }) u)).1 :=
        Goes.requestBank (Goes.modFp h fun _ => ⟨rfl, rfl⟩)
      dsimp only
      split
      · exact asks.fpsTake
      · have waits : Goes i s (Machine.modFp i (fun f =>
            { f with link := .stacked, bankWait := some u.site.params.bankWait }) _) := asks.modFp fun _ => ⟨rfl, rfl⟩
        split
        · exact waits.rederive
        · exact waits
      · exact ih asks
    · exact ih h

/-! ### Leaving LINK_WAIT (R90, R100, R101) -/

/-- The fill of `i` has asked for admission: it waits, is admitted, or has already been closed. -/
structure Asked (i : FpId) (s t : State) : Prop where
  fill : (t.fp i).fill = .precoolWait ∨ (t.fp i).fill = .leakCheck ∨ (t.fp i).fill = .settling
  context : ∃ a b, (t.fp i).context = { (s.fp i).context with admClass := a, admBand := b }
  hold : (s.fp i).hostHold = false → (t.fp i).hostHold = false
  link : (t.link i).ended = (s.link i).ended

theorem Asked.goes (h : Asked i s u) (f : (u.fp i).fill = .leakCheck) (g : Goes i u v) : Asked i s v := by
  obtain ⟨a, b, e⟩ := h.context
  exact ⟨.inr (g.fill.imp (·.trans f) id), ⟨a, b, g.context.trans e⟩, g.hold ∘ h.hold, g.link.trans h.link⟩

/-- LEAK_CHECK as it is entered, before its first bank is asked for. -/
def enteredLeak (i : FpId) (u : State) : State :=
  modMeter i (fun m => { m with window := true })
    (setFill i .leakCheck (modFp i (fun f => { f with maxFill := some f.entry.maxFillTime }) u))

theorem enterLeakCheck_goes : Goes i (enteredLeak i u) (enterLeakCheck i u) := by
  unfold enterLeakCheck
  dsimp only
  split
  · exact (Goes.refl _).tryBanks
  · exact (Goes.refl _).closeFill

theorem enteredLeak_fp : (enteredLeak i u).fp i =
    { u.fp i with fill := .leakCheck, sub := none, maxFill := some (u.fp i).entry.maxFillTime } := by
  simp [enteredLeak, setFill_fp]

/-- The fill as it is admitted with its class and band, before LEAK_CHECK is entered. -/
def admittedFill (i : FpId) (c : PrecoolClass) (b : Band) (s : State) : State :=
  modTxn i (fun t => { t with startClass := some c, finalClass := some c })
    (modFp i (fun f => { f with admClass := some c, admBand := some b }) s)

theorem fpsAdmitted_eq (c : PrecoolClass) (b : Band) : fpsAdmitted i c b s = enterLeakCheck i (admittedFill i c b s) := rfl

theorem admittedFill_fp {c : PrecoolClass} {b : Band} : (admittedFill i c b s).fp i =
    { s.fp i with admClass := some c, admBand := some b } := by simp [admittedFill, modTxn]

theorem fpsAdmitted_asked (c : PrecoolClass) (b : Band) : Asked i s (fpsAdmitted i c b s) := by
  have entered : (enteredLeak i (admittedFill i c b s)).fp i = _ := enteredLeak_fp.trans (by rw [admittedFill_fp])
  refine Asked.goes (u := enteredLeak i (admittedFill i c b s)) ⟨?_, ⟨some c, some b, ?_⟩, ?_, ?_⟩ ?_ enterLeakCheck_goes
  · rw [entered]; exact .inr (.inl rfl)
  · rw [entered]; rfl
  · rw [entered]; exact id
  · simp [enteredLeak, admittedFill, modTxn]
  · rw [entered]

theorem admitFill_fp {e : Nat} {c : Category} {cl : PrecoolClass} (j : FpId) : (admitFill i e c cl s).fp j = s.fp j := by
  unfold State.fp
  rw [admit_parts.1]

theorem admitFill_link {e : Nat} {c : Category} {cl : PrecoolClass} (j : FpId) : (admitFill i e c cl s).link j = s.link j := by
  unfold State.link
  rw [admit_parts.2.2.1]

theorem admitFill_meter {e : Nat} {c : Category} {cl : PrecoolClass} (j : FpId) : (admitFill i e c cl s).meter j = s.meter j := by
  unfold State.meter
  rw [admit_parts.2.1]

/-- A member of the wait list as it joins. -/
theorem joinWaitList_fp {e : Nat} {c : Category} :
    (joinWaitList i e c s).fp i = { s.fp i with fill := .precoolWait, sub := none } := by
  simp [joinWaitList, setFill_fp]

theorem joinWaitList_asked (e : Nat) (c : Category) : Asked i s (joinWaitList i e c s) := by
  refine ⟨?_, ⟨(s.fp i).admClass, (s.fp i).admBand, ?_⟩, ?_, ?_⟩
  · rw [joinWaitList_fp]; exact .inl rfl
  · rw [joinWaitList_fp]; rfl
  · rw [joinWaitList_fp]; exact id
  · simp [joinWaitList]

theorem requestAdmission_held {e : Nat} {c : Category} (h : (s.reservation i).state ≠ .noRecord) :
    requestAdmission i e c s = s := if_pos h

theorem requestAdmission_waits {e : Nat} {c : Category} (h : (s.reservation i).state = .noRecord)
    (w : s.pcm.waitList ≠ [] ∨ s.admitClass i e c = none) : requestAdmission i e c s = joinWaitList i e c s := by
  unfold requestAdmission
  rw [if_neg (not_not.mpr h)]
  split
  · next l =>
    rw [w.resolve_left (not_not.mpr (List.isEmpty_iff.mp l))]
  · rfl

theorem requestAdmission_admits {e : Nat} {c : Category} {cl : PrecoolClass} (h : (s.reservation i).state = .noRecord)
    (w : s.pcm.waitList = []) (a : s.admitClass i e c = some cl) :
    requestAdmission i e c s = fpsAdmitted i cl s.pcm.band (admitFill i e c cl s) := by
  unfold requestAdmission
  rw [if_neg (not_not.mpr h), if_pos (List.isEmpty_iff.mpr w), a]

theorem requestAdmission_asked {e : Nat} {c : Category} (h : (s.reservation i).state = .noRecord) :
    Asked i s (requestAdmission i e c s) := by
  by_cases w : s.pcm.waitList ≠ [] ∨ s.admitClass i e c = none
  · exact requestAdmission_waits h w ▸ joinWaitList_asked e c
  · rw [not_or, not_not] at w
    obtain ⟨cl, a⟩ := Option.ne_none_iff_exists'.mp w.2
    have k := fpsAdmitted_asked (i := i) (s := admitFill i e c cl s) cl s.pcm.band
    rw [requestAdmission_admits h w.1 a]
    refine ⟨k.fill, ?_, ?_, ?_⟩
    · rw [← admitFill_fp (s := s) (i := i) (e := e) (c := c) (cl := cl)]; exact k.context
    · rw [← admitFill_fp (s := s) (i := i) (e := e) (c := c) (cl := cl)]; exact k.hold
    · rw [k.link, admitFill_link]

/-- The estimate moves its own figure, the category and the CLAMPED flag alone. -/
structure Estimated (i : FpId) (s u : State) : Prop where
  rest : u = { s with fps := u.fps, mtu := u.mtu }
  fp : ∃ e c, u.fp i = { s.fp i with estimate := some e, category := c }

theorem setFlags_fp (g : TxnFlags → TxnFlags) (j : FpId) : (setFlags i g s).fp j = s.fp j := rfl

theorem formEstimate_linked {p q v : Nat} (m : (s.fp i).mode = .communication) (hp : (s.fp i).firstP = some p)
    (hq : (s.fp i).firstT = some q) (hv : (s.link i).volume = some v) :
    ((formEstimate i s).fp i).estimate = some (estimateOf
      (baseEstimate (fullOf s.site.params (s.fp i).entry.pressureClass) (s.socTarget i) v
        (massOf (s.lookup p q).density v))
      (s.meter i).auth.kind (s.meter i).auth.value (s.fp i).entry.maxMass) := by
  unfold formEstimate
  dsimp only
  rw [m, hp, hq, hv]
  dsimp only
  split
  · rw [setFlags_fp, modFp_fp_self]
  · rw [modFp_fp_self]

theorem formEstimate_default (m : (s.fp i).mode ≠ .communication) : formEstimate i s = modFp i (fun f =>
    { f with
      estimate := some (estimateOf (s.fp i).entry.defaultEstimate (s.meter i).auth.kind (s.meter i).auth.value
        (s.fp i).entry.maxMass)
      category := some (s.fp i).entry.category }) s := by
  unfold formEstimate
  dsimp only
  split
  · contradiction
  · rfl

theorem formEstimate_estimated : Estimated i s (formEstimate i s) := by
  unfold formEstimate
  dsimp only
  split
  · split
    · exact ⟨rfl, _, (s.fp i).category, (setFlags_fp _ _).trans (modFp_fp_self ..)⟩
    · exact ⟨rfl, _, (s.fp i).category, modFp_fp_self ..⟩
  · exact ⟨rfl, _, some (s.fp i).entry.category, modFp_fp_self ..⟩

/-- A fill that leaves LINK_WAIT has its estimate. -/
theorem leaveLinkWait_asked (n : (s.reservation i).state = .noRecord) : Asked i (formEstimate i s) (leaveLinkWait i s) := by
  have e := (formEstimate_estimated (i := i) (s := s)).rest
  exact requestAdmission_asked (by rw [e]; exact n)

theorem leaveLinkWait_held (n : (s.reservation i).state ≠ .noRecord) : leaveLinkWait i s = formEstimate i s := by
  have e := (formEstimate_estimated (i := i) (s := s)).rest
  exact requestAdmission_held (by rw [e]; exact n)

theorem leaveIfFree_leaves (m : (s.fp i).mode ≠ .undecided) (f : s.levelHold i = false) : leaveIfFree i s = leaveLinkWait i s :=
  if_pos ⟨m, f⟩

theorem leaveIfFree_stays (h : (s.fp i).mode = .undecided ∨ s.levelHold i = true) : leaveIfFree i s = s :=
  if_neg fun ⟨m, f⟩ => h.elim m fun h => by rw [f] at h; cases h

/-! ### The substate re-derived (R122, R127, R136) -/

theorem setSub_eq (x : Substate) : setSub i x s =
    { s with
      fps := upd s.fps i { flowTimers (s.fp i).sub x (s.flowLow i) s.site.params.stepDwell (s.fp i) with sub := some x }
      sli := { s.sli with summary := s.sli.summary ||| if (s.fp i).sub = some x then 0 else BitVec.twoPow 15 i.val } } := by
  unfold setSub
  rw [postIf_eq]
  by_cases h : (s.fp i).sub = some x <;> simp [h, modFp, flagFp]

/-- A fill that stops flowing, or does not begin to. -/
theorem rederive_held {x : Substate} (h : s.deriveSub i = x) (n : x ≠ .flow) : rederive i s =
    { s with
      fps := upd s.fps i { s.fp i with sub := some x, lowFlow := none, grace := none }
      sli := { s.sli with summary := s.sli.summary ||| if (s.fp i).sub = some x then 0 else BitVec.twoPow 15 i.val } } := by
  rw [rederive, h, setSub_eq, flowTimers, if_neg n]

/-- A fill that flows, or begins to. -/
theorem rederive_flows (h : s.deriveSub i = .flow) : rederive i s =
    { s with
      fps := upd s.fps i { s.fp i with
        sub := some .flow
        lowFlow := if (s.fp i).sub = some .flow then (s.fp i).lowFlow
          else if (s.meter i).figure < s.site.params.stepFlow * 1000 then some s.site.params.stepDwell else none }
      sli := { s.sli with summary := s.sli.summary ||| if (s.fp i).sub = some .flow then 0 else BitVec.twoPow 15 i.val } } := by
  rw [rederive, h, setSub_eq, flowTimers, if_pos rfl]
  by_cases e : (s.fp i).sub = some .flow
  · simp [e]
  · simp [e, State.flowLow]

theorem levelHold_iff : s.levelHold i = true ↔ s.combined .siteHold = true ∨ (s.fp i).hostHold = true ∨
    ((s.fp i).vehicleHold = true ∧ (s.fp i).mode = .communication) := by
  simp [State.levelHold, or_assoc]

theorem levelHold_false_iff : s.levelHold i = false ↔ s.combined .siteHold = false ∧ (s.fp i).hostHold = false ∧
    ((s.fp i).vehicleHold = true → (s.fp i).mode ≠ .communication) := by
  rw [← Bool.not_eq_true, levelHold_iff]
  simp

theorem deriveSub_waits (h : (s.fp i).link = .stacked) : s.deriveSub i = .bankWait := if_pos h

theorem deriveSub_holds (n : (s.fp i).link ≠ .stacked) (h : s.levelHold i = true ∨ (s.fp i).sync = true) :
    s.deriveSub i = .hold := by
  unfold State.deriveSub
  rw [if_neg n]
  split
  · rfl
  · next l => exact if_pos (h.resolve_left l)

theorem deriveSub_free (n : (s.fp i).link ≠ .stacked) (l : s.levelHold i = false) (y : (s.fp i).sync = false) :
    s.deriveSub i = if (s.fp i).pause = true then .rampPause else .flow := by
  rw [State.deriveSub, if_neg n, l, y]; rfl

/-- Where a fill that is held stands. -/
def Fps.heldIn (f : Fps) : Substate := if f.link = .stacked then .bankWait else .hold

theorem deriveSub_held (h : (s.fp i).link = .stacked ∨ s.levelHold i = true ∨ (s.fp i).sync = true) :
    s.deriveSub i = (s.fp i).heldIn := by
  unfold Fps.heldIn
  split
  · next e => exact deriveSub_waits e
  · next n => exact deriveSub_holds n (h.resolve_left n)

theorem heldIn_ne (f : Fps) : f.heldIn ≠ .flow := by
  unfold Fps.heldIn
  split <;> decide

/-! ### A hold that may have changed (R102, R106, R133) -/

theorem holdsChanged_linkWait {was : Bool} (f : (s.fp i).fill = .linkWait) : holdsChanged i was s =
    if was ∧ s.levelHold i = false then leaveIfFree i s else s := by
  unfold holdsChanged
  dsimp only
  rw [f]

theorem holdsChanged_leakCheck {was : Bool} (f : (s.fp i).fill = .leakCheck) : holdsChanged i was s =
    if was ∧ s.levelHold i = false ∧ (s.fp i).link = .granted ∧ (s.fp i).leakPulse = none ∧ (s.fp i).leakHold = none then
      beginPulse i s else s := by
  unfold holdsChanged
  dsimp only
  rw [f]

theorem holdsChanged_filling {was : Bool} (f : (s.fp i).fill = .filling) : holdsChanged i was s =
    if was ∧ s.levelHold i = false ∧ (s.fp i).link ≠ .stacked ∧ (s.fp i).sync = false then rederive i (rebase i s)
    else rederive i s := by
  unfold holdsChanged
  dsimp only
  rw [f]

theorem holdsChanged_other {was : Bool} (f : (s.fp i).fill ≠ .linkWait) (g : (s.fp i).fill ≠ .leakCheck)
    (h : (s.fp i).fill ≠ .filling) : holdsChanged i was s = s := by
  unfold holdsChanged
  dsimp only
  split <;> first | contradiction | rfl

/-- A fill in FILLING held by its bank, a level or a synchronous hold stays where it is. -/
theorem holdsChanged_held {was : Bool} (f : (s.fp i).fill = .filling)
    (h : (s.fp i).link = .stacked ∨ s.levelHold i = true ∨ (s.fp i).sync = true) : holdsChanged i was s =
    { s with
      fps := upd s.fps i { s.fp i with sub := some (s.fp i).heldIn, lowFlow := none, grace := none }
      sli := { s.sli with summary := s.sli.summary |||
                 if (s.fp i).sub = some (s.fp i).heldIn then 0 else BitVec.twoPow 15 i.val } } := by
  rw [holdsChanged_filling f, if_neg, rederive_held (deriveSub_held h) (heldIn_ne _)]
  rintro ⟨-, l, n, y⟩
  rcases h with h | h | h
  · exact n h
  · rw [l] at h; cases h
  · rw [y] at h; cases h

/-- A fill in FILLING whose last hold ends flows on, its ramp rebased. -/
theorem holdsChanged_frees (f : (s.fp i).fill = .filling) (l : s.levelHold i = false) (n : (s.fp i).link ≠ .stacked)
    (y : (s.fp i).sync = false) : holdsChanged i true s =
    { s with
      fps := upd s.fps i { s.fp i with
        sub := some .flow, pstart := (s.fp i).nozzle, clock := 0, pause := false
        lowFlow := if (s.fp i).sub = some .flow then (s.fp i).lowFlow
          else if (s.meter i).figure < s.site.params.stepFlow * 1000 then some s.site.params.stepDwell else none }
      sli := { s.sli with summary := s.sli.summary ||| if (s.fp i).sub = some .flow then 0 else BitVec.twoPow 15 i.val } } := by
  have r : (rebase i s).fp i = { s.fp i with pstart := (s.fp i).nozzle, clock := 0, pause := false } := modFp_fp_self ..
  have flows : (rebase i s).deriveSub i = .flow := by
    rw [deriveSub_free (by rw [r]; exact n) (by rw [← l]; simp [State.levelHold, r]; rfl) (by rw [r]; exact y), r]
    rfl
  rw [holdsChanged_filling f, if_pos ⟨rfl, l, n, y⟩, rederive_flows flows, r]
  simp only [rebase, modFp, upd_upd]
  rfl

/-! ### HOLD and RELEASE_HOLD (R106) -/

/-- The fill with its host hold set or cleared. -/
def hosted (i : FpId) (b : Bool) (s : State) : State := modFp i (fun f => { f with hostHold := b }) s

theorem hosted_fp {b : Bool} : (hosted i b s).fp i = { s.fp i with hostHold := b } := modFp_fp_self ..

theorem hosted_levelHold {b : Bool} : (hosted i b s).levelHold i =
    (s.combined .siteHold || b || ((s.fp i).vehicleHold && (s.fp i).mode == .communication)) := by
  unfold State.levelHold
  rw [hosted_fp]
  rfl

/-- Settles O39: the hold set or cleared, then the holds looked at again. -/
theorem hostHoldsHoldTheFill : Obligations.HostHoldsHoldTheFill := by
  intro s i loaded f free held flagged where_
  have hold (h : f.hostHold = false) (r : f.fill.running = true) :
      fpCommand i.val ownFpHold s = accept (holdsChanged i (s.levelHold i) (hosted i true s)) :=
    (fpCommand_loaded loaded).trans (if_pos ⟨r, h⟩)
  have release (h : f.hostHold = true) :
      fpCommand i.val ownFpReleaseHold s = accept (holdsChanged i true (hosted i false s)) := by
    have was : s.levelHold i = true := levelHold_iff.mpr (.inr (.inl h))
    rw [fpCommand_loaded loaded, ownFpReleaseHold, if_pos h, was]; rfl
  have up : (hosted i true s).levelHold i = true := by rw [hosted_levelHold]; simp
  have down : (hosted i false s).levelHold i = false ↔ free := by
    rw [hosted_levelHold]; simp [free, f]
  have stays (h : ¬ free) : (hosted i false s).levelHold i = true := by rwa [← down, Bool.not_eq_false] at h
  have fp (b : Bool) : (hosted i b s).fp i = { f with hostHold := b } := hosted_fp
  have heldAs (b : Bool) (was : Bool) (fill : f.fill = .filling)
      (h : f.link = .stacked ∨ (hosted i b s).levelHold i = true ∨ f.sync = true) :
      holdsChanged i was (hosted i b s) = held b where_ := by
    rw [holdsChanged_held (by rw [fp]; exact fill) (by rw [fp]; exact h), fp]
    simp only [hosted, modFp, upd_upd]
    rfl
  refine ⟨fun h => ⟨fun fill => ?_, fun fill => ?_⟩, fun h => ⟨fun n fill => ?_, fun n fill => ?_, fun fill => ?_,
    fun fr fill n => ?_, fun fr fill w => ?_, fun fill => ?_, fun fr fill n y sub => ?_, fun fr fill g p l => ?_,
    fun fr fill m => ?_, fun fr fill m r => ?_, fun fr fill m r => ?_⟩⟩
  · refine answers_of rfl ((hold h ((running_iff _).mpr ?_)).trans (congrArg accept ?_))
    · exact fill.imp id (Or.imp id .inl)
    · rcases fill with e | e | e
      · rw [holdsChanged_linkWait (by rw [fp]; exact e), if_neg (by simp [up])]; rfl
      · rw [holdsChanged_other] <;> first | rfl | (rw [fp, e]; decide)
      · rw [holdsChanged_leakCheck (by rw [fp]; exact e), if_neg (by simp [up])]; rfl
  · refine answers_of rfl ((hold h ((running_iff _).mpr (.inr (.inr (.inr fill))))).trans (congrArg accept ?_))
    exact heldAs true _ fill (.inr (.inl up))
  · refine answers_of rfl ((release h).trans (congrArg accept ?_))
    rcases fill with e | e | e
    · rw [holdsChanged_linkWait (by rw [fp]; exact e), if_neg (by simp [stays n])]; rfl
    · rw [holdsChanged_other] <;> first | rfl | (rw [fp, e]; decide)
    · rw [holdsChanged_leakCheck (by rw [fp]; exact e), if_neg (by simp [stays n])]; rfl
  · exact answers_of rfl ((release h).trans (congrArg accept (heldAs false _ fill (.inr (.inl (stays n))))))
  · refine answers_of rfl ((release h).trans (congrArg accept ?_))
    rw [holdsChanged_other] <;> first | rfl | (rw [fp, fill]; decide)
  · refine answers_of rfl ((release h).trans (congrArg accept ?_))
    rw [holdsChanged_leakCheck (by rw [fp]; exact fill), if_neg]
    · rfl
    · rw [fp]
      rintro ⟨-, -, g, p, l⟩
      exact n.elim (· g) (Or.rec (· p) (· l))
  · exact answers_of rfl ((release h).trans (congrArg accept (heldAs false _ fill (w.imp id .inr))))
  · refine answers_of rfl ((release h).trans (congrArg accept ?_))
    rw [holdsChanged_other] <;> first | rfl | (rw [fp]; rcases fill with e | e | e | e | e <;> rw [e] <;> decide)
  · refine answers_of rfl ((release h).trans (congrArg accept ?_))
    rw [holdsChanged_frees (by rw [fp]; exact fill) (down.mpr fr) (by rw [fp]; exact n) (by rw [fp]; exact y), fp]
    simp only [hosted, modFp, upd_upd, if_neg sub]
    rfl
  · refine answers_of rfl ((release h).trans (congrArg accept ?_))
    rw [holdsChanged_leakCheck (by rw [fp]; exact fill), if_pos]
    · simp [hosted, modFp, beginPulse, f, State.fp]
    · rw [fp]
      exact ⟨rfl, down.mpr fr, g, p, l⟩
  · refine answers_of rfl ((release h).trans (congrArg accept ?_))
    rw [holdsChanged_linkWait (by rw [fp]; exact fill), if_pos ⟨rfl, down.mpr fr⟩, leaveIfFree_stays (.inl (by rw [fp]; exact m))]
    rfl
  all_goals
    have leaves : holdsChanged i true (hosted i false s) = leaveLinkWait i (hosted i false s) := by
      rw [holdsChanged_linkWait (by rw [fp]; exact fill), if_pos ⟨rfl, down.mpr fr⟩,
        leaveIfFree_leaves (by rw [fp]; exact m) (down.mpr fr)]
    obtain ⟨e, c, est⟩ := (formEstimate_estimated (i := i) (s := hosted i false s)).fp
    refine ⟨_, answers_of rfl ((release h).trans (congrArg accept leaves)), ?_⟩
  · have asked := leaveLinkWait_asked (i := i) (s := hosted i false s) r
    obtain ⟨a, b, ctx⟩ := asked.context
    refine ⟨asked.hold (by rw [est, fp]), asked.fill, ?_⟩
    have := congrArg Fps.estimate ctx
    rw [show ((leaveLinkWait i (hosted i false s)).fp i).estimate = _ from this, est]
    rfl
  · rw [leaveLinkWait_held (s := hosted i false s) r, est, fp]
    refine ⟨rfl, fill, ?_⟩
    rw [(formEstimate_estimated (i := i) (s := hosted i false s)).rest]
    rfl

/-! ### A reservation given back (R88, R93) -/

theorem WaitOk_out (w : s.WaitOk) (e : (s.reservation i).state ≠ .waiting) : i ∉ s.pcm.waitList :=
  fun m => e ((w.members i).mp m)

theorem afterFall_list : ∀ j ∈ (afterFall s).pcm.waitList, j ∈ s.pcm.waitList := by
  unfold afterFall
  split
  · rw [evalChiller_waitList]; exact evalHeads_list _
  · exact evalHeads_list _

/-- After the release of its reservation a fuelling point is as it was, has no record and stands in no list. -/
theorem releaseReservation_spares (w : s.WaitOk) (q : ∀ b, (s.fp i).waitsFor b = false) :
    Spares true (· = i) s (releaseReservation i s) ∧ ((releaseReservation i s).reservation i).state = .noRecord ∧
      i ∉ (releaseReservation i s).pcm.waitList := by
  have start : Spares true (· = i) s s := Spares.refl (by rintro _ rfl b; exact q b)
  unfold releaseReservation
  dsimp only
  cases e : (s.reservation i).state with
  | noRecord => exact ⟨start, e, WaitOk_out w (by rw [e]; decide)⟩
  | waiting =>
    have left : Spares true (· = i) s (leaveWaitList i s) := start.step (Runs.refl s).leaveWaitList (c := nofun)
    have gone : (leaveWaitList i s).reservation i = Reservation.empty := by simp [leaveWaitList]
    have out : i ∉ (leaveWaitList i s).pcm.waitList := w.once.not_mem_erase
    have mem : s.pcm.waitList.contains i = true := List.contains_iff_mem.mpr ((w.members i).mpr e)
    dsimp only
    rw [withdrawAdmission, if_pos mem]
    split
    · obtain ⟨heads, record⟩ := (Spares.refl (p := true) left.still).evalHead (by rintro _ rfl; exact out) fun _ _ => rfl
      exact ⟨left.trans heads, by rw [record i rfl, gone]; rfl, fun m => out (evalHeads_list _ _ m)⟩
    · exact ⟨left, by rw [gone]; rfl, out⟩
  | admitted =>
    have out := WaitOk_out w (i := i) (by rw [e]; decide)
    have freed : Runs false s (modReservation i (fun _ => Reservation.empty) s) :=
      (Runs.refl s).record (fun a => WaitOk_out a (by rw [e]; decide)) (by simp [Reservation.empty])
    have sp : Spares true (· = i) s (modReservation i (fun _ => Reservation.empty) s) := start.step freed (c := nofun)
    have gone : (modReservation i (fun _ => Reservation.empty) s).reservation i = Reservation.empty := by simp
    dsimp only
    split
    · obtain ⟨fall, record⟩ := (Spares.refl (p := true) sp.still).afterFall (by rintro _ rfl; exact out) fun _ _ => rfl
      exact ⟨sp.trans fall, by rw [record i rfl, gone]; rfl,
        fun m => out (afterFall_list (s := modReservation i (fun _ => Reservation.empty) s) _ m)⟩
    · exact ⟨sp, by rw [gone]; rfl, out⟩

/-! ### RESET (R115) -/

theorem handOver_slots {r : Reason} {b : Bool} : (handOver i r b s).cqr.slots = s.cqr.slots := by
  have mark (c : Cqr) : c.mark.slots = c.slots := by unfold Cqr.mark; split <;> rfl
  unfold handOver
  dsimp only
  split
  · rfl
  · exact (mark _).trans rfl

/-- The fill stopped with its bank let go, before its receiver is told. -/
theorem stopFill_spares {r : Reason} : Spares false (· = i) (modFp i Fps.closed (closeDraw i (takeReason i r s)))
    (letGoOfBank i (modFp i Fps.closed (closeDraw i (takeReason i r s)))) := by
  refine Spares.letGoOfBank (Spares.refl ?_)
  rintro _ rfl b
  simp [Fps.closed, Fps.waitsFor]

/-- What a fill is as its record is handed over: the sale's price and mass, and the parts that are not its own. -/
structure WoundUp (i : FpId) (s u : State) : Prop where
  runs : Runs false s u
  cqr : u.cqr = s.cqr
  refill : u.refill = s.refill
  pcm : u.pcm = s.pcm
  txn : ∀ x, (s.meter i).txn = some x → ∃ y, (u.meter i).txn = some y ∧ y.price = x.price ∧ y.mass = x.mass

theorem takeReason_wound {r : Reason} : WoundUp i s (takeReason i r s) := by
  refine ⟨(Runs.refl s).takeReason, takeReason_cqr .., takeReason_refill .., takeReason_pcm .., fun x e => ?_⟩
  rw [takeReason_meter, e]
  refine ⟨_, rfl, ?_, ?_⟩ <;> dsimp only <;> split <;> rfl

theorem WoundUp.trans (h : WoundUp i s u) (k : WoundUp i u v) : WoundUp i s v := by
  refine ⟨h.runs.trans k.runs, k.cqr.trans h.cqr, k.refill.trans h.refill, k.pcm.trans h.pcm, fun x e => ?_⟩
  obtain ⟨y, ey, p, m⟩ := h.txn x e
  obtain ⟨z, ez, p', m'⟩ := k.txn y ey
  exact ⟨z, ez, p'.trans p, m'.trans m⟩

/-- A change of other parts. -/
theorem WoundUp.of_same (r : Runs false s u) (m : (u.meter i) = s.meter i) (c : u.cqr = s.cqr := by rfl)
    (l : u.refill = s.refill := by rfl) (p : u.pcm = s.pcm := by rfl) : WoundUp i s u :=
  ⟨r, c, l, p, fun x e => ⟨x, by rw [m]; exact e, rfl, rfl⟩⟩

theorem stopFill_wound {r : Reason} : WoundUp i s (stopFill i r s) := by
  have draw (w : State) : WoundUp i w (closeDraw i w) := by
    refine ⟨by simp [Runs.refl], rfl, rfl, rfl, fun x e => ?_⟩
    rw [closeDraw, modTxn, modMeter_meter_self, e]
    exact ⟨_, rfl, rfl, rfl⟩
  have closed (w : State) : WoundUp i w (modFp i Fps.closed w) := .of_same (by simp [Runs.refl, Fps.closed]) rfl
  have before : WoundUp i s (modFp i Fps.closed (closeDraw i (takeReason i r s))) :=
    (takeReason_wound.trans (draw _)).trans (closed _)
  have k := stopFill_spares (i := i) (s := s) (r := r)
  exact before.trans ((WoundUp.of_same k.runs (k.meter i rfl) k.cqr k.refill (k.pcm rfl)).trans
    (.of_same (Runs.refl _).modLink rfl))

/-- A running or settling fill that is wound up is handed over. -/
theorem windUp_hands {r : Reason} {b : Bool} (h : (s.fp i).fill.running = true ∨ (s.fp i).fill = .settling) :
    ∃ y, WoundUp i s y ∧ windUp i r b s =
      handOver i (if (s.fp i).fill = .settling then (s.fp i).reason.getD r else r) b y := by
  have waits : WoundUp i s (endLink i (modFp i (fun f => { f with acquisition := none }) (takeReason i r s))) :=
    (takeReason_wound.trans (.of_same (by simp [Runs.refl]) rfl : WoundUp i (takeReason i r s)
      (modFp i (fun f => { f with acquisition := none }) (takeReason i r s)))).trans (.of_same (Runs.refl _).modLink rfl)
  unfold windUp
  cases e : (s.fp i).fill with
  | linkWait => exact ⟨_, waits, rfl⟩
  | precoolWait => exact ⟨_, waits, rfl⟩
  | leakCheck => exact ⟨_, stopFill_wound, rfl⟩
  | filling => exact ⟨_, stopFill_wound, rfl⟩
  | settling => exact ⟨modFp i (fun f => { f with settle := none }) s, .of_same (by simp [Runs.refl]) rfl, rfl⟩
  | idle | venting | complete | fault => rw [e] at h; rcases h with h | h <;> cases h

theorem windUp_rests {r : Reason} {b : Bool} (h : (s.fp i).fill.running = false) (n : (s.fp i).fill ≠ .settling) :
    windUp i r b s = modFp i (fun f => { f with vent := if (s.fp i).fill = .venting then none else f.vent }) s := by
  have same : s = modFp i (fun f => { f with vent := f.vent }) s := by simp [modFp, State.fp]
  unfold windUp
  cases e : (s.fp i).fill with
  | idle | complete | fault => exact same
  | venting => rfl
  | settling => exact absurd e n
  | linkWait | precoolWait | leakCheck | filling => rw [e] at h; cases h

/-- A change of state posts the fill's flag. -/
theorem setFill_changes {st : FillState} (n : (s.fp i).fill ≠ st) (h : st ≠ .filling) : setFill i st s =
    { s with fps := upd s.fps i { s.fp i with fill := st, sub := none }
             sli := { s.sli with summary := s.sli.summary ||| BitVec.twoPow 15 i.val } } := by
  rw [setFill_eq, if_neg n, if_neg h]

theorem cancelAuthorization_idle (h : (s.meter i).auth.state ≠ .pending) : cancelAuthorization i s = s := if_neg h

theorem cancelAuthorization_rest : (cancelAuthorization i s).fp = s.fp ∧ (cancelAuthorization i s).refill = s.refill := by
  unfold cancelAuthorization
  split <;> exact ⟨rfl, rfl⟩

/-- The fill wound up and IDLE. -/
def idled (i : FpId) (s : State) : State := setFill i .idle (modFp i Fps.toIdle (windUp i .reset false s))

/-- The fill as PCM is told of its RESET. -/
def beforeRelay (i : FpId) (s : State) : State := if (s.fp i).fill = .idle then cancelAuthorization i (idled i s) else idled i s

theorem idled_fp : (idled i s).fp i = { ((windUp i .reset false s).fp i).toIdle with fill := .idle, sub := none } := by
  rw [idled, setFill_fp, modFp_fp_self]; rfl

theorem idled_rest : (idled i s).cqr = (windUp i .reset false s).cqr ∧ (idled i s).meter i = (windUp i .reset false s).meter i ∧
    (idled i s).refill = (windUp i .reset false s).refill := by
  simp [idled]

theorem beforeRelay_fp : (beforeRelay i s).fp i = (idled i s).fp i := by
  unfold beforeRelay
  split
  · rw [cancelAuthorization_rest.1]
  · rfl

theorem beforeRelay_refill : (beforeRelay i s).refill = (idled i s).refill := by
  unfold beforeRelay
  split
  · exact cancelAuthorization_rest.2
  · rfl

theorem beforeRelay_runs : Runs false s (beforeRelay i s) := by
  have : Runs false s (idled i s) := ((Runs.refl s).windUp.modFp toIdle_entry).setFill
  unfold beforeRelay
  split
  · exact this.cancelAuthorization
  · exact this

/-- After its RESET a fuelling point is as it was wound up, has no record and stands in no list. -/
theorem resetFp_spares (w : s.WaitOk) : Spares true (· = i) (beforeRelay i s) (resetFp i s) ∧
    ((resetFp i s).reservation i).state = .noRecord ∧ i ∉ (resetFp i s).pcm.waitList :=
  releaseReservation_spares (s := beforeRelay i s) (beforeRelay_runs.wait w) fun b => by
    rw [beforeRelay_fp, idled_fp]; simp [Fps.waitsFor]

theorem windUp_refill : (windUp i .reset false s).refill = s.refill := by
  by_cases h : (s.fp i).fill.running = true ∨ (s.fp i).fill = .settling
  · obtain ⟨o, wound, e⟩ := windUp_hands (r := .reset) (b := false) h
    rw [e, handOver_refill, wound.refill]
  · rw [not_or, Bool.not_eq_true] at h
    rw [windUp_rests h.1 h.2]; rfl

/-- A fuelling point with no fill that runs or settles keeps its sale and its record. -/
theorem idled_rests (r : (s.fp i).fill.running = false) (n : (s.fp i).fill ≠ .settling) :
    (idled i s).cqr = s.cqr ∧ (idled i s).meter i = s.meter i := by
  obtain ⟨c, m, -⟩ := idled_rest (i := i) (s := s)
  rw [c, m, windUp_rests r n]
  exact ⟨rfl, rfl⟩

/-- The record of a fill that ran or settled is loaded. -/
theorem idled_loads {a : Txn} (live : (s.fp i).fill.running = true ∨ (s.fp i).fill = .settling) (ea : (s.meter i).txn = some a) :
    ((idled i s).meter i).auth = Auth.empty ∧ (idled i s).cqr.slots = s.cqr.slots ∧ ∃ q : Record,
      (idled i s).cqr.queue = s.cqr.queue ++ [q] ∧ q.number = s.cqr.nextNumber ∧ q.fp = i ∧ q.price = a.price ∧
      q.mass = a.mass ∧ q.amount = amountOf a.mass a.price ∧
      q.reason = if (s.fp i).fill = .settling then ((s.fp i).reason).getD .reset else .reset := by
  obtain ⟨c, m, -⟩ := idled_rest (i := i) (s := s)
  obtain ⟨o, wound, e⟩ := windUp_hands (r := .reset) (b := false) live
  obtain ⟨b, eb, price, mass⟩ := wound.txn a ea
  obtain ⟨auth, q, queue, number, fp, reason, qp, qm, qa, -⟩ := handOver_queue
    (if (s.fp i).fill = .settling then (s.fp i).reason.getD .reset else .reset) false b eb
  rw [c, m, e]
  refine ⟨auth, ?_, q, queue.trans (by rw [wound.cqr]), number.trans (by rw [wound.cqr]), fp, qp.trans price, qm.trans mass,
    by rw [qa, price, mass], reason⟩
  rw [handOver_slots, wound.cqr]

/-- Settles O40: the fill wound up, the authorization of an idle one cancelled, then PCM told. -/
theorem clearFaultAndReset : Obligations.ClearFaultAndReset := by
  intro s i loaded
  refine ⟨fun f h => ?_, fun w => ?_⟩
  · refine answers_of rfl (((fpCommand_loaded loaded).trans (if_pos ⟨f, h⟩)).trans (congrArg accept ?_))
    have n : ((modFp i (fun f => { f with ventFail := false }) s).fp i).fill ≠ .idle := by rw [modFp_fp_self, f]; decide
    rw [setFill_changes n (by decide), modFp_fp_self]
    simp only [modFp, upd_upd]
  · obtain ⟨sp, gone, out⟩ := resetFp_spares (i := i) w
    have run : Runs false s (resetFp i s) := beforeRelay_runs.trans sp.runs
    have ufp : (resetFp i s).fp i = _ := ((sp.fp i rfl).trans beforeRelay_fp).trans idled_fp
    have umeter := sp.meter i rfl
    have ucqr := sp.cqr
    have urefill := ((sp.refill.trans beforeRelay_refill).trans idled_rest.2.2).trans windUp_refill
    refine ⟨resetFp i s, answers_of rfl (fpCommand_loaded loaded), ?_⟩
    generalize resetFp i s = u at *
    generalize (windUp i .reset false s).fp i = f at ufp
    refine ⟨by rw [ufp], by rw [ufp], by rw [ufp]; rfl, by rw [ufp]; rfl, by rw [ufp]; rfl, by rw [ufp]; rfl, by rw [ufp]; rfl,
      by rw [ufp]; rfl, by rw [ufp]; rfl, by rw [ufp]; rfl, by rw [ufp]; rfl, by rw [ufp]; rfl, by rw [ufp]; rfl,
      by rw [ufp]; rfl, by rw [ufp]; rfl, by rw [ufp]; rfl, run.fixed, run.banks rfl, urefill, gone, out,
      fun idle pend => ?_, fun h => ?_, fun a ea n1 n2 n3 n4 => ?_⟩
    · obtain ⟨c, m⟩ := idled_rests (i := i) (s := s) (by rw [idle]; rfl) (by rw [idle]; decide)
      have : beforeRelay i s = _ := (if_pos idle).trans (cancelAuthorization_pending (by rw [m]; exact pend))
      rw [umeter, ucqr, this, ← c]
      exact ⟨by simp [State.meter], rfl⟩
    · have quiet : (s.fp i).fill.running = false ∧ (s.fp i).fill ≠ .settling := by
        rcases h with ⟨h, -⟩ | h | h | h <;> rw [h] <;> decide
      obtain ⟨c, m⟩ := idled_rests quiet.1 quiet.2
      have : beforeRelay i s = idled i s := by
        unfold beforeRelay
        split
        · next idle =>
          refine cancelAuthorization_idle ?_
          rw [m]
          rcases h with ⟨-, h⟩ | h | h | h
          · exact h
          all_goals rw [h] at idle; cases idle
        · rfl
      rw [umeter, ucqr, this]
      exact ⟨c, m⟩
    · have live : (s.fp i).fill.running = true ∨ (s.fp i).fill = .settling := by
        cases e : (s.fp i).fill <;> first | exact .inl rfl | exact .inr rfl | contradiction
      have : beforeRelay i s = idled i s := if_neg n1
      rw [umeter, ucqr, this]
      exact idled_loads live ea

end Sys2Proof.Machine
end

section
/-!
PROOFS. The channels: samples and falls reach their consumers (chapter 1); the ambient bands.
-/
namespace Sys2Proof.Machine

variable {i j : FpId} {k : CompId} {s t u v : State} {ch : ChanId}

/-! ### Samples and falls (R3 to R7) -/

section Sample
variable {raw n : Nat} {c : Instr} {bd : Binding} {x : Channel}

/-- A plausible sample is kept and delivered. -/
theorem takeSample_accepts (b : (s.chan ch).binding ≠ .unused) (p : (s.chan ch).plausible ((s.chan ch).scaled raw) = true) :
    takeSample ch raw s = deliver (s.chan ch).binding ((s.chan ch).scaled raw)
      { s with chans := upd s.chans ch { s.chan ch with
          value := (s.chan ch).scaled raw, status := .good, failCount := 0, staleTimer := some 10, lastSample := s.site.clock } } := by
  unfold takeSample
  dsimp only
  rw [if_neg b, if_pos p]
  simp only [modChan, upd_upd]
  congr 2
  simp [State.chan, Channel.arrived, Channel.accept, Config.staleness]

/-- An implausible sample is counted. -/
theorem takeSample_rejects (b : (s.chan ch).binding ≠ .unused) (p : (s.chan ch).plausible ((s.chan ch).scaled raw) = false) :
    takeSample ch raw s = fallFrom ch (s.chan ch)
      { s with chans := upd s.chans ch { s.chan ch with
          failCount := min 3 ((s.chan ch).failCount + 1), staleTimer := some 10, lastSample := s.site.clock
          status := if 3 ≤ (s.chan ch).failCount + 1 then .failed else (s.chan ch).status } } := by
  unfold takeSample
  dsimp only
  rw [if_neg b, if_neg (by rw [p]; decide)]
  simp only [modChan, upd_upd]
  congr 2
  simp [State.chan, Channel.arrived, Channel.reject, Config.staleness]

theorem takeSample_unused (b : (s.chan ch).binding = .unused) : takeSample ch raw s = s := if_pos b

theorem goStale_eq : goStale ch s = fallFrom ch (s.chan ch)
    { s with chans := upd s.chans ch { s.chan ch with status := .stale, staleTimer := none } } := rfl

/-- The channel of a state whose channel was replaced. -/
theorem chan_upd {x : Channel} : State.chan { s with chans := upd s.chans ch x } ch = x := sel_upd_self ..

/-- A channel that was GOOD and is not tells its consumers. -/
theorem fallFrom_tells {x : Channel} (good : (s.chan ch).status = .good) (bad : x.status ≠ .good) :
    fallFrom ch (s.chan ch) { s with chans := upd s.chans ch x } = tellHeld x.binding x.value (s.fallen ch x) := by
  unfold fallFrom
  dsimp only
  rw [chan_upd, if_pos ⟨good, bad⟩, good]
  have : (x.status != .good) = true := by simpa using bad
  rw [this]
  rfl

/-- A fall posts CHANNEL_FAIL. -/
theorem fallFrom_posts {x : Channel} (h : ((s.chan ch).status = .good ∧ x.status ≠ .good) ∨
    ((s.chan ch).status = .stale ∧ x.status = .failed)) :
    (fallFrom ch (s.chan ch) { s with chans := upd s.chans ch x }).sli.summary.getLsbD 11 = true := by
  have b : (((s.chan ch).status == .good && x.status != .good) || ((s.chan ch).status == .stale && x.status == .failed)) = true := by
    simpa using h
  have posted : (s.fallen ch x).sli.summary.getLsbD 11 = true := by simp [State.fallen]
  unfold fallFrom
  dsimp only
  rw [chan_upd, b]
  split
  · exact (Runs.refl (w := true) _).tellHeld.posts 11 posted
  · exact posted

theorem fallFrom_fixed {x : Channel} : (fallFrom ch (s.chan ch) { s with chans := upd s.chans ch x }).fixed =
    { s.fixed with chans := upd s.chans ch x } := Runs.fallFrom.fixed

/-- Where no notice waits an event ends as it stands. -/
theorem exec_settled (e : exec c s = .next (settle u)) (h : u.csInbox = []) : exec c s = .next u := by
  rwa [settle_nil u h] at e

theorem exec_delivers (h : s.Delivers ch bd c n x) (b : bd ≠ .unused) :
    exec c s = .next (settle (deliver bd n { s with chans := upd s.chans ch x })) := by
  obtain ⟨⟨raw, rfl, hn⟩, rfl, p, rfl⟩ := h
  rw [hn] at p
  subst hn
  exact congrArg (Host.Outcome.next ∘ settle) (takeSample_accepts b p)

theorem exec_falls (h : s.FallsHeld ch bd c x) (b : bd ≠ .unused) :
    exec c s = .next (settle (tellHeld bd x.value (s.fallen ch x))) := by
  obtain ⟨rfl, good, ⟨rfl, d, rfl⟩ | ⟨raw, rfl, p, n, rfl⟩⟩ := h
  · refine exec_pos rfl ((due_iff _).mpr d) |>.trans (congrArg (Host.Outcome.next ∘ settle) ?_)
    exact fallFrom_tells good nofun
  · refine congrArg (Host.Outcome.next ∘ settle) ((takeSample_rejects b p).trans ?_)
    rw [if_pos (by omega), show min 3 ((s.chan ch).failCount + 1) = 3 by omega]
    exact fallFrom_tells good nofun

end Sample

/-! ### The bands (R78, R129, R130) -/

/-- What a band does to a fill's record. -/
structure Banded (ramp : Vector RampRow 120) (b : Band) (f g : Fps) : Prop where
  kept : f.band = b ∨ f.fill ≠ .filling → g = { f with band := b }
  staged : ∀ a cl, f.band ≠ b → f.fill = .filling → f.active = some a →
    (f.switchPending = true → f.pendingEntry.map (·.cls) = some cl) → (f.switchPending = false → cl = a.cls) →
    let t' := f.category.getD f.entry.category
    let row := sel ramp (rampIndex cl f.entry.pressureClass b t')
    (cl = a.cls → b = a.band → g = { f with band := b, pendingEntry := none, switchPending := false }) ∧
    (cl ≠ a.cls ∨ b ≠ a.band → g = { f with
      band := b, switchPending := true
      pendingEntry := some { cls := cl, band := b, category := t', rate := row.rate, endPressure := row.endPressure } })

/-- A staging moves the fill's own record alone. -/
theorem stage_eq {cl : PrecoolClass} {a : RampEntry} (h : (s.fp i).active = some a) : stage i cl s =
    if a.cls = cl ∧ a.band = (s.fp i).band then modFp i (fun f => { f with pendingEntry := none, switchPending := false }) s
    else modFp i (fun f => { f with pendingEntry := some (s.buildEntry i cl (s.fp i).band), switchPending := true }) s := by
  unfold stage
  dsimp only
  rw [h]
  rfl

theorem stage_none {cl : PrecoolClass} (h : (s.fp i).active = none) : stage i cl s = s := by
  unfold stage
  dsimp only
  rw [h]

theorem fpsBand_local {b : Band} : fpsBand i b s = { s with fps := upd s.fps i ((fpsBand i b s).fp i) } := by
  have refl (w : State) : w = { w with fps := upd w.fps i (w.fp i) } := by simp [State.fp]
  have mod (w : State) (g : Fps → Fps) : modFp i g w = { w with fps := upd w.fps i ((modFp i g w).fp i) } := by
    rw [modFp_fp_self]; rfl
  have twice (g h : Fps → Fps) : modFp i h (modFp i g s) = { s with fps := upd s.fps i ((modFp i h (modFp i g s)).fp i) } := by
    rw [modFp_fp_self, modFp_fp_self]; simp [modFp, State.fp]
  unfold fpsBand
  dsimp only
  split
  · exact refl s
  · split
    · split
      · unfold stage
        dsimp only
        split
        · split <;> exact twice _ _
        · exact mod _ _
      · exact mod _ _
    · exact mod _ _

theorem fpsBand_banded {b : Band} : Banded s.ramp b (s.fp i) ((fpsBand i b s).fp i) := by
  have banded : (modFp i (fun f => { f with band := b }) s).fp i = { s.fp i with band := b } := modFp_fp_self ..
  refine ⟨fun h => ?_, fun a cl n fill act pend idle => ?_⟩
  · unfold fpsBand
    dsimp only
    split
    · next e => rw [← e]
    · next n =>
      rw [if_neg (by rw [banded]; exact h.resolve_left n), banded]
  · have cls : ((modFp i (fun f => { f with band := b }) s).fp i).stagedClass = some cl := by
      rw [banded]
      unfold Fps.stagedClass
      dsimp only
      cases e : (s.fp i).switchPending with
      | true => exact pend e
      | false => rw [idle e, act]; rfl
    have e : fpsBand i b s = stage i cl (modFp i (fun f => { f with band := b }) s) := by
      unfold fpsBand
      dsimp only
      rw [if_neg n, if_pos (by rw [banded]; exact fill), cls]
    rw [e, stage_eq (a := a) (by rw [banded]; exact act), banded]
    dsimp only
    refine ⟨fun c d => ?_, fun c => ?_⟩
    · rw [if_pos ⟨c.symm, d.symm⟩, modFp_fp_self, banded]
    · rw [if_neg (fun ⟨c', d'⟩ => c.elim (· c'.symm) (· d'.symm)), modFp_fp_self, banded]
      have row : (modFp i (fun f => { f with band := b }) s).buildEntry i cl b =
          { cls := cl, band := b, category := (s.fp i).category.getD (s.fp i).entry.category,
            rate := (sel s.ramp (rampIndex cl (s.fp i).entry.pressureClass b
              ((s.fp i).category.getD (s.fp i).entry.category))).rate,
            endPressure := (sel s.ramp (rampIndex cl (s.fp i).entry.pressureClass b
              ((s.fp i).category.getD (s.fp i).entry.category))).endPressure } := by
        unfold State.buildEntry State.rampRow Fps.cat
        rw [banded]
        rfl
      rw [row]

theorem bandAll {b : Band} (l : List FpId) (d : l.Nodup) (s : State) :
    let u := l.foldl (fun s i => fpsBand i b s) s
    u = { s with fps := u.fps } ∧ (∀ j, j ∉ l → u.fp j = s.fp j) ∧ ∀ j ∈ l, Banded s.ramp b (s.fp j) (u.fp j) := by
  induction l generalizing s with
  | nil => exact ⟨rfl, fun _ _ => rfl, nofun⟩
  | cons i l ih =>
    obtain ⟨out, d⟩ := List.nodup_cons.mp d
    have e := fpsBand_local (i := i) (s := s) (b := b)
    have other (j) (n : j ≠ i) : (fpsBand i b s).fp j = s.fp j := by
      rw [e]; exact sel_upd_ne _ _ _ _ n.symm
    have ramp : (fpsBand i b s).ramp = s.ramp := by rw [e]
    obtain ⟨rest, kept, done⟩ := ih d (fpsBand i b s)
    refine ⟨?_, fun j m => ?_, fun j m => ?_⟩
    · rw [List.foldl_cons, rest, e]
    · rw [List.mem_cons, not_or] at m
      exact (kept j m.2).trans (other j m.1)
    · rcases List.mem_cons.mp m with rfl | m
      · rw [List.foldl_cons, kept j out]; exact fpsBand_banded
      · have n : j ≠ i := fun h => out (h ▸ m)
        have := done j m
        rwa [ramp, other j n] at this

theorem pcmBand_alone {b : Band} (w : s.pcm.waitList = []) : pcmBand b s = { s with pcm := { s.pcm with band := b } } := by
  unfold pcmBand
  split
  · next h => rw [← h]
  · have : (modPcm (fun p => { p with band := b }) s).pcm.waitList = [] := w
    rw [evalHead, this]
    rfl

/-- A band placed where nobody waits for cold. -/
theorem placeBands {b : Band} (w : s.pcm.waitList = []) : ∃ fps, pcmBand b (allFps.foldl (fun s i => fpsBand i b s) s) =
    { s with pcm := { s.pcm with band := b }, fps := fps } ∧ ∀ j, Banded s.ramp b (s.fp j) (sel fps j) := by
  obtain ⟨rest, -, done⟩ := bandAll (b := b) allFps (by decide) s
  generalize allFps.foldl (fun s i => fpsBand i b s) s = u at *
  have pcm : u.pcm = s.pcm := by rw [rest]
  refine ⟨u.fps, ?_, fun j => done j (mem_allFps j)⟩
  rw [pcmBand_alone (by rw [pcm]; exact w), rest]

/-- Settles O45: the channel, then its consumers, which move no channel. -/
theorem samplesMoveTheChannel : Obligations.SamplesMoveTheChannel := by
  intro s ch c becomes
  have of (i : Instr) (x : Channel) (falls : Prop) (e : exec i s = .next (settle (fallFrom ch c { s with chans := upd s.chans ch x })))
      (h : falls → (c.status = .good ∧ x.status ≠ .good) ∨ (c.status = .stale ∧ x.status = .failed)) : becomes i x falls :=
    ⟨_, e, (Runs.refl (w := false) _).settle.fixed.trans fallFrom_fixed,
      fun f => (Runs.refl (w := false) _).settle.posts 11 (fallFrom_posts (h f))⟩
  refine ⟨fun d => of _ _ _ (exec_pos rfl ((due_iff _).mpr d)) fun g => .inl ⟨g, nofun⟩,
    fun n => exec_neg rfl fun d => n ((due_iff _).mp d), fun raw => ⟨fun un => ?_, fun b => ?_⟩, ?_⟩
  · have e : exec (.sampleArrival ch raw) s = .next (settle s) := congrArg (Host.Outcome.next ∘ settle) (takeSample_unused un)
    exact ⟨_, e, (Runs.refl (w := false) _).settle.fixed, fun q => settle_nil s q⟩
  · intro v
    have scaled : c.scaled raw.toNat = v := by simp [Channel.scaled, roundDiv, v]
    have plaus : c.plausible v = true ↔ c.plausLow ≤ v ∧ v ≤ c.plausHigh := inRange_iff ..
    refine ⟨fun lo hi => ?_, fun out => ?_⟩
    · have e := takeSample_accepts (s := s) (raw := raw.toNat) b (by rw [scaled]; exact plaus.mpr ⟨lo, hi⟩)
      rw [scaled] at e
      exact ⟨_, congrArg (Host.Outcome.next ∘ settle) e, ((Runs.refl (w := true) _).deliver.settle).fixed, nofun⟩
    · have no : c.plausible v = false := by
        rw [← Bool.not_eq_true, plaus]; omega
      refine of _ _ _ (congrArg (Host.Outcome.next ∘ settle) (takeSample_rejects b (by rw [scaled]; exact no))) fun ⟨h, n⟩ => ?_
      rw [if_pos h]
      cases e : c.status with
      | good => exact .inl ⟨rfl, nofun⟩
      | stale => exact .inr ⟨rfl, rfl⟩
      | failed => exact absurd e n
  · intro places
    refine ⟨fun i v x box w d => ?_, fun i x box w d => ?_⟩
    · obtain ⟨fps, e, each⟩ := placeBands (s := { s with chans := upd s.chans ch x }) (b := bandFor v) w
      have run := exec_delivers d (by decide)
      rw [show deliver .ambientT v _ = _ from e] at run
      exact ⟨_, exec_settled run box, rfl, fun j => ⟨(each j).kept, (each j).staged⟩⟩
    · obtain ⟨fps, e, each⟩ := placeBands (s := s.fallen ch x) (b := .a5) w
      have run := exec_falls d (by decide)
      rw [show tellHeld .ambientT x.value _ = _ from e] at run
      exact ⟨_, exec_settled run box, rfl, fun j => ⟨(each j).kept, (each j).staged⟩⟩

end Sys2Proof.Machine
end

section
/-!
PROOFS. The cascade: how a fill lets go of its bank and goes on to the next (3.6, 6.5, 7.7).
-/
namespace Sys2Proof.Machine

variable {i j : FpId} {k : CompId} {s t u v : State} {b c x : BankId}

/-! ### A bank let go (R52, R53) -/

theorem postIf_stacked {q : Bool} {n : Nat} : (postIf q n s).stacked = s.stacked := by unfold postIf; split <;> rfl

theorem fpsTake_stacked : (fpsTake j b s).stacked = s.stacked := by
  unfold fpsTake
  dsimp only
  split
  · split <;> rfl
  · exact postIf_stacked
  all_goals rfl

theorem tellGranted_stacked {r : Requester} : (tellGranted r b s).1.stacked = s.stacked := by
  unfold tellGranted
  split
  · split
    · exact fpsTake_stacked
    · rfl
  · split
    · exact postIf_stacked
    · rfl

/-- A competition moves no other bank's holder or set. -/
theorem competeFor_other {n : Nat} (h : c ≠ b) : (competeFor n b s).holderOf c = s.holderOf c ∧
    (competeFor n b s).stackedAt c = s.stackedAt c := by
  induction n generalizing s with
  | zero => exact ⟨rfl, rfl⟩
  | succ n ih =>
    unfold competeFor
    split
    · exact ⟨rfl, rfl⟩
    · next r e =>
      let w := setHolder b (some r) (setStacked b ((s.stackedAt b).erase r) s)
      have told : (tellGranted r b w).1.holderOf c = s.holderOf c ∧ (tellGranted r b w).1.stackedAt c = s.stackedAt c := by
        unfold State.holderOf State.stackedAt
        rw [tellGranted_holder, tellGranted_stacked]
        exact ⟨sel_upd_ne _ _ _ _ h.symm, sel_upd_ne _ _ _ _ h.symm⟩
      dsimp only
      split
      · obtain ⟨a, d⟩ := ih (s := setHolder b none (tellGranted r b w).1)
        refine ⟨a.trans (Eq.trans ?_ told.1), d.trans told.2⟩
        exact sel_upd_ne _ _ _ _ h.symm
      · exact told

theorem letGo_other {r : Requester} (h : c ≠ b) : (letGo r b s).holderOf c = s.holderOf c ∧
    (letGo r b s).stackedAt c = s.stackedAt c := by
  have released : (releaseBank r b s).holderOf c = s.holderOf c ∧ (releaseBank r b s).stackedAt c = s.stackedAt c := by
    unfold releaseBank compete
    split
    · split
      · obtain ⟨a, d⟩ := competeFor_other (s := setHolder b none s) (n := ((setHolder b none s).stackedAt b).length) h
        exact ⟨a.trans (sel_upd_ne _ _ _ _ h.symm), d⟩
      · exact ⟨sel_upd_ne _ _ _ _ h.symm, rfl⟩
    · exact ⟨rfl, rfl⟩
  exact ⟨released.1, (sel_upd_ne _ _ _ _ h.symm).trans released.2⟩

/-- A requester that lets go of a bank stands in its set no longer. -/
theorem letGo_out {r : Requester} (a : s.ArbiterOk) : r ∉ (letGo r b s).stackedAt b := by
  have once := ((Runs.refl (w := false) s).releaseBank (r := r) (b := b)).arb a |>.once b
  rw [letGo, withdrawBank]
  simp only [setStacked_stackedAt, if_pos]
  exact once.not_mem_erase

/-! ### The choice of a bank (R102, R103, R137 to R139) -/

theorem bankOk_iff : s.bankOk i x = true ↔ s.Serves i x := by
  unfold State.bankOk State.stepOk State.leakOk State.pushes State.Serves
  split
  · next h => simp [h, and_assoc]
  · next h => simp [h]

theorem usableFor_fp : (s.bank x).usableFor (fpReq i) = (s.bank x).usableDraw := by
  rw [Bank.usableFor, reqUnit_fpReq]

/-- Banks that do not qualify are passed over. -/
theorem tryBanks_skip {why : Reason} {before rest : List BankId} (h : ∀ y ∈ before, ¬ s.Serves i y) :
    tryBanks i (before ++ rest) why s = tryBanks i rest why s := by
  induction before with
  | nil => rfl
  | cons y l ih =>
    have n : s.bankOk i y = false := by
      rw [← Bool.not_eq_true, bankOk_iff]; exact h y List.mem_cons_self
    rw [List.cons_append, tryBanks, n]
    exact ih fun z m => h z (List.mem_cons_of_mem _ m)

theorem tryBanks_none {why : Reason} {l : List BankId} (h : ∀ y ∈ l, ¬ s.Serves i y) : tryBanks i l why s = closeFill i why s := by
  have := tryBanks_skip (why := why) (rest := []) h
  rwa [List.append_nil, tryBanks] at this

/-- The fill as it asks for a bank. -/
def asksFor (i : FpId) (x : BankId) (s : State) : State := modFp i (fun f => { f with cascadePos := some x }) s

theorem requestBank_asks (h : s.Serves i x) (e : s.engaged (fpReq i) = false) : requestBank (fpReq i) x (asksFor i x s) =
    if s.holderOf x = none ∧ s.stackedAt x = [] then (setHolder x (some (fpReq i)) (asksFor i x s), .granted)
    else (setStacked x (insertReq (fpReq i) (s.stackedAt x)) (asksFor i x s), .stacked) := by
  have ok : (!((asksFor i x s).bank x).usableFor (fpReq i) || (asksFor i x s).engaged (fpReq i)) = false := by
    rw [usableFor_fp, show (asksFor i x s).engaged (fpReq i) = false from e]
    simp [asksFor, show (s.bank x).usableDraw = true from h.1]
  rw [requestBank, ok]
  simp [asksFor]

/-- A bank that qualifies and is free is taken. -/
theorem tryBanks_takes {why : Reason} {l : List BankId} (h : s.Serves i x) (e : s.engaged (fpReq i) = false)
    (free : s.holderOf x = none ∧ s.stackedAt x = []) :
    tryBanks i (x :: l) why s = fpsTake i x (setHolder x (some (fpReq i)) (asksFor i x s)) := by
  have asks := requestBank_asks h e
  rw [if_pos free, asksFor] at asks
  rw [tryBanks, if_pos (bankOk_iff.mpr h)]
  dsimp only
  rw [asks]
  rfl

/-- The fill as it waits for a bank. -/
def waitsFor (i : FpId) (x : BankId) (s : State) : State :=
  modFp i (fun f => { f with link := .stacked, bankWait := some s.site.params.bankWait })
    (setStacked x (insertReq (fpReq i) (s.stackedAt x)) (asksFor i x s))

/-- One that is not free is waited for. -/
theorem tryBanks_stacks {why : Reason} {l : List BankId} (h : s.Serves i x) (e : s.engaged (fpReq i) = false)
    (taken : ¬ (s.holderOf x = none ∧ s.stackedAt x = [])) :
    tryBanks i (x :: l) why s =
      if (s.fp i).fill = .filling then rederive i (waitsFor i x s) else waitsFor i x s := by
  have asks := requestBank_asks h e
  rw [if_neg taken, asksFor] at asks
  have fill : ((waitsFor i x s).fp i).fill = (s.fp i).fill := by simp [waitsFor, asksFor]
  rw [tryBanks, if_pos (bankOk_iff.mpr h), ← fill]
  dsimp only
  rw [asks]
  rfl

/-- The parts of a fill's record that name its bank. -/
structure Linked (f : Fps) (fill : FillState) (x : BankId) (l : BankLink) (w : Timer) : Prop where
  fill : f.fill = fill
  pos : f.cascadePos = some x
  link : f.link = l
  wait : f.bankWait = w

theorem Linked.rederive {fill : FillState} {l : BankLink} {w : Timer} (h : Linked (s.fp i) fill x l w) :
    Linked ((rederive i s).fp i) fill x l w := by
  rw [Machine.rederive, setSub_eq]
  show Linked (sel (upd s.fps i _) i) fill x l w
  rw [sel_upd_self]
  unfold flowTimers
  split <;> (try split) <;> exact ⟨h.fill, h.pos, h.link, h.wait⟩

theorem fpsTake_linked (p : (s.fp i).cascadePos = some x) : Linked ((fpsTake i x s).fp i) (s.fp i).fill x .granted none := by
  have g : Linked ((openDraw i x (modFp i (fun f => { f with link := .granted, bankWait := none }) s)).fp i) (s.fp i).fill x
      .granted none := by
    simp only [openDraw, modTxn, modMeter_fp, modFp_fp_self]
    exact ⟨rfl, p, rfl, rfl⟩
  unfold fpsTake
  dsimp only
  split
  · split
    · exact g
    · rw [beginPulse, modFp_fp_self]
      exact ⟨g.fill, g.pos, g.link, g.wait⟩
  · exact g.rederive
  all_goals exact g

theorem rederive_arbiter : (rederive i s).holder = s.holder ∧ (rederive i s).stacked = s.stacked := by
  rw [rederive, setSub_eq]
  exact ⟨rfl, rfl⟩

/-- The fill of `i` let go of bank `b` from `s` to `u`, and asks for no other yet. -/
structure LetGoOf (i : FpId) (b : BankId) (s u : State) : Prop where
  alike : Alike i s u
  pcm : u.pcm = s.pcm
  fill : (u.fp i).fill = (s.fp i).fill
  nozzle : (u.fp i).nozzle = (s.fp i).nozzle
  others : ∀ c, c ≠ b → u.holderOf c = s.holderOf c ∧ u.stackedAt c = s.stackedAt c
  free : ∀ c, u.holderOf c ≠ some (fpReq i) ∧ fpReq i ∉ u.stackedAt c
  arb : u.ArbiterOk

theorem engaged_false {r : Requester} (h : ∀ c, s.holderOf c ≠ some r ∧ r ∉ s.stackedAt c) : s.engaged r = false := by
  unfold State.engaged
  simp only [List.any_eq_false, Bool.or_eq_true, beq_iff_eq, List.contains_iff_mem, not_or]
  exact fun c _ => h c

theorem fixed_fp (h : u.fixed = s.fixed) : (u.fp i).entry = (s.fp i).entry ∧ (u.fp i).loaded = (s.fp i).loaded := by
  have e := congrArg (fun f => sel (Fixed.fps f) i) h
  have a (w : State) : sel (Fixed.fps w.fixed) i = ((w.fp i).entry, (w.fp i).loaded) := sel_map _ _ _
  simp only [a, Prod.mk.injEq] at e
  exact e

/-- No bank after `b` is `b`. -/
theorem not_mem_afterBank {l : List BankId} (d : l.Nodup) : b ∉ afterBank b l := by
  unfold afterBank
  induction l with
  | nil => simp
  | cons y l ih =>
    obtain ⟨n, d⟩ := List.nodup_cons.mp d
    rw [List.dropWhile_cons]
    split
    · exact ih d
    · next h =>
      have : y = b := by simpa using h
      exact this ▸ n

theorem LetGoOf.serves (h : LetGoOf i b s u) : u.Serves i x ↔ s.Serves i x := by
  have bank : u.bank x = s.bank x := congrArg (fun v => sel v x) h.alike.banks
  unfold State.Serves
  rw [bank, h.nozzle, h.alike.site, h.fill]

/-- A fill that let go of bank `b` and has asked for bank `x`. -/
structure Found (i : FpId) (b x : BankId) (s t : State) : Prop where
  away : t.holderOf b ≠ some (fpReq i) ∧ fpReq i ∉ t.stackedAt b
  fill : (t.fp i).fill = (s.fp i).fill
  pos : (t.fp i).cascadePos = some x
  takes : s.holderOf x = none → s.stackedAt x = [] → t.holderOf x = some (fpReq i) ∧ (t.fp i).link = .granted ∧
    (t.fp i).bankWait = none
  waits : s.holderOf x ≠ none ∨ s.stackedAt x ≠ [] → fpReq i ∈ t.stackedAt x ∧ (t.fp i).link = .stacked ∧
    (t.fp i).bankWait = some s.site.params.bankWait

theorem Found.of_waits {w' w : State} {fill : FillState} (l : Linked (w'.fp i) fill x .stacked (some s.site.params.bankWait))
    (f : fill = (s.fp i).fill) (ho : w'.holder = w.holder) (st : w'.stacked = w.stacked)
    (away : w.holderOf b ≠ some (fpReq i) ∧ fpReq i ∉ w.stackedAt b) (m : fpReq i ∈ w.stackedAt x)
    (n : ¬ (s.holderOf x = none ∧ s.stackedAt x = [])) : Found i b x s w' := by
  refine ⟨?_, l.fill.trans f, l.pos, fun a c => absurd ⟨a, c⟩ n, fun _ => ⟨?_, l.link, l.wait⟩⟩
  · unfold State.holderOf State.stackedAt
    rw [ho, st]; exact away
  · unfold State.stackedAt
    rw [st]; exact m

theorem LetGoOf.finds {why : Reason} {later : List BankId} (h : LetGoOf i b s u) (sx : s.Serves i x) (n : x ≠ b) :
    Found i b x s (tryBanks i (x :: later) why u) := by
  have serves := h.serves.mpr sx
  have free := engaged_false h.free
  obtain ⟨hx, sxs⟩ := h.others x n
  by_cases e : u.holderOf x = none ∧ u.stackedAt x = []
  · rw [tryBanks_takes serves free e]
    have linked := fpsTake_linked (s := setHolder x (some (fpReq i)) (asksFor i x u)) (i := i) (x := x) (by simp [asksFor])
    have fill : ((setHolder x (some (fpReq i)) (asksFor i x u)).fp i).fill = (s.fp i).fill := by
      rw [setHolder_fp, asksFor, modFp_fp_self]; exact h.fill
    refine ⟨?_, linked.fill.trans fill, linked.pos, fun _ _ => ⟨?_, linked.link, linked.wait⟩, fun c => ?_⟩
    · unfold State.holderOf State.stackedAt
      rw [fpsTake_holder, fpsTake_stacked]
      exact ⟨fun q => (h.free b).1 ((sel_upd_ne _ _ _ _ n).symm.trans q), (h.free b).2⟩
    · unfold State.holderOf
      rw [fpsTake_holder]
      exact sel_upd_self ..
    · rw [hx, sxs] at e
      exact (c.elim (· e.1) (· e.2)).elim
  · rw [tryBanks_stacks serves free e]
    have waits : Linked ((Machine.waitsFor i x u).fp i) (s.fp i).fill x .stacked (some s.site.params.bankWait) := by
      rw [← h.alike.site]
      simp only [Machine.waitsFor, asksFor, modFp_fp_self, setStacked_fp]
      exact ⟨h.fill, rfl, rfl, rfl⟩
    have away : (Machine.waitsFor i x u).holderOf b ≠ some (fpReq i) ∧ fpReq i ∉ (Machine.waitsFor i x u).stackedAt b := by
      refine ⟨(h.free b).1, ?_⟩
      show fpReq i ∉ sel (upd u.stacked x _) b
      rw [sel_upd_ne _ _ _ _ n]; exact (h.free b).2
    have inn : fpReq i ∈ (Machine.waitsFor i x u).stackedAt x := by
      show fpReq i ∈ sel (upd u.stacked x _) x
      rw [sel_upd_self, mem_insertReq]; exact .inl rfl
    rw [hx, sxs] at e
    split
    · exact .of_waits waits.rederive rfl rederive_arbiter.1 rederive_arbiter.2 away inn e
    · exact .of_waits waits rfl rfl rfl away inn e

/-- A fill that let go of its bank goes on along its cascade list. -/
theorem LetGoOf.goesOn {why : Reason} (h : LetGoOf i b s u) (pos : (s.fp i).cascadePos = some b)
    (d : (s.fp i).entry.cascade.Nodup) : s.GoesOn (tryAfter i why u) i b why := by
  have e : tryAfter i why u = tryBanks i (afterBank b (s.fp i).entry.cascade) why u := by
    unfold tryAfter
    rw [h.alike.pos.trans pos, (fixed_fp (i := i) h.alike.fixed).1]
  have ne (before x later) (split : afterBank b (s.fp i).entry.cascade = before ++ x :: later) : x ≠ b := fun q =>
    not_mem_afterBank d (q ▸ split ▸ List.mem_append_right _ List.mem_cons_self)
  have skip (before x later) (split : afterBank b (s.fp i).entry.cascade = before ++ x :: later)
      (nb : ∀ y ∈ before, ¬ s.Serves i y) : tryAfter i why u = tryBanks i (x :: later) why u := by
    rw [e, split, tryBanks_skip fun y m => mt h.serves.mp (nb y m)]
  have closes (none : ∀ y ∈ afterBank b (s.fp i).entry.cascade, ¬ s.Serves i y) : tryAfter i why u = closeFill i why u :=
    e.trans (tryBanks_none fun y m => mt h.serves.mp (none y m))
  refine ⟨?_, fun none => ?_, fun before x later split nb sx => ?_⟩
  · cases f : (afterBank b (s.fp i).entry.cascade).find? (s.bankOk i) with
    | none =>
      rw [closes fun y m => mt bankOk_iff.mpr (List.find?_eq_none.mp f y m)]
      refine ⟨((closeFill_closes why).back h.alike h.pcm).bank.2 b pos, ?_⟩
      rw [closeFill_eq, endLink, modLink_stackedAt, letGoOfBank]
      rw [show ((beforeRelease i why u).fp i).cascadePos = some b by rw [beforeRelease_fp]; exact h.alike.pos.trans pos]
      exact letGo_out ((beforeRelease_runs why).arb h.arb)
    | some x =>
      obtain ⟨ok, before, later, split, nb⟩ := List.find?_eq_some_iff_append.mp f
      rw [skip before x later split fun y m => mt bankOk_iff.mpr (by simpa using nb y m)]
      exact (h.finds (bankOk_iff.mp ok) (ne _ _ _ split)).away
  · rw [closes none]
    exact (closeFill_closes why).back h.alike h.pcm
  · have f := h.finds (why := why) (later := later) sx (ne _ _ _ split)
    rw [skip before x later split nb]
    exact ⟨f.fill, f.pos, f.takes, f.waits⟩

/-! ### Where a fill lets go of its bank (R110, R137, R138) -/

/-- A state that differs in timers and in what the end of a fill is not told by. -/
theorem LetGoOf.back (h : LetGoOf i b v u) (a : Alike i s v) (pcm : v.pcm = s.pcm) (f : (v.fp i).fill = (s.fp i).fill)
    (n : (v.fp i).nozzle = (s.fp i).nozzle) (ho : v.holder = s.holder) (st : v.stacked = s.stacked) : LetGoOf i b s u := by
  refine ⟨⟨h.alike.fixed.trans a.fixed, h.alike.banks.trans a.banks, h.alike.refill.trans a.refill, h.alike.cqr.trans a.cqr,
    h.alike.pos.trans a.pos, h.alike.mode.trans a.mode, h.alike.soc.trans a.soc⟩, h.pcm.trans pcm, h.fill.trans f,
    h.nozzle.trans n, fun c q => ?_, h.free, h.arb⟩
  have := h.others c q
  unfold State.holderOf State.stackedAt at *
  rwa [ho, st] at this

/-- A holder stands in no set and holds no other bank. -/
theorem holder_alone {r : Requester} (a : s.ArbiterOk) (h : s.holderOf b = some r) (n : c ≠ b) :
    s.holderOf c ≠ some r ∧ r ∉ s.stackedAt c :=
  ⟨fun q => n (a.oneGrant r c b q h), a.noHolderWaits r b c h⟩

theorem member_alone {r : Requester} (a : s.ArbiterOk) (h : r ∈ s.stackedAt b) : (∀ c, s.holderOf c ≠ some r) ∧
    ∀ c, c ≠ b → r ∉ s.stackedAt c :=
  ⟨fun c q => a.noHolderWaits r c b q h, fun c n q => n (a.oneSet r c b q h)⟩

theorem letGo_letsGo (a : s.ArbiterOk) (h : s.holderOf b = some (fpReq i)) :
    LetGoOf i b s (letGo (fpReq i) b (unlink i (closeDraw i s))) := by
  have unlinked : (unlink i (closeDraw i s)).fp i = { s.fp i with link := .unlinked, bankWait := none } := by
    simp [unlink, closeDraw, modTxn]
  have quiet : ∀ c, ((unlink i (closeDraw i s)).fp i).waitsFor c = false := fun c => by
    rw [unlinked]; simp [Fps.waitsFor]
  have sp : Spares false (· = i) (unlink i (closeDraw i s)) (letGo (fpReq i) b (unlink i (closeDraw i s))) :=
    (Spares.refl (by rintro _ rfl c; exact quiet c)).letGo
  have run : Runs false s (unlink i (closeDraw i s)) := (Runs.refl s).closeDraw.modFp fun _ => ⟨rfl, rfl⟩
  have fp := (sp.fp i rfl).trans unlinked
  have out := letGo_not (b := b) quiet
  have gone := letGo_out (r := fpReq i) (b := b) (run.arb a)
  have others (c : BankId) (n : c ≠ b) := letGo_other (r := fpReq i) (s := unlink i (closeDraw i s)) n
  refine ⟨⟨(run.trans sp.runs).fixed, (run.trans sp.runs).banks rfl, sp.refill, sp.cqr, by rw [fp], by rw [fp], by rw [fp]⟩,
    sp.pcm rfl, by rw [fp], by rw [fp], others, fun c => ?_, (run.trans sp.runs).arb a⟩
  by_cases n : c = b
  · subst n
    exact ⟨out, gone⟩
  · rw [(others c n).1, (others c n).2]
    have alone := holder_alone a h n
    exact alone

theorem withdraw_letsGo (a : s.ArbiterOk) (h : fpReq i ∈ s.stackedAt b) :
    LetGoOf i b s (withdrawBank (fpReq i) b (unlink i s)) := by
  have run : Runs false s (withdrawBank (fpReq i) b (unlink i s)) :=
    Runs.withdrawBank ((Runs.refl s).modFp fun _ => ⟨rfl, rfl⟩)
  have fp : (withdrawBank (fpReq i) b (unlink i s)).fp i = { s.fp i with link := .unlinked, bankWait := none } := by
    simp [withdrawBank, unlink]
  obtain ⟨noGrant, noSet⟩ := member_alone a h
  have others (c : BankId) (n : c ≠ b) : (withdrawBank (fpReq i) b (unlink i s)).stackedAt c = s.stackedAt c :=
    sel_upd_ne _ _ _ _ n.symm
  refine ⟨⟨run.fixed, rfl, rfl, rfl, by rw [fp], by rw [fp], by rw [fp]⟩, rfl, by rw [fp], by rw [fp],
    fun c n => ⟨rfl, others c n⟩, fun c => ⟨noGrant c, ?_⟩, run.arb a⟩
  by_cases n : c = b
  · subst n
    show fpReq i ∉ sel (upd s.stacked c _) c
    rw [sel_upd_self]
    exact (a.once c).not_mem_erase
  · rw [others c n]; exact noSet c n

theorem cascadeStep_eq (p : (s.fp i).cascadePos = some b) : cascadeStep i s =
    tryAfter i .supplyExhausted (letGo (fpReq i) b (unlink i (closeDraw i s))) := by
  unfold cascadeStep
  rw [p]

/-! ### No notice to the compressors -/

theorem fpsTake_csInbox : (fpsTake j b s).csInbox = s.csInbox := by
  have r (w : State) : (rederive j w).csInbox = w.csInbox := by rw [rederive, setSub_eq]
  unfold fpsTake
  dsimp only
  split
  · split <;> rfl
  · exact r _
  all_goals rfl

theorem tellGranted_csInbox {r : Requester} : (tellGranted r b s).1.csInbox = s.csInbox := by
  unfold tellGranted
  split
  · split
    · exact fpsTake_csInbox
    · rfl
  · split
    · unfold setCompState postIf; split <;> rfl
    · rfl

theorem competeFor_csInbox {n : Nat} : (competeFor n b s).csInbox = s.csInbox := by
  induction n generalizing s with
  | zero => rfl
  | succ n ih =>
    unfold competeFor
    split
    · rfl
    · dsimp only
      split
      · exact ih.trans tellGranted_csInbox
      · exact tellGranted_csInbox

theorem letGo_csInbox {r : Requester} : (letGo r b s).csInbox = s.csInbox := by
  show (releaseBank r b s).csInbox = _
  unfold releaseBank compete
  split
  · split
    · exact competeFor_csInbox
    · rfl
  · rfl

theorem closeFill_csInbox {r : Reason} : (closeFill i r s).csInbox = s.csInbox := by
  have before : (beforeRelease i r s).csInbox = s.csInbox := beforeRelease_local.csInbox
  have bank (w : State) : (letGoOfBank i w).csInbox = w.csInbox := by
    unfold letGoOfBank
    split
    · exact letGo_csInbox
    · rfl
  rw [closeFill_eq, endLink, modLink_csInbox, bank, before]

theorem tryBanks_csInbox {l : List BankId} {why : Reason} : (tryBanks i l why s).csInbox = s.csInbox := by
  have r (w : State) : (rederive i w).csInbox = w.csInbox := by rw [rederive, setSub_eq]
  induction l generalizing s why with
  | nil => exact closeFill_csInbox
  | cons b rest ih =>
    have asks : (requestBank (fpReq i) b (modFp i (fun f => { f with cascadePos := some b }) s)).1.csInbox = s.csInbox := by
      rw [requestBank_parts]; rfl
    unfold tryBanks
    split
    · dsimp only
      split
      · exact fpsTake_csInbox.trans asks
      · split
        · exact (r _).trans asks
        · exact asks
      · exact ih.trans asks
    · exact ih

theorem tryAfter_csInbox {why : Reason} : (tryAfter i why s).csInbox = s.csInbox := by
  unfold tryAfter
  split <;> exact tryBanks_csInbox

theorem cascadeStep_csInbox : (cascadeStep i s).csInbox = s.csInbox := by
  unfold cascadeStep
  split
  · exact tryAfter_csInbox.trans letGo_csInbox
  · exact tryAfter_csInbox

/-! ### The tests on the granted bank (R135) -/

theorem stepTests_stays {w : Bool} (h : (s.fp i).cascadePos = none ∨ (s.fp i).fill ≠ .filling ∨ (s.fp i).sub ≠ some .flow ∨
    ∃ b, (s.fp i).cascadePos = some b ∧ (s.fp i).nozzle + s.site.params.stepDiff ≤ (s.bank b).pressure ∧
      (w = true → (s.bank b).entry.floor < (s.bank b).pressure)) : stepTests i s w = s := by
  unfold stepTests
  dsimp only
  split
  · next c e =>
    refine if_neg fun ⟨f, g, q⟩ => ?_
    rcases h with h | h | h | ⟨b, hb, h, hf⟩
    · rw [e] at h; cases h
    · exact h f
    · exact h g
    · obtain rfl : c = b := Option.some.inj (e.symm.trans hb)
      rcases q with q | ⟨hw, q⟩
      · omega
      · have := hf hw; omega
  · rfl

theorem stepTests_steps {w : Bool} (p : (s.fp i).cascadePos = some b) (f : (s.fp i).fill = .filling) (g : (s.fp i).sub = some .flow)
    (q : (s.bank b).pressure < (s.fp i).nozzle + s.site.params.stepDiff ∨
      (w = true ∧ (s.bank b).pressure ≤ (s.bank b).entry.floor)) :
    stepTests i s w = cascadeStep i s := by
  unfold stepTests
  dsimp only
  rw [p]
  exact if_pos ⟨f, g, q⟩

end Sys2Proof.Machine
end

section
/-!
PROOFS. The banks: deliveries, the refill list, and the cascade's timers (chapter 3).
-/
namespace Sys2Proof.Machine

variable {i j : FpId} {k : CompId} {s t u v : State} {b c x : BankId}

/-! ### A bank's delivery (R38, R39, R45) -/

/-- A bank's record with its inventory as both quantities give it, where they are GOOD. -/
def State.recomputed (s : State) (k : Bank) : Bank :=
  if k.pressureGood = true ∧ k.temperatureGood = true then
    { k with inventory := massOf (s.lookup k.pressure k.temperature).density k.entry.volume
             indication := (s.lookup k.pressure k.temperature).indication }
  else k

/-- Bank `b` with a new record, its change of fault posted. -/
def State.rebanked (s : State) (b : BankId) (k : Bank) : State :=
  { s with banks := upd s.banks b k
           sli := { s.sli with summary := s.sli.summary ||| if (s.bank b).fault = k.fault then 0 else BitVec.twoPow 15 6 } }

theorem rebanked_bank {k : Bank} : (s.rebanked b k).bank b = k := sel_upd_self ..
theorem rebanked_other {k : Bank} (n : c ≠ b) : (s.rebanked b k).bank c = s.bank c := sel_upd_ne _ _ _ _ n.symm

theorem recomputed_fault (k : Bank) : (s.recomputed k).fault = k.fault := by
  unfold State.recomputed
  split <;> rfl

theorem recomputed_entry (k : Bank) : (s.recomputed k).entry = k.entry := by
  unfold State.recomputed
  split <;> rfl

theorem afterDelivery_eq {f : Bank → Bank} : afterDelivery b s (modBank b f s) = s.rebanked b (s.recomputed (f (s.bank b))) := by
  have post : postFault b s (modBank b f s) = s.rebanked b (f (s.bank b)) := by
    unfold postFault
    rw [postIf_eq, modBank_bank_self]
    by_cases h : (s.bank b).fault = (f (s.bank b)).fault <;> simp [h, State.rebanked, modBank, flagBank]
  have look (k : Bank) : (s.rebanked b k).lookup = s.lookup := rfl
  rw [afterDelivery, post, recomputeInventory]
  dsimp only
  rw [rebanked_bank, look]
  unfold State.recomputed
  by_cases g : (f (s.bank b)).pressureGood = true ∧ (f (s.bank b)).temperatureGood = true
  · rw [if_pos g, if_pos (by simpa using g), modBank, rebanked_bank]
    simp only [State.rebanked, upd_upd]
    rfl
  · rw [if_neg g, if_neg (by simpa using g)]

/-! ### The refill list (R46, R47) -/

theorem refillStays_iff : s.refillStays b = true ↔ (s.bank b).usableFill = true ∧
    (s.bank b).pressure < if b ∈ s.refill then (s.bank b).entry.refillOff else (s.bank b).entry.refillOn := by
  unfold State.refillStays
  dsimp only
  by_cases h : b ∈ s.refill <;> simp [h]

theorem mem_refillInsert {l : List BankId} : x ∈ s.refillInsert b l ↔ x = b ∨ x ∈ l := by
  induction l with
  | nil => simp [State.refillInsert]
  | cons y l ih =>
    unfold State.refillInsert
    split
    · simp
    · simp [ih, or_left_comm]

/-- The list after a replacement. -/
theorem setRefill_refill (l : List BankId) : (setRefill l s).refill = l := by
  unfold setRefill
  split
  · assumption
  · rfl

/-- A replacement moves the list and tells the sequencers alone. -/
theorem setRefill_rest (l : List BankId) : ∃ box, setRefill l s = { s with refill := l, csInbox := box } := by
  unfold setRefill
  split
  · next h => exact ⟨s.csInbox, by rw [← h]⟩
  · exact ⟨_, rfl⟩

theorem setRefill_same : setRefill s.refill s = s := if_pos rfl

/-- A bank that is not listed and does not join. -/
theorem refillEval_out (m : b ∉ s.refill) (n : s.refillStays b = false) : refillEval b s = s := by
  have c : s.refill.contains b = false := by simpa using m
  unfold refillEval
  dsimp only
  rw [List.erase_of_not_mem m, if_neg (by rw [n]; decide), setRefill_same, c]
  cases s.fillingCs b <;> rfl

/-! ### Who holds the bank -/

theorem fillingCs_fp (h : s.holderOf b = some (fpReq i)) : s.fillingCs b = none := by
  unfold State.fillingCs
  rw [h]
  dsimp only
  rw [reqUnit_fpReq]

theorem fillingCs_cs (h : s.holderOf b = some (csReq k)) : s.fillingCs b = some k := by
  unfold State.fillingCs
  rw [h]
  dsimp only
  rw [reqUnit_csReq]

theorem passSample_fp (h : s.holderOf b = some (fpReq i)) : passSample b s = fpsBankSample i b s := by
  unfold passSample
  rw [h]
  dsimp only
  rw [reqUnit_fpReq]

theorem passSample_cs (h : s.holderOf b = some (csReq k)) : passSample b s = csBankSample k b s := by
  unfold passSample
  rw [h]
  dsimp only
  rw [reqUnit_csReq]

theorem passSample_none (h : s.holderOf b = none) : passSample b s = s := by
  unfold passSample
  rw [h]

/-- Settles O51: each way the fill lets go of its bank, then the banks after it. -/
theorem cascadeGoesOn : Obligations.CascadeGoesOn := by
  intro s i b arb pos nodup f
  refine ⟨fun d l fill m => ⟨_, exec_pos rfl ⟨(due_iff _).mpr d, l, fill⟩, ?_⟩, fun n => exec_neg rfl fun ⟨d, l, fill⟩ => ?_,
    fun d fill sub held => ⟨_, exec_pos rfl ⟨(due_iff _).mpr d, fill, sub⟩, ?_⟩, fun n => exec_neg rfl fun ⟨d, fill, sub⟩ => ?_, ?_⟩
  · rw [fpsBankWaitEnd, pos]
    exact (withdraw_letsGo arb m).goesOn pos nodup
  · rcases n with n | n | ⟨n1, n2⟩
    · exact n ((due_iff _).mp d)
    · exact n l
    · exact fill.elim n1 n2
  · have fp : (modFp i (fun f => { f with lowFlow := none }) s).fp i = { s.fp i with lowFlow := none } := modFp_fp_self ..
    have go := (letGo_letsGo (s := modFp i (fun f => { f with lowFlow := none }) s) (arbiterOk_of arb rfl rfl) held).back
      (.modFp fun _ => ⟨rfl, rfl⟩) rfl (by rw [fp]) (by rw [fp]) rfl rfl
    rw [cascadeStep_eq (by rw [fp]; exact pos)]
    exact go.goesOn pos nodup
  · rcases n with n | n | n
    · exact n ((due_iff _).mp d)
    · exact n fill
    · exact n sub
  · intro ch c v x box del held fill out k l k' s1 leaves off
    have run := exec_delivers del nofun
    let s0 : State := { s with chans := upd s.chans ch x }
    have rec' : s0.recomputed { k with pressure := v, pressureGood := true } = k' := by
      unfold State.recomputed
      by_cases g : k.temperatureGood = true
      · rw [if_pos ⟨rfl, g⟩]
        simp only [k', if_pos g]
        rfl
      · rw [if_neg fun h => g h.2]
        simp only [k', if_neg g]
    have k'fill : k'.entry = k.entry ∧ k'.pressure = v := ⟨rfl, rfl⟩
    have stays : (s0.rebanked b k').refillStays b = false := by
      rw [← Bool.not_eq_true, refillStays_iff, rebanked_bank, if_neg (show b ∉ (s0.rebanked b k').refill from out)]
      rintro ⟨use, low⟩
      rcases off with off | off
      · simp [Bank.usableFill, k'fill.1, off] at use
      · exact absurd low (by rw [k'fill.1, k'fill.2]; omega)
    have sampled : bankPressureSample b v s0 = stepTests i (s0.rebanked b k') true := by
      have after : afterDelivery b s0 (modBank b (fun k => { k with pressure := v, pressureGood := true }) s0) =
          s0.rebanked b k' := by
        rw [afterDelivery_eq, ← rec']; rfl
      have h : (s0.rebanked b k').holderOf b = some (fpReq i) := held
      unfold bankPressureSample
      dsimp only
      rw [after, fillingCs_fp h]
      simp only [Option.isSome_none, Bool.false_and, Bool.false_eq_true, if_false]
      rw [refillEval_out (s := s0.rebanked b k') out stays, passSample_fp h, fpsBankSample,
        if_pos (show ((s0.rebanked b k').fp i).cascadePos = some b from pos)]
    have alike : Alike i s1 (s0.rebanked b k') := ⟨rfl, rfl, rfl, rfl, rfl, rfl, rfl⟩
    have bank : (s0.rebanked b k').bank b = k' := rebanked_bank
    rw [show deliver (.bankP b) v s0 = _ from sampled] at run
    by_cases lv : leaves
    · have steps := stepTests_steps (s := s0.rebanked b k') (w := true) pos fill lv.1
        (by rw [bank]; exact lv.2.imp id fun q => ⟨rfl, q⟩)
      have go := (letGo_letsGo (s := s0.rebanked b k') (arbiterOk_of arb rfl rfl) held).back (s := s1) alike rfl rfl rfl rfl rfl
      rw [steps] at run
      refine ⟨_, exec_settled run (cascadeStep_csInbox.trans box), fun _ => ?_, fun n => absurd lv n⟩
      rw [cascadeStep_eq (s := s0.rebanked b k') pos]
      exact go.goesOn pos nodup
    · rw [stepTests_stays] at run
      · exact ⟨_, exec_settled run box, fun h => absurd h lv, fun _ => rfl⟩
      · by_cases sub : f.sub = some .flow
        · have lv' : ¬ (v < f.nozzle + s.site.params.stepDiff ∨ v ≤ k.entry.floor) := fun q => lv ⟨sub, q⟩
          rw [not_or, Nat.not_lt, Nat.not_le] at lv'
          exact .inr (.inr (.inr ⟨b, pos, by rw [bank]; exact lv'.1, fun _ => by rw [bank]; exact lv'.2⟩))
        · exact .inr (.inr (.inl sub))

end Sys2Proof.Machine
end

section
/-!
PROOFS. The retained store: the end of a write (chapter 10).
-/
namespace Sys2Proof.Machine

variable {i j : FpId} {k : CompId} {s t u v : State} {w : Write} {n : Nat}

/-! ### The end of a retained write (R181, R182) -/

/-- What CQR holds once its write has ended: the fault and the memory are as given, and a pending change is being written. -/
def Cqr.ended (c : Cqr) (fault : Bool) (store : StoreContents) : Cqr :=
  ({ c with write := none, fault := fault, store := store } : Cqr).afterWrite

theorem writeDone_eq : writeDone w s =
    postIf s.cqr.fault flagRetained { s with cqr := s.cqr.ended false (.holds w.image) } := rfl

theorem writeFailed_eq : writeFailed w s =
    postIf (!s.cqr.fault) flagRetained { s with cqr := s.cqr.ended true s.cqr.store.cut } := rfl

theorem Cqr.ended_idle {c : Cqr} {fault : Bool} {store : StoreContents} (h : c.pendingChange = false) :
    c.ended fault store = { c with write := none, fault := fault, store := store } :=
  if_neg (by rw [h]; decide)

theorem Cqr.ended_pending {c : Cqr} {fault : Bool} {store : StoreContents} (h : c.pendingChange = true) :
    c.ended fault store =
      ({ c with write := none, fault := fault, store := store, pendingChange := false } : Cqr).startWrite :=
  if_pos h

theorem Cqr.ended_store {c : Cqr} {fault : Bool} {store : StoreContents} : (c.ended fault store).store = store := by
  cases h : c.pendingChange
  · rw [Cqr.ended_idle h]
  · rw [Cqr.ended_pending h]; rfl

/-- A write that has ended leaves the queue and the totals, and a new write carries them. -/
theorem Cqr.ended_parts (c : Cqr) (fault : Bool) (store : StoreContents) :
    let d := c.ended fault store
    d = { c with fault := fault, write := d.write, pendingChange := false, store := d.store, writeSeq := d.writeSeq } ∧
    (c.pendingChange = false → d.write = none) ∧
    (c.pendingChange = true → ∃ w, d.write = some w ∧ w.timer = some 50 ∧ w.image.image.records = c.queue ∧
      w.image.image.count = c.queue.length ∧ w.image.image.nextNumber = c.nextNumber ∧ w.image.image.totals = c.totals ∧
      w.image.check = crc16 w.image.image.bytes) := by
  intro d
  cases h : c.pendingChange
  · have hd : d = _ := Cqr.ended_idle h
    rw [hd]
    exact ⟨by rw [← h], fun _ => rfl, nofun⟩
  · have hd : d = _ := Cqr.ended_pending h
    rw [hd]
    exact ⟨rfl, nofun, fun _ => ⟨_, rfl, rfl, rfl, rfl, rfl, rfl, rfl⟩⟩

/-- What a write's end leaves of the state. -/
structure WriteEnded (s t : State) (fault : Bool) : Prop where
  rest : t = { s with
    cqr := t.cqr
    sli := { s.sli with summary := s.sli.summary ||| if fault = s.cqr.fault then 0 else BitVec.twoPow 15 13 } }
  cqr : t.cqr = { s.cqr with fault := fault, write := t.cqr.write, pendingChange := false, store := t.cqr.store,
                             writeSeq := t.cqr.writeSeq }
  idle : s.cqr.pendingChange = false → t.cqr.write = none
  pending : s.cqr.pendingChange = true → ∃ w, t.cqr.write = some w ∧ w.timer = some 50 ∧
    w.image.image.records = s.cqr.queue ∧ w.image.image.count = s.cqr.queue.length ∧
    w.image.image.nextNumber = s.cqr.nextNumber ∧ w.image.image.totals = s.cqr.totals ∧
    w.image.check = crc16 w.image.image.bytes

theorem writeEnded_of {fault p : Bool} {store : StoreContents} (hp : p = true ↔ fault ≠ s.cqr.fault) :
    WriteEnded s (postIf p flagRetained { s with cqr := s.cqr.ended fault store }) fault := by
  obtain ⟨cqr, idle, pending⟩ := Cqr.ended_parts s.cqr fault store
  rw [postIf_eq]
  refine ⟨?_, cqr, idle, pending⟩
  by_cases h : fault = s.cqr.fault
  · rw [if_pos h, if_neg fun q => hp.mp q h]
  · rw [if_neg h, if_pos (hp.mpr h)]
    rfl

theorem writeDone_ended : WriteEnded s (writeDone w s) false := by
  rw [writeDone_eq]
  exact writeEnded_of (by cases s.cqr.fault <;> decide)

theorem writeFailed_ended : WriteEnded s (writeFailed w s) true := by
  rw [writeFailed_eq]
  exact writeEnded_of (by cases s.cqr.fault <;> decide)

theorem writeDone_store : (writeDone w s).cqr.store = .holds w.image := by
  rw [writeDone_eq, postIf_cqr]
  exact Cqr.ended_store

theorem writeFailed_store : (writeFailed w s).cqr.store = s.cqr.store.cut := by
  rw [writeFailed_eq, postIf_cqr]
  exact Cqr.ended_store

theorem exec_writeComplete (h : s.cqr.write = some w) :
    exec (.writeComplete n) s = .next (if w.id = n then writeDone w s else s) := by
  show execWriteComplete n s = _
  unfold execWriteComplete
  rw [h]

theorem exec_writeError (h : s.cqr.write = some w) :
    exec (.writeError n) s = .next (if w.id = n then writeFailed w s else s) := by
  show execWriteError n s = _
  unfold execWriteError
  rw [h]

theorem exec_writeTimerExpiry (h : s.cqr.write = some w) :
    exec .writeTimerExpiry s = .next (if due w.timer then writeFailed w s else s) := by
  show execWriteTimerExpiry s = _
  unfold execWriteTimerExpiry
  rw [h]

/-- Settles O56. -/
theorem writesEnd : Obligations.WritesEnd := by
  intro s ends
  have done {c : Instr} {fault : Bool} {t : State} (e : exec c s = .next t) (h : WriteEnded s t fault) : ends c fault :=
    ⟨t, e, h.rest, h.cqr, h.idle, h.pending⟩
  refine ⟨fun w h => ?_, fun h => ?_⟩
  · have complete : exec (.writeComplete w.id) s = .next (writeDone w s) := by
      rw [exec_writeComplete h, if_pos rfl]
    have error : exec (.writeError w.id) s = .next (writeFailed w s) := by
      rw [exec_writeError h, if_pos rfl]
    have timer (d : w.timer = some 0) : exec .writeTimerExpiry s = .next (writeFailed w s) := by
      rw [exec_writeTimerExpiry h, if_pos ((due_iff _).mpr d)]
    refine ⟨done complete writeDone_ended, done error writeFailed_ended, fun d => done (timer d) writeFailed_ended, fun d => ?_,
      ⟨_, complete, writeDone_store⟩, ?_, fun n ne => ⟨?_, ?_⟩⟩
    · rw [exec_writeTimerExpiry h, if_neg fun q => d ((due_iff _).mp q)]
    · intro c hc
      have e : exec c s = .next (writeFailed w s) := by
        rcases hc with rfl | ⟨rfl, d⟩
        · exact error
        · exact timer d
      refine ⟨_, e, fun blank => ?_, fun g held => ?_⟩
      · rw [writeFailed_store, blank]; rfl
      · rw [writeFailed_store]
        rcases held with held | held <;> rw [held] <;> rfl
    · rw [exec_writeComplete h, if_neg ne.symm]
    · rw [exec_writeError h, if_neg ne.symm]
  · refine ⟨?_, fun n => ⟨?_, ?_⟩⟩
    · show execWriteTimerExpiry s = _
      unfold execWriteTimerExpiry
      rw [h]
    · show execWriteComplete n s = _
      unfold execWriteComplete
      rw [h]
    · show execWriteError n s = _
      unfold execWriteError
      rw [h]

end Sys2Proof.Machine
end

section
/-!
PROOFS. The leak check and FILLING's entry; the end of settling and venting (6.5 and 6.7).
-/
namespace Sys2Proof.Machine

variable {i j : FpId} {k : CompId} {s t u v : State}

/-! ### What a fill's own steps leave alone -/

theorem Alike.refl (s : State) : Alike i s s := ⟨rfl, rfl, rfl, rfl, rfl, rfl, rfl⟩

theorem Alike.modTxn {g : Txn → Txn} (a : Alike i s u) : Alike i s (modTxn i g u) :=
  ⟨a.fixed, a.banks, a.refill, a.cqr, a.pos, a.mode, a.soc⟩

/-- A re-derivation moves the substate and the timers of FLOW alone. -/
theorem rederive_fp : ∃ l g, (rederive i s).fp i = { s.fp i with sub := some (s.deriveSub i), lowFlow := l, grace := g } := by
  by_cases h : s.deriveSub i = .flow
  · rw [rederive_flows h, h]
    exact ⟨_, _, sel_upd_self ..⟩
  · rw [rederive_held rfl h]
    exact ⟨_, _, sel_upd_self ..⟩

theorem rederive_rest : (rederive i s) = { s with
    fps := (rederive i s).fps, sli := { s.sli with summary := (rederive i s).sli.summary } } := by
  by_cases h : s.deriveSub i = .flow
  · rw [rederive_flows h]
  · rw [rederive_held rfl h]

/-- The substate of a fill that waits for no bank and stands neither in a pause nor in a synchronous hold. -/
theorem deriveSub_plain (n : (s.fp i).link ≠ .stacked) (y : (s.fp i).sync = false) (p : (s.fp i).pause = false) :
    s.deriveSub i = if s.levelHold i = true then .hold else .flow := by
  cases l : s.levelHold i
  · rw [deriveSub_free n l y, p]
    rfl
  · rw [deriveSub_holds n (.inl l)]
    rfl

theorem levelHold_of (l : u.lines = s.lines) (h : (u.fp i).hostHold = (s.fp i).hostHold)
    (w : (u.fp i).vehicleHold = (s.fp i).vehicleHold) (m : (u.fp i).mode = (s.fp i).mode) : u.levelHold i = s.levelHold i := by
  unfold State.levelHold State.combined
  rw [h, w, m, l]

/-! ### The leak pulse (R104) -/

/-- P0 is taken. -/
def pulsed (i : FpId) (s : State) : State :=
  modTxn i (fun t => { t with p0 := some (s.fp i).nozzle })
    (modFp i (fun f => { f with leakPulse := none, p0 := some (s.fp i).nozzle }) s)

theorem pulseEnd_eq : pulseEnd i s =
    if (s.fp i).nozzle < minStartOf s.site.params (s.fp i).entry.pressureClass then closeFill i .startPressure (pulsed i s)
    else if limitOf s.site.params (s.fp i).entry.pressureClass ≤ (s.fp i).nozzle then closeFill i .pressureLimit (pulsed i s)
    else modFp i (fun f => { f with leakHold := some s.site.params.leakHold }) (pulsed i s) := rfl

theorem pulsed_fp : (pulsed i s).fp i = { s.fp i with leakPulse := none, p0 := some (s.fp i).nozzle } := sel_upd_self ..

theorem pulsed_txn : ((pulsed i s).meter i).txn = (s.meter i).txn.map fun x => { x with p0 := some (s.fp i).nozzle } := by
  rw [pulsed, modTxn_eq, modMeter_meter_self]
  rfl

theorem pulsed_alike : Alike i s (pulsed i s) := by
  unfold pulsed
  exact Alike.modTxn (Alike.modFp fun _ => ⟨rfl, rfl⟩)

theorem pulsed_closes (r : Reason) : s.ClosedBy (closeFill i r (pulsed i s)) i r :=
  (closeFill_closes r).back pulsed_alike rfl

/-- What the end of the pulse notes stays noted as the fill goes on, or ends. -/
theorem Goes.pulsed_p0 (h : Goes i (pulsed i s) t) : (t.fp i).p0 = some (s.fp i).nozzle ∧
    ∀ x, (t.meter i).txn = some x → x.p0 = some (s.fp i).nozzle := by
  refine ⟨?_, fun x hx => ?_⟩
  · have := congrArg Fps.p0 h.context
    rwa [pulsed_fp] at this
  · have e := congrArg Meter.txn h.meter
    simp only [Meter.context, hx, pulsed_txn, Option.map_map, Option.map_some] at e
    cases y : (s.meter i).txn with
    | none => simp [y] at e
    | some y' =>
      rw [y] at e
      exact congrArg Txn.p0 (Option.some.inj e)

/-! ### The leak hold and FILLING (R105, R121) -/

/-- FILLING stands, with its active entry. -/
def enteredFilling (i : FpId) (e : RampEntry) (s : State) : State := setFill i .filling (modFp i (fun f => f.rampStart e) s)

theorem enteredFilling_fp {e : RampEntry} : (enteredFilling i e s).fp i = { (s.fp i).rampStart e with fill := .filling } := by
  rw [enteredFilling, setFill_fp, modFp_fp_self]
  rfl

theorem enteredFilling_rest {e : RampEntry} : enteredFilling i e s = { s with
    fps := (enteredFilling i e s).fps, sli := { s.sli with summary := (enteredFilling i e s).sli.summary } } := by
  rw [enteredFilling, setFill_eq]
  rfl

theorem enteredFilling_alike {e : RampEntry} : Alike i s (enteredFilling i e s) := by
  refine ⟨?_, ?_, ?_, ?_, by rw [enteredFilling_fp]; rfl, by rw [enteredFilling_fp]; rfl, by rw [enteredFilling_fp]; rfl⟩
  · have r : Runs false s (setFill i .filling (modFp i (fun f => f.rampStart e) s)) :=
      Runs.setFill (Runs.modFp (Runs.refl s) fun _ => ⟨rfl, rfl⟩)
    exact r.fixed
  all_goals rw [enteredFilling_rest]

/-- The entry with which a fill enters FILLING. -/
def State.fillEntry (s : State) (i : FpId) : RampEntry :=
  s.buildEntry i ((s.fp i).admClass.getD .tamb) ((s.fp i).admBand.getD (s.fp i).band)

/-- A fill without a link whose entry has no end pressure. -/
def State.absent (s : State) (i : FpId) : Prop := (s.fp i).mode = .nonCommunication ∧ (s.fillEntry i).endPressure = 0

theorem absent_eq : ((s.fp i).mode == .nonCommunication && (s.fillEntry i).endPressure == 0) = true ↔ s.absent i := by
  rw [Bool.and_eq_true, beq_iff_eq, beq_iff_eq]
  rfl

theorem enterFilling_eq : enterFilling i s =
    let s1 := enteredFilling i (s.fillEntry i) s
    let absent := (s.fp i).mode == .nonCommunication && (s.fillEntry i).endPressure == 0
    if !(s.fp i).gasGood && absent then
      closeFill i (if (freeChoice 2 s1).1 = 0 then .sensorFail else .linkAbsent) (freeChoice 2 s1).2
    else if !(s.fp i).gasGood then closeFill i .sensorFail s1
    else if absent then closeFill i .linkAbsent s1
    else rederive i (if (s.fp i).band = (s.fillEntry i).band then s1 else stage i (s.fillEntry i).cls s1) := rfl

theorem enterFilling_noGas (g : (s.fp i).gasGood = false) (a : ¬ s.absent i) :
    enterFilling i s = closeFill i .sensorFail (enteredFilling i (s.fillEntry i) s) := by
  rw [← absent_eq, Bool.not_eq_true] at a
  rw [enterFilling_eq]
  simp [g, a]

theorem enterFilling_absent (g : (s.fp i).gasGood = true) (a : s.absent i) :
    enterFilling i s = closeFill i .linkAbsent (enteredFilling i (s.fillEntry i) s) := by
  rw [← absent_eq] at a
  rw [enterFilling_eq]
  simp [g, a]

theorem enterFilling_either (g : (s.fp i).gasGood = false) (a : s.absent i) : ∃ r, (r = .sensorFail ∨ r = .linkAbsent) ∧
    enterFilling i s = closeFill i r (freeChoice 2 (enteredFilling i (s.fillEntry i) s)).2 := by
  rw [← absent_eq] at a
  rw [enterFilling_eq]
  dsimp only
  rw [g, a, if_pos (by decide)]
  refine ⟨_, ?_, rfl⟩
  split
  · exact .inl rfl
  · exact .inr rfl

theorem enterFilling_fills (g : (s.fp i).gasGood = true) (a : ¬ s.absent i) : enterFilling i s =
    rederive i (if (s.fp i).band = (s.fillEntry i).band then enteredFilling i (s.fillEntry i) s
      else stage i (s.fillEntry i).cls (enteredFilling i (s.fillEntry i) s)) := by
  rw [← absent_eq, Bool.not_eq_true] at a
  rw [enterFilling_eq]
  dsimp only
  rw [g, a]
  rfl

/-- What FILLING's entry leaves where the fill goes on: its ramp, with a switch pending where the band has moved meanwhile. -/
theorem enterFilling_fp (g : (s.fp i).gasGood = true) (a : ¬ s.absent i) : ∃ sub pe sp l gr, (enterFilling i s).fp i =
      { (s.fp i).rampStart (s.fillEntry i) with
        fill := .filling, sub := some sub, pendingEntry := pe, switchPending := sp, lowFlow := l, grace := gr } ∧
    ((s.fp i).link ≠ .stacked → sub = if s.levelHold i = true then .hold else .flow) ∧
    ((s.fp i).band = (s.fillEntry i).band → sp = false) ∧
    ((s.fp i).band ≠ (s.fillEntry i).band → sp = true ∧ pe = some (s.buildEntry i (s.fillEntry i).cls (s.fp i).band)) := by
  rw [enterFilling_fills g a]
  have fp := enteredFilling_fp (i := i) (s := s) (e := s.fillEntry i)
  have rest := enteredFilling_rest (i := i) (s := s) (e := s.fillEntry i)
  generalize enteredFilling i (s.fillEntry i) s = u at *
  have lines : u.lines = s.lines := by rw [rest]
  have ramp : u.ramp = s.ramp := by rw [rest]
  have sub {v : State} (l : v.lines = s.lines) {pe : Option RampEntry} {sp : Bool}
      (f : v.fp i = { u.fp i with pendingEntry := pe, switchPending := sp }) (n : (s.fp i).link ≠ .stacked) :
      v.deriveSub i = if s.levelHold i = true then .hold else .flow := by
    rw [deriveSub_plain (by rw [f, fp]; exact n) (by rw [f, fp]; rfl) (by rw [f, fp]; rfl),
      levelHold_of l (by rw [f, fp]; rfl) (by rw [f, fp]; rfl) (by rw [f, fp]; rfl)]
  by_cases b : (s.fp i).band = (s.fillEntry i).band
  · rw [if_pos b]
    obtain ⟨l, gr, h⟩ := rederive_fp (i := i) (s := u)
    refine ⟨_, none, false, l, gr, by rw [h, fp]; rfl, fun n => ?_, fun _ => rfl, fun c => absurd b c⟩
    exact sub (v := u) lines (pe := none) (sp := false) (by rw [fp]; rfl) n
  · rw [if_neg b, stage_eq (a := s.fillEntry i) (by rw [fp]; rfl), if_neg fun h => b (by rw [h.2, fp]; rfl)]
    have f := modFp_fp_self (s := u) i (fun f => { f with
      pendingEntry := some (u.buildEntry i (s.fillEntry i).cls (u.fp i).band), switchPending := true })
    have le : (modFp i (fun f => { f with
      pendingEntry := some (u.buildEntry i (s.fillEntry i).cls (u.fp i).band), switchPending := true }) u).lines = u.lines := rfl
    have entry : u.buildEntry i (s.fillEntry i).cls (u.fp i).band = s.buildEntry i (s.fillEntry i).cls (s.fp i).band := by
      unfold State.buildEntry State.rampRow
      rw [fp, ramp]
      rfl
    generalize modFp i _ u = w at *
    obtain ⟨l, gr, h⟩ := rederive_fp (i := i) (s := w)
    exact ⟨_, _, true, l, gr, by rw [h, f, fp], fun n => sub (le.trans lines) f n, fun c => absurd c b,
      fun _ => ⟨rfl, congrArg some entry⟩⟩

/-- FILLING's entry, where the fill goes on, leaves PCM and CQR. -/
theorem enterFilling_rest (g : (s.fp i).gasGood = true) (a : ¬ s.absent i) :
    (enterFilling i s).pcm = s.pcm ∧ (enterFilling i s).cqr = s.cqr := by
  rw [enterFilling_fills g a, rederive_rest]
  have rest := enteredFilling_rest (i := i) (s := s) (e := s.fillEntry i)
  have fp := enteredFilling_fp (i := i) (s := s) (e := s.fillEntry i)
  generalize enteredFilling i (s.fillEntry i) s = u at *
  split
  · rw [rest]
    exact ⟨rfl, rfl⟩
  · rw [stage_eq (a := s.fillEntry i) (by rw [fp]; rfl)]
    split <;> rw [rest] <;> exact ⟨rfl, rfl⟩

theorem enteredFilling_closes {e : RampEntry} (r : Reason) : s.ClosedBy (closeFill i r (enteredFilling i e s)) i r :=
  (closeFill_closes r).back enteredFilling_alike (by rw [enteredFilling_rest])

/-- Settles O52. -/
theorem leakCheckTimers : Obligations.LeakCheckTimers := by
  intro s i f p minStart limit
  have hMin : minStartOf s.site.params f.entry.pressureClass = minStart := by
    unfold minStartOf; rfl
  have hLim : limitOf s.site.params f.entry.pressureClass = limit := by
    unfold limitOf; rfl
  refine ⟨fun d l => ⟨_, exec_pos rfl ⟨(due_iff _).mpr d, l⟩, ?_⟩, fun n => exec_neg rfl fun h => ?_, ?_,
    fun n => exec_neg rfl fun h => ?_⟩
  · rw [pulseEnd_eq, hMin, hLim]
    by_cases low : f.nozzle < minStart
    · rw [if_pos low]
      obtain ⟨p0, txn⟩ := (Goes.closeFill (r := .startPressure) (Goes.refl (i := i) (pulsed i s))).pulsed_p0
      exact ⟨p0, txn, fun _ => pulsed_closes _, fun h => absurd low (Nat.not_lt.mpr h), fun h => absurd low (Nat.not_lt.mpr h)⟩
    rw [if_neg low]
    by_cases high : limit ≤ f.nozzle
    · rw [if_pos high]
      obtain ⟨p0, txn⟩ := (Goes.closeFill (r := .pressureLimit) (Goes.refl (i := i) (pulsed i s))).pulsed_p0
      exact ⟨p0, txn, fun h => absurd h low, fun _ _ => pulsed_closes _, fun _ h => absurd high (Nat.not_le.mpr h)⟩
    · rw [if_neg high]
      obtain ⟨p0, txn⟩ := (Goes.modFp (g := fun f => { f with leakHold := some s.site.params.leakHold })
        (Goes.refl (i := i) (pulsed i s)) fun _ => ⟨rfl, rfl⟩).pulsed_p0
      refine ⟨p0, txn, fun h => absurd h low, fun _ h => absurd h high, fun _ _ => ?_⟩
      rw [modFp, pulsed_fp]
      simp only [pulsed, modFp, modTxn, modMeter, upd_upd]
      rfl
  · exact n.elim (fun n => n ((due_iff _).mp h.1)) (fun n => n h.2)
  · intro c bd d l hc hb t' row absent
    have e := exec_pos (c := .leakHoldExpiry i) (s := s) rfl ⟨(due_iff _).mpr d, l⟩
    have alike : Alike i s (modFp i (fun f => { f with leakHold := none }) s) := Alike.modFp fun _ => ⟨rfl, rfl⟩
    have fp := modFp_fp_self (s := s) i fun f => { f with leakHold := none }
    have entry : (modFp i (fun f => { f with leakHold := none }) s).fillEntry i =
        { cls := c, band := bd, category := t', rate := row.rate, endPressure := row.endPressure } := by
      unfold State.fillEntry State.buildEntry State.rampRow
      rw [fp, hc, hb]
      rfl
    have ab : (modFp i (fun f => { f with leakHold := none }) s).absent i ↔ absent := by
      unfold State.absent
      rw [entry, fp]
    have lh := levelHold_of (i := i) (s := s) (u := modFp i (fun f => { f with leakHold := none }) s) rfl (by rw [fp])
      (by rw [fp]) (by rw [fp])
    have pcm : (modFp i (fun f => { f with leakHold := none }) s).pcm = s.pcm := rfl
    have cqr : (modFp i (fun f => { f with leakHold := none }) s).cqr = s.cqr := rfl
    generalize modFp i (fun f => { f with leakHold := none }) s = u at *
    have gas : (u.fp i).gasGood = f.gasGood := by rw [fp]
    refine ⟨_, e, fun g a => ?_, fun g a => ?_, fun g a => ?_, fun g a => ?_⟩
    · rw [enterFilling_noGas (gas.trans g) (mt ab.mp a)]
      exact (enteredFilling_closes _).back alike pcm
    · rw [enterFilling_absent (gas.trans g) (ab.mpr a)]
      exact (enteredFilling_closes _).back alike pcm
    · obtain ⟨r, hr, eq⟩ := enterFilling_either (gas.trans g) (ab.mpr a)
      have closes : s.ClosedBy (enterFilling i u) i r := by
        rw [eq]
        have c := (closeFill_closes (i := i) (s := (freeChoice 2 (enteredFilling i (u.fillEntry i) u)).2) r).back
          (s := enteredFilling i (u.fillEntry i) u) ⟨rfl, rfl, rfl, rfl, rfl, rfl, rfl⟩ rfl
        exact (c.back enteredFilling_alike (by rw [enteredFilling_rest])).back alike pcm
      rcases hr with rfl | rfl
      · exact .inl closes
      · exact .inr closes
    · obtain ⟨sub, pe, sp, lf, gr, eq, hsub, same, moved⟩ := enterFilling_fp (gas.trans g) (mt ab.mp a)
      obtain ⟨hp, hq⟩ := enterFilling_rest (gas.trans g) (mt ab.mp a)
      rw [eq]
      rw [fp, entry] at same moved
      refine ⟨rfl, by rw [fp]; rfl, by rw [fp]; rfl, rfl, rfl, rfl, by rw [entry]; rfl, fun n => ?_, same, fun n => ?_,
        hp.trans pcm, hq.trans cqr⟩
      · rw [hsub (by rw [fp]; exact n), lh]
      · obtain ⟨rfl, rfl⟩ := moved n
        exact ⟨rfl, _, rfl, rfl, rfl⟩
  · exact n.elim (fun n => n ((due_iff _).mp h.1)) (fun n => n h.2)

/-! ### The hand-over of a transaction (R168, R174) -/

/-- A draw list closed at the banks' latest pressures. -/
def State.closedDraw (s : State) (l : List DrawEntry) : List DrawEntry :=
  l.map fun e =>
    match e.closeP with
    | none => { e with closeP := some (s.bank e.bank).pressure }
    | some _ => e

theorem closedDraw_closes (l : List DrawEntry) : ∀ e ∈ s.closedDraw l, e.closeP ≠ none := by
  intro e he
  obtain ⟨d, -, rfl⟩ := List.mem_map.mp he
  split
  · simp
  · next h => simp [h]

theorem closeDraw_eq : closeDraw i s = modTxn i (fun t => { t with draw := s.closedDraw t.draw }) s := rfl

/-- From `s` to `t` the transaction `x` was handed over to CQR with reason `r`, and its record loaded. -/
structure HandedOver (i : FpId) (r : Reason) (saved : Bool) (x : Txn) (s t : State) : Prop where
  auth : (t.meter i).auth = Auth.empty
  posted : t.sli.summary.getLsbD 4 = true
  record : ∃ q : Record, t.cqr.queue = s.cqr.queue ++ [q] ∧ q.number = s.cqr.nextNumber ∧ q.fp = i ∧ q.reason = r ∧
    q.price = x.price ∧ q.mass = x.mass ∧ q.amount = amountOf x.mass x.price ∧ q.startTime = x.startTime ∧
    q.endTime = s.site.calendar ∧ q.flags.powerSaved = (x.flags.powerSaved || saved) ∧ ∀ e ∈ q.draw, e.closeP ≠ none
  marked : t.cqr.write ≠ none ∧ (s.cqr.write ≠ none → t.cqr.write = s.cqr.write ∧ t.cqr.pendingChange = true)

theorem mark_marks (c : Cqr) : c.mark.write ≠ none ∧
    (c.write ≠ none → c.mark.write = c.write ∧ c.mark.pendingChange = true) := by
  cases h : c.write with
  | none =>
    rw [show c.mark = c.startWrite by unfold Cqr.mark; rw [h]]
    exact ⟨nofun, fun n => absurd rfl n⟩
  | some w =>
    rw [show c.mark = { c with pendingChange := true } by unfold Cqr.mark; rw [h]]
    exact ⟨by rw [h]; nofun, fun _ => ⟨h, rfl⟩⟩

theorem handOver_hands {r : Reason} {b : Bool} {x : Txn} (h : (s.meter i).txn = some x) :
    HandedOver i r b x s (handOver i r b s) := by
  have e : ((closeDraw i (modMeter i (fun m => { m with window := false }) s)).meter i).txn =
      some { x with draw := s.closedDraw x.draw } := by
    rw [closeDraw_eq, modTxn_eq, modMeter_meter_self, modMeter_meter_self, h]
    rfl
  unfold handOver
  dsimp only
  rw [e]
  have m := mark_marks { s.cqr with
    queue := s.cqr.queue ++ [{ recordOf i (({ x with draw := s.closedDraw x.draw } : Txn).close r b s.site.calendar) r
      s.site.calendar with number := s.cqr.nextNumber }]
    nextNumber := nextNumber s.cqr.nextNumber
    totals := upd s.cqr.totals i ((sel s.cqr.totals i).add x.mass (amountOf x.mass x.price)) }
  have posted (v : BitVec 15) : (v ||| BitVec.twoPow 15 4).getLsbD 4 = true := by simp
  refine ⟨by simp, posted _, ⟨_, (mark_queue _).trans rfl, rfl, rfl, rfl, rfl, rfl, rfl, rfl, rfl, rfl, closedDraw_closes _⟩, m⟩

theorem handOver_window {r : Reason} {b : Bool} : ((handOver i r b s).meter i).window = false := by
  have e : ((closeDraw i (modMeter i (fun m => { m with window := false }) s)).meter i).window = false := by
    rw [closeDraw_eq, modTxn_eq, modMeter_meter_self, modMeter_meter_self]
  unfold handOver
  dsimp only
  split
  · exact e
  · next x _ =>
    simp only [loadRecord, markChange, post_meter, modCqr_meter, modMeter_meter_self]
    exact e

/-! ### The end of settling (R88, R111) -/

/-- The transaction is handed over and the reservation released. -/
def settledUp (i : FpId) (s : State) : State :=
  releaseReservation i (handOver i ((s.fp i).reason.getD .reset) false (modFp i (fun f => { f with settle := none }) s))

theorem settleEnd_eq : settleEnd i s =
    if s.site.state = .shutdown then setFill i .fault (settledUp i s) else enterVenting i (settledUp i s) := rfl

/-- Once the record is loaded and the reservation released, the fill stands as it did, without its settle timer. -/
structure SettledUp (i : FpId) (s u : State) : Prop where
  fp : u.fp i = { s.fp i with settle := none }
  record : (u.reservation i).state = .noRecord
  window : (u.meter i).window = false
  runs : Runs false s u
  loads : ∀ x, (s.meter i).txn = some x → HandedOver i ((s.fp i).reason.getD .reset) false x s u

theorem settledUp_settles (f : (s.fp i).fill = .settling) (w : s.WaitOk) : SettledUp i s (settledUp i s) := by
  let s0 := modFp i (fun f => { f with settle := none }) s
  let h := handOver i ((s.fp i).reason.getD .reset) false s0
  have runs0 : Runs false s s0 := Runs.modFp (Runs.refl s) fun _ => ⟨rfl, rfl⟩
  have hfp : h.fp i = { s.fp i with settle := none } := (handOver_fp _ _ i).trans (modFp_fp_self (s := s) i _)
  have runs1 : Runs false s h := Runs.handOver runs0
  obtain ⟨spares, record, -⟩ := releaseReservation_spares (i := i) (runs1.wait w)
    (fun b => by rw [hfp]; simp [Fps.waitsFor, f])
  refine ⟨(spares.fp i rfl).trans hfp, record, ?_, runs1.trans spares.runs, fun x hx => ?_⟩
  · rw [show (settledUp i s).meter i = _ from spares.meter i rfl]
    exact handOver_window
  · obtain ⟨auth, posted, q, m⟩ := handOver_hands (s := s0) (r := (s.fp i).reason.getD .reset) (b := false) hx
    have cqr : (settledUp i s).cqr = h.cqr := spares.cqr
    refine ⟨?_, spares.runs.posts 4 posted, by rw [cqr]; exact q, by rw [cqr]; exact m⟩
    rw [show (settledUp i s).meter i = _ from spares.meter i rfl]
    exact auth

/-! ### VENTING (R111, R112) -/

/-- VENTING stands, with its timer. -/
def vented (i : FpId) (s : State) : State :=
  setFill i .venting (modFp i (fun f => { f with vent := some s.site.params.ventTimeout }) s)

theorem vented_fp : (vented i s).fp i =
    { s.fp i with fill := .venting, sub := none, vent := some s.site.params.ventTimeout } := by
  rw [vented, setFill_fp, modFp_fp_self]
  rfl

theorem enterVenting_vents (h : s.site.params.ventPressure < (s.fp i).nozzle) : enterVenting i s = vented i s := by
  refine if_neg ?_
  rw [show ((setFill i .venting _).fp i) = _ from vented_fp]
  exact Nat.not_le.mpr h

theorem enterVenting_passes (h : (s.fp i).nozzle ≤ s.site.params.ventPressure) : enterVenting i s = ventDone i (vented i s) := by
  refine if_pos ?_
  rw [show ((setFill i .venting _).fp i) = _ from vented_fp]
  exact h

theorem ventDone_fp {r : Reason} (h : (s.fp i).reason = some r) : (ventDone i s).fp i = { s.fp i with
    fill := if r.normal then (if s.nozzleCondition i = .holstered then .idle else .complete) else .fault
    sub := none, vent := none } := by
  rw [ventDone, finish_fp r (by rw [modFp_fp_self]; exact h), modFp_fp_self]
  rfl

theorem ventDone_fault (h : (s.fp i).reason = none) :
    ventDone i s = setFill i .fault (modFp i (fun f => { f with vent := none }) s) := by
  unfold ventDone finish
  rw [modFp_fp_self]
  dsimp only
  rw [h]

/-- What a fill's step past SETTLING leaves of PCM, CQR, the meters and its settle timer. -/
structure Passed (i : FpId) (u t : State) : Prop where
  pcm : t.pcm = u.pcm
  cqr : t.cqr = u.cqr
  meter : t.meter i = u.meter i
  settle : (t.fp i).settle = (u.fp i).settle
  runs : Runs false u t

theorem Passed.setFill {st : FillState} : Passed i u (setFill i st u) :=
  ⟨by simp, by simp, by simp, by rw [setFill_fp], Runs.setFill (Runs.refl u)⟩

theorem vented_passed : Passed i u (vented i u) := by
  refine ⟨by simp [vented], by simp [vented], by simp [vented], by rw [vented_fp], ?_⟩
  exact Runs.setFill (Runs.modFp (Runs.refl u) fun _ => ⟨rfl, rfl⟩)

theorem ventDone_passed : Passed i u (ventDone i u) := by
  refine ⟨by simp [ventDone], by simp [ventDone], by simp [ventDone], ?_, Runs.ventDone (Runs.refl u)⟩
  cases h : (u.fp i).reason with
  | none =>
    rw [ventDone_fault h, setFill_fp, modFp_fp_self]
  | some r => rw [ventDone_fp h]

theorem Passed.trans (h : Passed i s u) (k : Passed i u t) : Passed i s t :=
  ⟨k.pcm.trans h.pcm, k.cqr.trans h.cqr, k.meter.trans h.meter, k.settle.trans h.settle, h.runs.trans k.runs⟩

theorem enterVenting_passed : Passed i u (enterVenting i u) := by
  by_cases h : (u.fp i).nozzle ≤ u.site.params.ventPressure
  · rw [enterVenting_passes h]
    exact vented_passed.trans ventDone_passed
  · rw [enterVenting_vents (Nat.not_le.mp h)]
    exact vented_passed

/-- Settles O53. -/
theorem settlingAndVentingEnd : Obligations.SettlingAndVentingEnd := by
  intro s i f
  refine ⟨fun d l w => ⟨_, exec_pos rfl ⟨(due_iff _).mpr d, l⟩, ?_⟩, fun n => exec_neg rfl fun h => ?_, fun d l => ?_,
    fun n => exec_neg rfl fun h => ?_⟩
  · have up := settledUp_settles l w
    have lines : (settledUp i s).lines = s.lines := congrArg Fixed.lines up.runs.fixed
    have site : (settledUp i s).site = s.site := congrArg Fixed.site up.runs.fixed
    rw [settleEnd_eq]
    generalize settledUp i s = u at *
    have passed : Passed i u (if s.site.state = .shutdown then setFill i .fault u else enterVenting i u) := by
      split
      · exact Passed.setFill
      · exact enterVenting_passed
    have runs := up.runs.trans passed.runs
    refine ⟨by rw [passed.settle, up.fp], ?_, by rw [passed.meter, up.window], runs.banks rfl, runs.fixed, fun x hx => ?_,
      fun down => ?_, fun up' high => ?_, fun r up' low hr => ?_⟩
    · unfold State.reservation
      rw [passed.pcm]
      exact up.record
    · obtain ⟨auth, posted, ⟨q, queue, num, fp, reason, price, mass, amount, start, stop, -, draw⟩, -⟩ := up.loads x hx
      refine ⟨by rw [passed.meter, auth], q, by rw [passed.cqr, queue], num, fp, reason, price, mass, amount, start, stop, draw,
        passed.runs.posts 4 posted⟩
    · rw [if_pos down, setFill_fp]
    · rw [if_neg up', enterVenting_vents (by rw [site, up.fp]; exact high), vented_fp, site]
      exact ⟨rfl, rfl⟩
    · rw [if_neg up', enterVenting_passes (by rw [site, up.fp]; exact low),
        ventDone_fp (r := r) (by rw [vented_fp, up.fp]; exact hr), nozzleCondition_of (s := s) (by simp [vented, lines])]
  · exact n.elim (fun n => n ((due_iff _).mp h.1)) (fun n => n h.2)
  · rw [exec_pos (c := .ventTimeout i) (s := s) rfl ⟨(due_iff _).mpr d, l⟩,
      setFill_changes (by rw [modFp_fp_self, show (s.fp i).fill = .venting from l]; decide) (by decide)]
    simp only [modFp, upd_upd, State.fp, sel_upd_self]
    rfl
  · exact n.elim (fun n => n ((due_iff _).mp h.1)) (fun n => n h.2)

end Sys2Proof.Machine
end

section
/-!
PROOFS. The ramp's boundaries and swaps, the downgrade and the gas temperature (chapter 7).
-/
namespace Sys2Proof.Machine

variable {i j : FpId} {k : CompId} {s t u v : State}

/-! ### A reservation is lowered (R87, R89) -/

/-- The record changes, and a fall of what is outstanding is followed up. -/
def lowered (i : FpId) (g : Reservation → Reservation) (s : State) : State :=
  if (g (s.reservation i)).outstanding < (s.reservation i).outstanding then afterFall (modReservation i g s)
  else modReservation i g s

theorem lowered_spares {g : Reservation → Reservation} (w : s.WaitOk) (q : ∀ b, (s.fp i).waitsFor b = false)
    (adm : (s.reservation i).state = .admitted) (keeps : (g (s.reservation i)).state = (s.reservation i).state) :
    Spares true (· = i) s (lowered i g s) ∧ (lowered i g s).reservation i = g (s.reservation i) := by
  have still : ∀ j, j = i → ∀ b, (s.fp j).waitsFor b = false := by
    rintro _ rfl
    exact q
  have first : Spares true (· = i) s (modReservation i g s) :=
    Spares.step (Spares.refl still) (Runs.modReservation (Runs.refl s) keeps) (c := nofun)
  have out : i ∉ s.pcm.waitList := WaitOk_out w (by rw [adm]; decide)
  unfold lowered
  split
  · have base : Spares true (· = i) (modReservation i g s) (modReservation i g s) := Spares.refl still
    obtain ⟨sp, res⟩ := base.afterFall (by rintro _ rfl; exact out) fun _ _ => rfl
    exact ⟨first.trans sp, (res i rfl).trans (modReservation_reservation_self ..)⟩
  · exact ⟨first, modReservation_reservation_self ..⟩

theorem coldSwap_eq {c old : PrecoolClass} {x : Txn} (adm : (s.reservation i).state = .admitted)
    (hc : (s.reservation i).cls = some old) (hx : (s.meter i).txn = some x) : coldSwap i c s =
    if old.code < c.code then lowered i (fun r => swapRecord r c (qOf s.pcm.entry c) x.mass) s else s := by
  unfold coldSwap
  dsimp only
  rw [adm, hc, hx]
  dsimp only
  rw [modReservation_reservation_self]
  rfl

/-- A swap reaches PCM: nothing of the fill moves but its reservation. -/
theorem coldSwap_spares {c : PrecoolClass} (w : s.WaitOk) (q : ∀ b, (s.fp i).waitsFor b = false) :
    Spares true (· = i) s (coldSwap i c s) ∧ ∀ old x, (s.reservation i).state = .admitted →
      (s.reservation i).cls = some old → (s.meter i).txn = some x → old.code < c.code →
      (coldSwap i c s).reservation i = swapRecord (s.reservation i) c (qOf s.pcm.entry c) x.mass := by
  have still : Spares true (· = i) s s := Spares.refl (by rintro _ rfl; exact q)
  by_cases h : ∃ old x, (s.reservation i).state = .admitted ∧ (s.reservation i).cls = some old ∧ (s.meter i).txn = some x
  · obtain ⟨old, x, adm, hc, hx⟩ := h
    have keeps : (swapRecord (s.reservation i) c (qOf s.pcm.entry c) x.mass).state = (s.reservation i).state := by
      unfold swapRecord
      split <;> rfl
    obtain ⟨sp, res⟩ := lowered_spares (g := fun r => swapRecord r c (qOf s.pcm.entry c) x.mass) w q adm keeps
    rw [coldSwap_eq adm hc hx]
    split
    · refine ⟨sp, fun old' y _ _ hy _ => ?_⟩
      obtain rfl := Option.some.inj (hx.symm.trans hy)
      exact res
    · next n =>
      refine ⟨still, fun old' y _ hc' _ lt => ?_⟩
      obtain rfl := Option.some.inj (hc.symm.trans hc')
      exact absurd lt n
  · have stays : coldSwap i c s = s := by
      unfold coldSwap
      dsimp only
      split
      · next old x adm hc hx => exact absurd ⟨old, x, adm, hc, hx⟩ h
      · rfl
    rw [stays]
    exact ⟨still, fun old x adm hc hx _ => absurd ⟨old, x, adm, hc, hx⟩ h⟩

theorem swapRecord_lowers {r : Reservation} {c : PrecoolClass} {q m : Nat} : (swapRecord r c q m).outstanding ≤ r.outstanding := by
  unfold swapRecord Reservation.outstanding
  split
  · exact Nat.zero_le _
  · dsimp only
    omega

/-! ### The swap (R132) -/

/-- The pending entry has become the active one, and the ramp is rebased. -/
def swapped (i : FpId) (p : RampEntry) (s : State) : State :=
  rederive i (rebase i (modFp i (fun f => { f with active := some p, pendingEntry := none, switchPending := false }) s))

/-- The transaction notes the warmer class. -/
def downgraded (i : FpId) (p : RampEntry) (s : State) : State :=
  modFp i (fun f => { f with grace := none })
    (modTxn i (fun t => { t with finalClass := some p.cls, flags := { t.flags with downgraded := true } }) s)

theorem swap_eq {p : RampEntry} : swap i p s =
    if p.rate = 0 then endFill i .tempLimit s
    else if (s.fp i).mode = .nonCommunication ∧ p.endPressure = 0 then endFill i .linkAbsent s
    else if (s.fp i).active.map (·.cls) = some p.cls then swapped i p s
    else coldSwap i p.cls (downgraded i p (swapped i p s)) := rfl

/-- What a swap leaves of a fill that goes on. -/
def Fps.swapped (f : Fps) (p : RampEntry) : Fps :=
  { f with active := some p, pendingEntry := none, switchPending := false, pstart := f.nozzle, clock := 0, pause := false }

theorem swapped_fp {p : RampEntry} : ∃ sub l g, (swapped i p s).fp i =
    { (s.fp i).swapped p with sub := some sub, lowFlow := l, grace := g } ∧
    ((s.fp i).link ≠ .stacked → (s.fp i).sync = false → sub = if s.levelHold i = true then .hold else .flow) := by
  have fp : (rebase i (modFp i (fun f => { f with active := some p, pendingEntry := none, switchPending := false }) s)).fp i =
      (s.fp i).swapped p := by
    rw [rebase, modFp_fp_self, modFp_fp_self]
    rfl
  have lines : (rebase i (modFp i (fun f => { f with active := some p, pendingEntry := none, switchPending := false }) s)).lines =
      s.lines := rfl
  unfold Machine.swapped
  generalize rebase i _ = w at *
  obtain ⟨l, g, h⟩ := rederive_fp (i := i) (s := w)
  refine ⟨_, l, g, by rw [h, fp], fun n y => ?_⟩
  rw [deriveSub_plain (by rw [fp]; exact n) (by rw [fp]; exact y) (by rw [fp]; rfl),
    levelHold_of lines (by rw [fp]; rfl) (by rw [fp]; rfl) (by rw [fp]; rfl)]

theorem swapped_rest {p : RampEntry} : swapped i p s = { s with
    fps := (swapped i p s).fps, sli := { s.sli with summary := (swapped i p s).sli.summary } } := by
  unfold swapped
  rw [rederive_rest]
  rfl

theorem swapped_runs {p : RampEntry} : Runs false s (swapped i p s) :=
  Runs.rederive (Runs.modFp (Runs.modFp (Runs.refl s) fun _ => ⟨rfl, rfl⟩) fun _ => ⟨rfl, rfl⟩)

theorem downgraded_runs {p : RampEntry} : Runs false s (downgraded i p s) :=
  Runs.modFp (Runs.modTxn (Runs.refl s) fun _ => id) fun _ => ⟨rfl, rfl⟩

/-- What PCM and MTU keep of a swap. -/
structure Swapped (i : FpId) (p : RampEntry) (s t : State) : Prop where
  fp : ∃ sub l g, t.fp i = { (s.fp i).swapped p with sub := some sub, lowFlow := l, grace := g } ∧
    ((s.fp i).link ≠ .stacked → (s.fp i).sync = false → sub = if s.levelHold i = true then .hold else .flow)
  lines : t.lines = s.lines
  same : (s.fp i).active.map (·.cls) = some p.cls → t.pcm = s.pcm ∧ t.mtu = s.mtu
  other : (s.fp i).active.map (·.cls) ≠ some p.cls → ∀ x, (s.meter i).txn = some x →
    (∃ y, (t.meter i).txn = some y ∧ y.finalClass = some p.cls ∧ y.flags.downgraded = true ∧ y.mass = x.mass) ∧
    ∀ old, (s.reservation i).state = .admitted → (s.reservation i).cls = some old → old.code < p.cls.code →
      t.reservation i = swapRecord (s.reservation i) p.cls (qOf s.pcm.entry p.cls) x.mass

theorem swap_swaps {p : RampEntry} (rate : p.rate ≠ 0) (e : (s.fp i).mode ≠ .nonCommunication ∨ p.endPressure ≠ 0)
    (w : s.WaitOk) (n : (s.fp i).link ≠ .stacked) : Swapped i p s (swap i p s) := by
  rw [swap_eq, if_neg rate, if_neg (by tauto)]
  obtain ⟨sub, l, g, fp, hsub⟩ := swapped_fp (i := i) (p := p) (s := s)
  have rest := swapped_rest (i := i) (p := p) (s := s)
  have runs := swapped_runs (i := i) (p := p) (s := s)
  generalize swapped i p s = u at *
  have pcm : u.pcm = s.pcm := by rw [rest]
  have mtu : u.mtu = s.mtu := by rw [rest]
  have lines : u.lines = s.lines := by rw [rest]
  by_cases same : (s.fp i).active.map (·.cls) = some p.cls
  · rw [if_pos same]
    exact ⟨⟨sub, l, g, fp, hsub⟩, lines, fun _ => ⟨pcm, mtu⟩, fun h => absurd same h⟩
  · rw [if_neg same]
    have dfp : (downgraded i p u).fp i = { (s.fp i).swapped p with sub := some sub, lowFlow := l, grace := none } := by
      rw [downgraded, modFp_fp_self, modTxn_eq, modMeter_fp, fp]
    have dtxn : ((downgraded i p u).meter i).txn = (s.meter i).txn.map fun t =>
        { t with finalClass := some p.cls, flags := { t.flags with downgraded := true } } := by
      rw [downgraded, modFp_meter, modTxn_eq, modMeter_meter_self, State.meter, mtu]
      rfl
    have dpcm : (downgraded i p u).pcm = s.pcm := pcm
    have dlines : (downgraded i p u).lines = s.lines := lines
    have wok : (downgraded i p u).WaitOk := (runs.trans downgraded_runs).wait w
    generalize downgraded i p u = d at *
    obtain ⟨sp, res⟩ := coldSwap_spares (c := p.cls) wok fun b => by
      rw [dfp]
      have : ((s.fp i).link == BankLink.stacked) = false := by simpa using n
      simp [Fps.waitsFor, Fps.swapped, this]
    have dres : d.reservation i = s.reservation i := by rw [State.reservation, dpcm]; rfl
    refine ⟨⟨sub, l, none, (sp.fp i rfl).trans dfp, hsub⟩, (congrArg Fixed.lines sp.runs.fixed).trans dlines,
      fun h => absurd h same, fun _ x hx => ?_⟩
    have hd : (d.meter i).txn = some { x with finalClass := some p.cls, flags := { x.flags with downgraded := true } } := by
      rw [dtxn, hx]
      rfl
    refine ⟨⟨{ x with finalClass := some p.cls, flags := { x.flags with downgraded := true } },
      by rw [sp.meter i rfl]; exact hd, rfl, rfl, rfl⟩, fun old adm hc lt => ?_⟩
    rw [res old _ (by rw [dres]; exact adm) (by rw [dres]; exact hc) hd lt, dres, dpcm]

/-! ### The boundary (R131) -/

theorem atBoundary_iff : s.atBoundary i = true ↔ s.clockRuns i = true ∧ s.site.params.segment ≤ (s.fp i).segment := by
  simp [State.atBoundary]

theorem clockRuns_filling (h : s.clockRuns i = true) : (s.fp i).fill = .filling := by
  unfold State.clockRuns at h
  rw [Bool.and_eq_true, beq_iff_eq] at h
  exact h.1

/-- The segment counter has returned to 0. -/
def segmented (i : FpId) (s : State) : State := modFp i (fun f => { f with segment := 0 }) s

theorem segmented_fp : (segmented i s).fp i = { s.fp i with segment := 0 } := modFp_fp_self ..

/-- The synchronous hold has ended. -/
def unsynced (i : FpId) (s : State) : State := modFp i (fun f => { f with sync := false }) s

theorem unsynced_fp : (unsynced i s).fp i = { s.fp i with sync := false } := modFp_fp_self ..

theorem boundary_plain (h : (s.fp i).switchPending = false) : boundary i s =
    if (s.fp i).fill = .filling ∧ (s.fp i).sync = true then
      (if s.levelHold i = true then rederive i (unsynced i (segmented i s)) else rederive i (rebase i (unsynced i (segmented i s))))
    else segmented i s := by
  have lh : (unsynced i (segmented i s)).levelHold i = s.levelHold i :=
    levelHold_of rfl (by rw [unsynced_fp, segmented_fp]) (by rw [unsynced_fp, segmented_fp]) (by rw [unsynced_fp, segmented_fp])
  unfold boundary
  dsimp only
  rw [show (modFp i (fun f => { f with segment := 0 }) s).fp i = { s.fp i with segment := 0 } from segmented_fp]
  simp only [h]
  rw [show (modFp i (fun f => { f with segment := 0 }) s).fp i = { s.fp i with segment := 0 } from segmented_fp]
  simp only [Bool.false_eq_true, false_and, if_false]
  rw [show (modFp i (fun f => { f with sync := false }) (modFp i (fun f => { f with segment := 0 }) s)).levelHold i =
    s.levelHold i from lh]
  rfl

theorem boundary_swaps {p : RampEntry} (h : (s.fp i).switchPending = true) (e : (s.fp i).pendingEntry = some p) :
    boundary i s = if ((swap i p (segmented i s)).fp i).fill = .filling ∧ ((swap i p (segmented i s)).fp i).sync = true then
      rederive i (unsynced i (swap i p (segmented i s))) else swap i p (segmented i s) := by
  unfold boundary
  dsimp only
  rw [show (modFp i (fun f => { f with segment := 0 }) s).fp i = { s.fp i with segment := 0 } from segmented_fp]
  simp only [h, e]
  rfl

/-- A fill that the swap closes stays closed. -/
theorem boundary_closes {p : RampEntry} {r : Reason} (h : (s.fp i).switchPending = true) (e : (s.fp i).pendingEntry = some p)
    (c : (segmented i s).ClosedBy (swap i p (segmented i s)) i r) : s.ClosedBy (boundary i s) i r := by
  rw [boundary_swaps h e, if_neg (by rw [c.settling]; nofun)]
  exact c.back (by unfold segmented; exact Alike.modFp fun _ => ⟨rfl, rfl⟩) rfl

theorem boundary_goes {p : RampEntry} (h : (s.fp i).switchPending = true) (e : (s.fp i).pendingEntry = some p)
    (f : (s.fp i).fill = .filling) (rate : p.rate ≠ 0) (a : (s.fp i).mode ≠ .nonCommunication ∨ p.endPressure ≠ 0)
    (w : s.WaitOk) (n : (s.fp i).link ≠ .stacked) : ∃ l g, (boundary i s).fp i =
      { (s.fp i).swapped p with
        segment := 0, sync := false, sub := some (if s.levelHold i = true then .hold else .flow), lowFlow := l, grace := g } ∧
    ((s.fp i).active.map (·.cls) = some p.cls → (boundary i s).pcm = s.pcm ∧ (boundary i s).mtu = s.mtu) ∧
    ((s.fp i).active.map (·.cls) ≠ some p.cls → ∀ x, (s.meter i).txn = some x →
      (∃ y, ((boundary i s).meter i).txn = some y ∧ y.finalClass = some p.cls ∧ y.flags.downgraded = true ∧ y.mass = x.mass) ∧
      ∀ old, (s.reservation i).state = .admitted → (s.reservation i).cls = some old → old.code < p.cls.code →
        (boundary i s).reservation i = swapRecord (s.reservation i) p.cls (qOf s.pcm.entry p.cls) x.mass) := by
  have fp0 := segmented_fp (i := i) (s := s)
  have sw := swap_swaps (i := i) (p := p) (s := segmented i s) rate (by rw [fp0]; exact a) ⟨w.once, w.members⟩
    (by rw [fp0]; exact n)
  have same : (s.fp i).active.map (·.cls) = some p.cls →
      (swap i p (segmented i s)).pcm = s.pcm ∧ (swap i p (segmented i s)).mtu = s.mtu :=
    fun q => sw.same (by rw [fp0]; exact q)
  have other := fun q => sw.other (by rw [fp0]; exact q)
  obtain ⟨sub, l, g, fp, hsub⟩ := sw.fp
  have lines : (swap i p (segmented i s)).lines = s.lines := sw.lines
  rw [boundary_swaps h e]
  generalize swap i p (segmented i s) = u at *
  rw [fp0] at fp hsub
  have lh0 : (segmented i s).levelHold i = s.levelHold i :=
    levelHold_of rfl (by rw [fp0]) (by rw [fp0]) (by rw [fp0])
  by_cases y : (s.fp i).sync = true
  · rw [if_pos (by rw [fp]; exact ⟨f, y⟩)]
    have fp1 : (unsynced i u).fp i = { (s.fp i).swapped p with
        segment := 0, sync := false, sub := some sub, lowFlow := l, grace := g } := by
      rw [unsynced_fp, fp]
      rfl
    have lh : (unsynced i u).levelHold i = s.levelHold i :=
      levelHold_of lines (by rw [fp1]; rfl) (by rw [fp1]; rfl) (by rw [fp1]; rfl)
    obtain ⟨l', g', fp2⟩ := rederive_fp (i := i) (s := unsynced i u)
    rw [deriveSub_plain (by rw [fp1]; exact n) (by rw [fp1]) (by rw [fp1]; rfl), lh, fp1] at fp2
    have rest := rederive_rest (i := i) (s := unsynced i u)
    generalize rederive i (unsynced i u) = v at *
    have pcm : v.pcm = u.pcm := by rw [rest]; rfl
    have mtu : v.mtu = u.mtu := by rw [rest]; rfl
    refine ⟨l', g', fp2, fun q => ⟨pcm.trans (same q).1, mtu.trans (same q).2⟩, fun q x hx => ?_⟩
    obtain ⟨txn, res⟩ := other q x hx
    refine ⟨by rw [State.meter, mtu]; exact txn, fun old adm hc lt => ?_⟩
    rw [State.reservation, pcm]
    exact res old adm hc lt
  · rw [if_neg (by rw [fp]; exact fun h => y h.2)]
    have y' : (s.fp i).sync = false := by simpa using y
    refine ⟨l, g, ?_, same, other⟩
    rw [fp, hsub n y', lh0]
    simp [Fps.swapped, y']

/-- A boundary ends a synchronous hold: the fill stands at the boundary, or its ramp begins anew. -/
theorem boundary_unsyncs (h : (s.fp i).switchPending = false) (f : (s.fp i).fill = .filling) (y : (s.fp i).sync = true)
    (n : (s.fp i).link ≠ .stacked) :
    (s.levelHold i = false → boundary i s = { s with
      fps := upd s.fps i { s.fp i with
        segment := 0, sync := false, sub := some .flow, pstart := (s.fp i).nozzle, clock := 0, pause := false
        lowFlow := if (s.fp i).sub = some .flow then (s.fp i).lowFlow
          else if (s.meter i).figure < s.site.params.stepFlow * 1000 then some s.site.params.stepDwell else none }
      sli := { s.sli with summary := s.sli.summary ||| if (s.fp i).sub = some .flow then 0 else BitVec.twoPow 15 i.val } }) ∧
    (s.levelHold i = true → boundary i s = { s with
      fps := upd s.fps i { s.fp i with segment := 0, sync := false, sub := some .hold, lowFlow := none, grace := none }
      sli := { s.sli with summary := s.sli.summary ||| if (s.fp i).sub = some .hold then 0 else BitVec.twoPow 15 i.val } }) := by
  rw [boundary_plain h, if_pos ⟨f, y⟩]
  have fp : (unsynced i (segmented i s)).fp i = { s.fp i with segment := 0, sync := false } := by
    rw [unsynced_fp, segmented_fp]
  have eq : unsynced i (segmented i s) = { s with fps := upd s.fps i { s.fp i with segment := 0, sync := false } } := by
    rw [unsynced, modFp, segmented_fp, segmented]
    simp only [modFp, upd_upd]
  have lh : (unsynced i (segmented i s)).levelHold i = s.levelHold i :=
    levelHold_of rfl (by rw [fp]) (by rw [fp]) (by rw [fp])
  generalize unsynced i (segmented i s) = u at *
  refine ⟨fun l => ?_, fun l => ?_⟩
  · have fp' : (rebase i u).fp i = { s.fp i with
        segment := 0, sync := false, pstart := (s.fp i).nozzle, clock := 0, pause := false } := by
      rw [rebase, modFp_fp_self, fp]
    have lh' : (rebase i u).levelHold i = u.levelHold i :=
      levelHold_of rfl (by rw [fp', fp]) (by rw [fp', fp]) (by rw [fp', fp])
    have flows : (rebase i u).deriveSub i = .flow := by
      rw [deriveSub_free (by rw [fp']; exact n) (by rw [lh', lh, l]) (by rw [fp']), fp']
      rfl
    rw [if_neg (by rw [l]; decide), rederive_flows flows, fp', rebase, eq]
    simp only [modFp, upd_upd]
    rfl
  · have holds : u.deriveSub i = .hold := deriveSub_holds (by rw [fp]; exact n) (.inl (lh.trans l))
    rw [if_pos l, rederive_held holds (by decide), fp, eq]
    simp only [upd_upd]

/-! ### The downgrade (R127, R128) -/

theorem classOrder_find {p : PrecoolClass → Bool} {c : PrecoolClass} (h : p c = true)
    (first : ∀ c', p c' = true → c.code ≤ c'.code) : classOrder.find? p = some c := by
  have away (c' : PrecoolClass) (lt : c'.code < c.code) : p c' = false := by
    rw [← Bool.not_eq_true]
    exact fun q => absurd (first c' q) (Nat.not_le.mpr lt)
  cases c <;> simp_all [classOrder, List.find?, PrecoolClass.code]

theorem classOrder_none {p : PrecoolClass → Bool} (h : ∀ c, p c ≠ true) : classOrder.find? p = none :=
  List.find?_eq_none.mpr fun c _ => h c

/-- The class is warmer, allowed, and has a rate. -/
def State.warmer (s : State) (i : FpId) (a c : PrecoolClass) : Bool :=
  decide (a.code < c.code) && (s.fp i).entry.allowed.contains c && (s.rampRow i c (s.fp i).band (s.fp i).cat).rate != 0

theorem downgradeTarget_eq {a : RampEntry} (h : (s.fp i).active = some a) :
    s.downgradeTarget i = classOrder.find? (s.warmer i a.cls) := by
  unfold State.downgradeTarget
  rw [h]
  rfl

theorem downgrade_stages {a : RampEntry} {c : PrecoolClass} (h : (s.fp i).active = some a) (w : s.warmer i a.cls c = true)
    (first : ∀ c', s.warmer i a.cls c' = true → c.code ≤ c'.code) :
    downgrade i s = modFp i (fun f => { f with
      pendingEntry := some (s.buildEntry i c (s.fp i).band), switchPending := true }) s := by
  unfold downgrade
  rw [downgradeTarget_eq h, classOrder_find w first]
  dsimp only
  rw [stage_eq h, if_neg]
  rintro ⟨rfl, -⟩
  simp [State.warmer] at w

theorem downgrade_ends {a : RampEntry} (h : (s.fp i).active = some a) (n : ∀ c, s.warmer i a.cls c ≠ true) :
    downgrade i s = closeFill i .tempLimit s := by
  unfold downgrade
  rw [downgradeTarget_eq h, classOrder_none n]

theorem downgradePending_iff {f : Fps} : f.downgradePending = true ↔ f.switchPending = true ∧
    ∃ a p, f.active = some a ∧ f.pendingEntry = some p ∧ a.cls.code < p.cls.code := by
  unfold Fps.downgradePending
  rw [Bool.and_eq_true]
  refine and_congr_right fun _ => ?_
  cases f.active with
  | none => simp
  | some a => cases f.pendingEntry <;> simp

/-! ### The gas temperature (R127) -/

/-- The gas temperature is kept. -/
def gassed (i : FpId) (v : Nat) (s : State) : State := modFp i (fun f => { f with gas := v, gasGood := true }) s

theorem gassed_fp {n : Nat} : (gassed i n s).fp i = { s.fp i with gas := n, gasGood := true } := modFp_fp_self ..

/-- The fill is under the watch of R127. -/
def Fps.watched (f : Fps) : Prop :=
  f.fill = .filling ∧ f.sub = some .flow ∧ f.watchOpen = true ∧ f.downgradePending = false

theorem gasSample_unwatched {n : Nat} (h : ¬ (s.fp i).watched ∨ s.window i = none) : gasSample i n s = gassed i n s := by
  have win : (gassed i n s).window i = s.window i := by
    unfold State.window
    rw [gassed_fp]
    rfl
  unfold gasSample
  dsimp only
  rw [show modFp i (fun f => { f with gas := n, gasGood := true }) s = gassed i n s from rfl, gassed_fp]
  rcases h with h | h
  · exact if_neg h
  · rw [win, h, ite_self]

theorem gasSample_watched {n w g : Nat} (h : (s.fp i).watched) (e : s.window i = some (w, g)) : gasSample i n s =
    modFp i (fun f => { f with grace := if w < n then some (f.grace.getD g) else none }) (gassed i n s) := by
  have win : (gassed i n s).window i = s.window i := by
    unfold State.window
    rw [gassed_fp]
    rfl
  unfold gasSample
  dsimp only
  rw [show modFp i (fun f => { f with gas := n, gasGood := true }) s = gassed i n s from rfl, gassed_fp, win, e]
  refine (if_pos h).trans ?_
  dsimp only
  by_cases hot : w < n
  · rw [if_pos hot]
    simp only [modFp, if_pos hot, gassed_fp]
    cases (s.fp i).grace <;> rfl
  · rw [if_neg hot]
    simp only [modFp, if_neg hot, gassed_fp]

/-- Settles O54. -/
theorem rampBoundariesAndDowngrades : Obligations.RampBoundariesAndDowngrades := by
  intro s i f t' row due warmer
  have isWarmer (a c : PrecoolClass) : (modFp i (fun f => { f with grace := none }) s).warmer i a c = true ↔ warmer a c := by
    unfold State.warmer State.rampRow
    rw [modFp_fp_self]
    simp only [Bool.and_eq_true, decide_eq_true_eq, List.contains_iff_mem, bne_iff_ne, and_assoc]
    rfl
  refine ⟨fun n => exec_neg rfl fun h => n (atBoundary_iff.mp h), fun d sw y => ?_, ?_,
    fun p d sw e => ⟨_, exec_pos rfl (atBoundary_iff.mpr d), fun r => ?_, fun r m z => ?_, fun r a w n => ?_⟩, fun fi o w => ?_,
    fun n => exec_neg rfl fun h => ?_, fun a d fi act => ⟨fun c w first => ?_, fun none => ?_⟩, fun n => exec_neg rfl fun h => ?_,
    ?_, ?_⟩
  · rw [exec_pos (c := .segmentBoundary i) (s := s) rfl (atBoundary_iff.mpr d), boundary_plain sw,
      if_neg fun h => absurd h.2 (by rw [show (s.fp i).sync = false from y]; decide)]
    rfl
  · intro d sw y n posted
    rw [exec_pos (c := .segmentBoundary i) (s := s) rfl (atBoundary_iff.mpr d)]
    obtain ⟨flows, holds⟩ := boundary_unsyncs sw (clockRuns_filling d.1) y n
    exact ⟨fun l => congrArg _ (flows l), fun l => congrArg _ (holds l)⟩
  · refine boundary_closes sw e ?_
    rw [swap_eq, if_pos r]
    exact endFill_closes (.inr (by rw [segmented_fp]; exact clockRuns_filling d.1))
  · refine boundary_closes sw e ?_
    rw [swap_eq, if_neg r, if_pos ⟨by rw [segmented_fp]; exact m, z⟩]
    exact endFill_closes (.inr (by rw [segmented_fp]; exact clockRuns_filling d.1))
  · have fill := clockRuns_filling d.1
    obtain ⟨l, g, fp, same, other⟩ := boundary_goes sw e fill r a w n
    rw [fp]
    refine ⟨fill, rfl, rfl, rfl, rfl, rfl, rfl, rfl, rfl, rfl, same, fun q x hx => ?_⟩
    obtain ⟨txn, res⟩ := other q x hx
    refine ⟨txn, fun old adm hc lt => ?_⟩
    rw [res old adm hc lt]
    exact ⟨rfl, swapRecord_lowers⟩
  · have due : s.watchDue i = true := by
      unfold State.watchDue
      rw [show (s.fp i).fill = .filling from fi, show (s.fp i).watchOpen = false from o]
      exact decide_eq_true w
    exact exec_pos rfl due
  · simp only [State.watchDue, Bool.and_eq_true, beq_iff_eq, Bool.not_eq_true', decide_eq_true_eq] at h
    obtain ⟨⟨fi, o⟩, w⟩ := h
    rcases n with n | n | n
    · exact n fi
    · exact absurd (o.symm.trans n) (by decide)
    · exact absurd w (Nat.not_le.mpr n)
  · rw [exec_pos (c := .downgradeGraceExpiry i) (s := s) rfl ⟨(due_iff _).mpr d, fi⟩,
      downgrade_stages (by rw [modFp_fp_self]; exact act) ((isWarmer _ _).mpr w) fun c' h => first c' ((isWarmer _ _).mp h),
      State.buildEntry, State.rampRow, modFp_fp_self]
    simp only [modFp, upd_upd, State.fp, sel_upd_self]
    rfl
  · refine ⟨_, exec_pos rfl ⟨(due_iff _).mpr d, fi⟩, ?_⟩
    rw [downgrade_ends (by rw [modFp_fp_self]; exact act) fun c h => none c ((isWarmer _ _).mp h)]
    exact (closeFill_closes _).back (Alike.modFp fun _ => ⟨rfl, rfl⟩) rfl
  · exact n.elim (fun n => n ((due_iff _).mp h.1)) (fun n => n h.2)
  · intro ch c v x box del f' becomes pending watched
    have run := exec_settled (exec_delivers del nofun)
    have isWatched : f.watched ↔ watched := by
      unfold Fps.watched
      rw [← Bool.not_eq_true, downgradePending_iff]
    refine ⟨fun h => ?_, fun a k w act mem => ?_⟩
    · have eq : gasSample i v { s with chans := upd s.chans ch x } = gassed i v { s with chans := upd s.chans ch x } := by
        refine gasSample_unwatched ?_
        rcases h with h | h | h
        · exact .inl (mt isWatched.mp h)
        · refine .inr ?_
          unfold State.window
          rw [show (State.fp { s with chans := upd s.chans ch x } i).active = none from h]
        · obtain ⟨a, ha, hc⟩ := Option.map_eq_some_iff.mp h
          refine .inr ?_
          unfold State.window
          rw [show (State.fp { s with chans := upd s.chans ch x } i).active = some a from ha]
          dsimp only
          rw [hc]
          rfl
      have run' := run (by rw [show deliver (.gasT i) v _ = _ from eq]; exact box)
      rw [show deliver (.gasT i) v _ = _ from eq] at run'
      exact run'
    · have win : State.window { s with chans := upd s.chans ch x } i = some (k.window, k.grace) := by
        unfold State.window
        rw [show (State.fp { s with chans := upd s.chans ch x } i).active = some a from act]
        dsimp only
        have : classParams s.pcm.entry a.cls = some k := by
          simp only [List.mem_cons, Prod.mk.injEq, List.not_mem_nil, or_false] at mem
          rcases mem with ⟨e, rfl⟩ | ⟨e, rfl⟩ | ⟨e, rfl⟩ <;> rw [e] <;> rfl
        rw [this]
        rfl
      have eq := gasSample_watched (i := i) (n := v) (s := { s with chans := upd s.chans ch x }) (isWatched.mpr w) win
      have run' := run (by rw [show deliver (.gasT i) v _ = _ from eq]; exact box)
      rw [show deliver (.gasT i) v _ = _ from eq] at run'
      refine ⟨fun hot => run'.trans ?_, fun cool => run'.trans ?_⟩
      · simp only [gassed, modFp, upd_upd, State.fp, sel_upd_self, if_pos hot]
        rfl
      · simp only [gassed, modFp, upd_upd, State.fp, sel_upd_self, if_neg (Nat.not_lt.mpr cool)]
        rfl
  · intro ch c x box fall s1
    refine ⟨fun fi => ?_, fun fi => ?_⟩
    · have eq : tellHeld (.gasT i) x.value (s.fallen ch x) = s1 := by
        show gasHeld i x.value _ = _
        unfold gasHeld
        dsimp only
        rw [if_neg (by rw [modFp_fp_self]; exact fi)]
        rfl
      rw [exec_settled (exec_falls fall nofun) (by rw [eq]; exact box), eq]
    · have eq : tellHeld (.gasT i) x.value (s.fallen ch x) = closeFill i .sensorFail s1 := by
        show gasHeld i x.value _ = _
        unfold gasHeld
        dsimp only
        rw [if_pos (by rw [modFp_fp_self]; exact fi)]
        rfl
      rw [exec_settled (exec_falls fall nofun) (by rw [eq, closeFill_csInbox]; exact box), eq]
      exact ⟨_, rfl, closeFill_closes _⟩

end Sys2Proof.Machine
end

section
/-!
PROOFS. A fill that waits: the wait limit, and admission without a link (5.7 and 6.4).
-/
namespace Sys2Proof.Machine

variable {i j : FpId} {k : CompId} {s t u v : State}

/-! ### A fill that waits is ended (R93, R109) -/

theorem leaveWaitList_reservation : (leaveWaitList i s).reservation i = Reservation.empty := modReservation_reservation_self ..

theorem leaveWaitList_out (w : s.WaitOk) : i ∉ (leaveWaitList i s).pcm.waitList := by
  show i ∉ s.pcm.waitList.erase i
  rw [w.once.mem_erase_iff]
  exact fun h => h.1 rfl

theorem withdrawAdmission_out (h : i ∉ s.pcm.waitList) : withdrawAdmission i s = s :=
  if_neg (by rw [List.contains_iff_mem]; exact h)

/-- A fill that stands in no wait list ends without PCM. -/
theorem endEarly_pcm {r : Reason} (h : i ∉ s.pcm.waitList) : (endEarly i r s).pcm = s.pcm := by
  have pcm : (modFp i (fun f => { f with acquisition := none }) (takeReason i r s)).pcm = s.pcm := takeReason_pcm ..
  unfold endEarly
  rw [withdrawAdmission_out (by rw [pcm]; exact h), finish_pcm, handOver_pcm]
  exact pcm

/-- An early end is not undone by what PCM then does for others. -/
theorem State.EndedEarly.spares {r : Reason} (h : s.EndedEarly u i r) (k : Spares true (· = i) u t) (out : i ∉ t.pcm.waitList) :
    s.EndedEarly t i r := by
  have fp := k.fp i rfl
  obtain ⟨fixed, banks, refill⟩ := h.rest
  exact ⟨by rw [fp]; exact h.state, by rw [fp]; exact h.reason, by rw [fp]; exact h.timers, by rw [fp]; exact h.hold,
    by rw [k.link i rfl]; exact h.receiver, out, by rw [k.meter i rfl, k.cqr]; exact h.record,
    k.runs.fixed.trans fixed, (k.runs.banks rfl).trans banks, k.refill.trans refill⟩

theorem State.EndedEarly.quiet {r : Reason} (h : s.EndedEarly u i r) (b : BankId) : (u.fp i).waitsFor b = false := by
  have away : (u.fp i).fill ≠ .leakCheck ∧ (u.fp i).fill ≠ .filling := by
    rw [h.state]
    split
    · split <;> decide
    · decide
  obtain ⟨a, b⟩ := away
  simp [Fps.waitsFor, a, b]

/-- An early end is not undone where the wait list's head is then looked at. -/
theorem State.EndedEarly.head {r : Reason} (h : s.EndedEarly u i r) :
    s.EndedEarly (evalHead u) i r ∧ (evalHead u).reservation i = u.reservation i := by
  have base : Spares true (· = i) u u := Spares.refl (by rintro _ rfl; exact h.quiet)
  obtain ⟨sp, keeps⟩ := base.evalHead (by rintro _ rfl; exact h.waits) fun _ _ => rfl
  exact ⟨h.spares sp fun m => h.waits (evalHeads_list _ i m), keeps i rfl⟩

theorem waitEnd_ends (w : s.WaitOk) (f : (s.fp i).fill = .precoolWait) : s.EndedEarly (waitEnd i s) i .precoolTimeout ∧
    ((waitEnd i s).reservation i).state = .noRecord := by
  have runs : Runs false s (leaveWaitList i s) := Runs.leaveWaitList (Runs.refl s)
  have alike : Alike i s (leaveWaitList i s) := ⟨runs.fixed, rfl, rfl, rfl, rfl, rfl, rfl⟩
  have ended := (endEarly_ends (s := leaveWaitList i s) .precoolTimeout (runs.wait w) (.inr f)).back alike
    fun x hx => ⟨x, hx, rfl, rfl⟩
  have norec : ((endEarly i .precoolTimeout (leaveWaitList i s)).reservation i).state = .noRecord := by
    rw [State.reservation, endEarly_pcm (leaveWaitList_out w)]
    exact congrArg Reservation.state leaveWaitList_reservation
  unfold waitEnd
  dsimp only
  rw [endFill_early (s := leaveWaitList i s) (.inr f)]
  generalize endEarly i .precoolTimeout (leaveWaitList i s) = u at *
  split
  · obtain ⟨e, res⟩ := ended.head
    exact ⟨e, by rw [res]; exact norec⟩
  · exact ⟨ended, norec⟩

/-! ### Admission without a link (R29, R31, R91, R100) -/

/-- The mode is NON_COMMUNICATION: the transaction notes it. -/
def linkless (i : FpId) (s : State) : State :=
  setFlags i (fun g => { g with noncomm := true }) (modLink i (fun v => { v with state := .lost })
    (modFp i (fun f => { f with mode := .nonCommunication, category := some f.entry.category }) s))

theorem linkless_fp : (linkless i s).fp i = { s.fp i with mode := .nonCommunication, category := some (s.fp i).entry.category } := by
  rw [linkless, setFlags_fp, modLink_fp, modFp_fp_self]

theorem linkless_txn : ((linkless i s).meter i).txn = (s.meter i).txn.map fun t =>
    { t with flags := { t.flags with noncomm := true } } := by
  rw [linkless, setFlags, modTxn_eq, modMeter_meter_self]
  rfl

theorem linkless_link : ((linkless i s).link i).state = .lost := by
  rw [linkless, setFlags, modTxn_eq, modMeter_link, modLink_link_self]

/-- A fill admitted to a class enters LEAK_CHECK with it. -/
theorem fpsAdmitted_goes {c : PrecoolClass} {b : Band} : Goes i (enteredLeak i (admittedFill i c b s)) (fpsAdmitted i c b s) := by
  rw [fpsAdmitted_eq]
  exact enterLeakCheck_goes

theorem admitFill_reservation {e : Nat} {c : Category} {cl : PrecoolClass} : (admitFill i e c cl s).reservation i =
    admittedRecord e c cl s.pcm.band (reservationFor e (qOf s.pcm.entry cl)) := by
  unfold admitFill
  dsimp only
  split
  · rw [evalChiller_reservation, modReservation_reservation_self]
  · rw [modReservation_reservation_self]

/-- What an admission leaves at the fill and its records. -/
structure Admitted (i : FpId) (c : PrecoolClass) (b : Band) (r : Reservation) (s t : State) : Prop where
  fill : (t.fp i).fill = .leakCheck ∨ (t.fp i).fill = .settling
  context : (t.fp i).context = { (s.fp i).context with admClass := some c, admBand := some b }
  window : (t.meter i).window = true
  flags : (t.meter i).txn.map (·.flags) = (s.meter i).txn.map (·.flags)
  record : t.reservation i = r

/-- LEAK_CHECK as it is entered by an admission, before its first bank. -/
def admittedLeak (i : FpId) (e : Nat) (c : Category) (cl : PrecoolClass) (s : State) : State :=
  enteredLeak i (admittedFill i cl s.pcm.band (admitFill i e c cl s))

section
variable {e : Nat} {c : Category} {cl : PrecoolClass}

theorem admittedLeak_fp : (admittedLeak i e c cl s).fp i =
    { s.fp i with admClass := some cl, admBand := some s.pcm.band, fill := .leakCheck, sub := none,
                  maxFill := some (s.fp i).entry.maxFillTime } := by
  rw [admittedLeak, enteredLeak_fp, admittedFill_fp, admitFill_fp]

theorem admittedLeak_meter : (admittedLeak i e c cl s).meter i =
    { s.meter i with
      window := true, txn := (s.meter i).txn.map fun t => { t with startClass := some cl, finalClass := some cl } } := by
  rw [admittedLeak, enteredLeak, modMeter_meter_self, setFill_meter, modFp_meter, admittedFill, modTxn_eq, modMeter_meter_self,
    modFp_meter, admitFill_meter]

theorem admittedLeak_pcm : (admittedLeak i e c cl s).pcm = (admitFill i e c cl s).pcm := by
  rw [admittedLeak, enteredLeak, modMeter_pcm, setFill_pcm, modFp_pcm, admittedFill, modTxn_eq, modMeter_pcm, modFp_pcm]

theorem Txn.context_flags (m : Meter) : m.context.txn.map (·.flags) = m.txn.map (·.flags) := by
  rw [Meter.context, Option.map_map]
  rfl

theorem admits_admitted : Admitted i cl s.pcm.band (admittedRecord e c cl s.pcm.band (reservationFor e (qOf s.pcm.entry cl))) s
    (fpsAdmitted i cl s.pcm.band (admitFill i e c cl s)) := by
  have go : Goes i (admittedLeak i e c cl s) (fpsAdmitted i cl s.pcm.band (admitFill i e c cl s)) := fpsAdmitted_goes
  generalize fpsAdmitted i cl s.pcm.band (admitFill i e c cl s) = t at *
  have res : (admittedLeak i e c cl s).reservation i = (admitFill i e c cl s).reservation i := by
    rw [State.reservation, admittedLeak_pcm]
    rfl
  have fill := go.fill
  have context := go.context
  have meter := go.meter
  rw [admittedLeak_fp] at fill context
  rw [admittedLeak_meter] at meter
  refine ⟨fill, context, congrArg Meter.window meter, ?_, ?_⟩
  · rw [← Txn.context_flags, meter, Txn.context_flags, Option.map_map]
    rfl
  · rw [State.reservation, go.pcm]
    exact res.trans admitFill_reservation

theorem joinWaitList_list : (joinWaitList i e c s).pcm.waitList = s.pcm.waitList ++ [i] := by
  unfold joinWaitList
  rw [setFill_pcm]
  rfl

theorem joinWaitList_reservation : (joinWaitList i e c s).reservation i =
    { Reservation.empty with state := .waiting, estimate := e, category := some c, waitTimer := some s.pcm.entry.waitLimit } := by
  unfold joinWaitList
  rw [State.reservation, setFill_pcm]
  simp only [modPcm, modReservation, sel_upd_self]

theorem joinWaitList_meter : (joinWaitList i e c s).meter i = s.meter i := by
  unfold joinWaitList
  rw [setFill_meter]
  rfl

theorem reservationFor_eq {q : Nat} : reservationFor e q = (e * q + 999) / 1000 := by
  unfold reservationFor ceilDiv
  omega

theorem admitClass_first (h : s.classAdmits i e c cl = true) (first : ∀ c', s.classAdmits i e c c' = true → cl.code ≤ c'.code) :
    s.admitClass i e c = some cl := classOrder_find h first

theorem admitClass_none (h : ∀ cl, s.classAdmits i e c cl ≠ true) : s.admitClass i e c = none := classOrder_none h

theorem classAdmits_iff : s.classAdmits i e c cl = true ↔ cl ∈ (s.fp i).entry.allowed ∧
    (s.rampRow i cl s.pcm.band c).rate ≠ 0 ∧ (cl = .tamb ∨ (e * qOf s.pcm.entry cl + 999) / 1000 ≤ s.free cl) := by
  simp [State.classAdmits, and_assoc, reservationFor_eq]

end

/-- The estimate of a fill without a link (R29). -/
def State.blindEstimate (s : State) (i : FpId) : Nat :=
  estimateOf (s.fp i).entry.defaultEstimate (s.meter i).auth.kind (s.meter i).auth.value (s.fp i).entry.maxMass

/-- The fill without a link, with its estimate formed. -/
def blind (i : FpId) (s : State) : State :=
  modFp i (fun f => { f with estimate := some (s.blindEstimate i), category := some (s.fp i).entry.category }) (linkless i s)

theorem blind_fp : (blind i s).fp i = { s.fp i with
    mode := .nonCommunication, category := some (s.fp i).entry.category, estimate := some (s.blindEstimate i) } := by
  rw [blind, modFp_fp_self, linkless_fp]

theorem linkless_levelHold : (linkless i s).levelHold i = true ↔ s.combined .siteHold = true ∨ (s.fp i).hostHold = true := by
  rw [levelHold_iff, linkless_fp]
  simp only [reduceCtorEq, and_false, or_false]
  rfl

theorem goWithoutLink_eq : goWithoutLink i s = leaveIfFree i (linkless i s) := rfl

theorem goWithoutLink_held (h : s.combined .siteHold = true ∨ (s.fp i).hostHold = true) : goWithoutLink i s = linkless i s := by
  rw [goWithoutLink_eq, leaveIfFree_stays (.inr (linkless_levelHold.mpr h))]

theorem goWithoutLink_asks (h : s.combined .siteHold = false) (o : (s.fp i).hostHold = false) : goWithoutLink i s =
    requestAdmission i (s.blindEstimate i) (s.fp i).entry.category (blind i s) := by
  have free : (linkless i s).levelHold i = false := by
    rw [← Bool.not_eq_true, linkless_levelHold, h, o]
    decide
  have est : formEstimate i (linkless i s) = blind i s := by
    rw [formEstimate_default (by rw [linkless_fp]; nofun), linkless_fp, blind]
    have auth : ((linkless i s).meter i).auth = (s.meter i).auth := by
      rw [linkless, setFlags, modTxn_eq, modMeter_meter_self]
      rfl
    rw [auth]
    rfl
  rw [goWithoutLink_eq, leaveIfFree_leaves (by rw [linkless_fp]; nofun) free, leaveLinkWait, est, blind_fp]
  rfl

/-- What every way of going on without a link leaves of the fill. -/
structure Blind (i : FpId) (s t : State) : Prop where
  acquisition : (t.fp i).acquisition = (s.fp i).acquisition
  mode : (t.fp i).mode = .nonCommunication
  category : (t.fp i).category = some (s.fp i).entry.category
  txn : ∀ x, (s.meter i).txn = some x → ∃ y, (t.meter i).txn = some y ∧ y.flags.noncomm = true

theorem linkless_blind : Blind i s (linkless i s) := by
  refine ⟨by rw [linkless_fp], by rw [linkless_fp], by rw [linkless_fp], fun x hx => ?_⟩
  rw [linkless_txn, hx]
  exact ⟨_, rfl, rfl⟩

theorem Blind.of_flags (m : (t.meter i).txn.map (·.flags) = ((blind i s).meter i).txn.map (·.flags))
    (f : ∃ a b, (t.fp i).context = { ((blind i s).fp i).context with admClass := a, admBand := b }) : Blind i s t := by
  obtain ⟨a, b, f⟩ := f
  rw [blind_fp] at f
  have acquisition := congrArg Fps.acquisition f
  have mode := congrArg Fps.mode f
  have category := congrArg Fps.category f
  refine ⟨acquisition, mode, category, fun x hx => ?_⟩
  have e : ((blind i s).meter i).txn = some { x with flags := { x.flags with noncomm := true } } := by
    rw [blind, modFp_meter, linkless_txn, hx]
    rfl
  rw [e, Option.map_some, Option.map_eq_some_iff] at m
  obtain ⟨y, hy, flags⟩ := m
  exact ⟨y, hy, by rw [flags]⟩

theorem blind_reservation : (blind i s).reservation i = s.reservation i := rfl

theorem blind_blind : Blind i s (blind i s) := .of_flags rfl ⟨((blind i s).fp i).admClass, ((blind i s).fp i).admBand, rfl⟩

theorem goWithoutLink_blind : Blind i s (goWithoutLink i s) := by
  by_cases held : s.combined .siteHold = true ∨ (s.fp i).hostHold = true
  · rw [goWithoutLink_held held]
    exact linkless_blind
  rw [not_or, Bool.not_eq_true, Bool.not_eq_true] at held
  rw [goWithoutLink_asks held.1 held.2]
  by_cases norec : ((blind i s).reservation i).state = .noRecord
  · by_cases waits : (blind i s).pcm.waitList ≠ [] ∨
        (blind i s).admitClass i (s.blindEstimate i) (s.fp i).entry.category = none
    · rw [requestAdmission_waits norec waits]
      exact .of_flags (by rw [joinWaitList_meter]) (joinWaitList_asked ..).context
    · rw [not_or, not_not] at waits
      obtain ⟨cl, hcl⟩ := Option.ne_none_iff_exists'.mp waits.2
      rw [requestAdmission_admits norec waits.1 hcl]
      have adm := admits_admitted (i := i) (e := s.blindEstimate i) (c := (s.fp i).entry.category) (cl := cl) (s := blind i s)
      exact .of_flags adm.flags ⟨_, _, adm.context⟩
  · rw [requestAdmission_held norec]
    exact blind_blind

/-- Settles O50. -/
theorem waitingFillsTimeOut : Obligations.WaitingFillsTimeOut := by
  intro s i f r estimate g admits
  refine ⟨fun d st fill w => ⟨_, exec_pos rfl ⟨(due_iff _).mpr d, st⟩, waitEnd_ends w fill⟩, fun n => exec_neg rfl fun h => ?_,
    fun d fill => ?_, fun n => exec_neg rfl fun h => ?_⟩
  · exact n.elim (fun n => n ((due_iff _).mp h.1)) (fun n => n h.2)
  · have e := exec_pos (c := .linkAcquisitionExpiry i) (s := s) rfl ⟨(due_iff _).mpr d, fill⟩
    dsimp only at e
    have fp := modFp_fp_self (s := s) i fun f => { f with acquisition := none }
    have alike : Alike i s (modFp i (fun f => { f with acquisition := none }) s) := Alike.modFp fun _ => ⟨rfl, rfl⟩
    have runs : Runs false s (modFp i (fun f => { f with acquisition := none }) s) := Runs.modFp (Runs.refl s) fun _ => ⟨rfl, rfl⟩
    have meter : (modFp i (fun f => { f with acquisition := none }) s).meter i = s.meter i := rfl
    have pcm : (modFp i (fun f => { f with acquisition := none }) s).pcm = s.pcm := rfl
    have comb : (modFp i (fun f => { f with acquisition := none }) s).combined .siteHold = s.combined .siteHold := rfl
    have ramp : (modFp i (fun f => { f with acquisition := none }) s).ramp = s.ramp := rfl
    generalize modFp i (fun f => { f with acquisition := none }) s = u at *
    have est : u.blindEstimate i = estimate := by
      unfold State.blindEstimate
      rw [fp, meter]
    refine ⟨fun c w => ?_, fun c => ?_⟩
    · rw [if_pos c] at e
      exact ⟨_, e, (endFill_ends (.inl (by rw [fp]; exact fill)) (runs.wait w)).back alike
        fun x hx => ⟨x, by rw [meter]; exact hx, rfl, rfl⟩⟩
    · rw [if_neg (by rw [show (s.fp i).entry.commRequired = false from c]; decide)] at e
      have bl := goWithoutLink_blind (i := i) (s := u)
      refine ⟨_, e, bl.acquisition.trans (by rw [fp]), bl.mode, bl.category.trans (by rw [fp]),
        fun x hx => bl.txn x (by rw [meter]; exact hx), fun held => ?_, fun sh hh norec => ?_⟩
      · rw [goWithoutLink_held (by rw [comb, fp]; exact held), linkless_fp, fp]
        exact ⟨fill, pcm, linkless_link⟩
      rw [goWithoutLink_asks (comb.trans sh) (by rw [fp]; exact hh), est, fp]
      have res : (blind i u).reservation i = s.reservation i := by
        rw [blind_reservation, State.reservation, pcm]
        rfl
      have bpcm : (blind i u).pcm = s.pcm := pcm
      have bfp : (blind i u).fp i = { s.fp i with
          acquisition := none, mode := .nonCommunication, category := some f.entry.category, estimate := some estimate } := by
        rw [blind_fp, fp, est]
      have adm (cl : PrecoolClass) : (blind i u).classAdmits i estimate f.entry.category cl = true ↔ admits cl := by
        rw [classAdmits_iff, State.rampRow, bfp, bpcm, show (blind i u).ramp = s.ramp from ramp,
          show (blind i u).free cl = s.free cl by unfold State.free State.avail State.outstandingSum; rw [bpcm]]
      generalize blind i u = v at *
      refine ⟨?_, fun waits => ?_, fun c wl ad first => ?_⟩
      · obtain ⟨a, b, ctx⟩ := (requestAdmission_asked (s := v) (e := estimate) (c := f.entry.category)
          (by rw [res]; exact norec)).context
        have := congrArg Fps.estimate ctx
        rw [bfp] at this
        exact this
      · rw [requestAdmission_waits (by rw [res]; exact norec) (by
          rw [bpcm]
          exact waits.imp id fun none => admitClass_none fun cl h => none cl ((adm cl).mp h)),
          joinWaitList_fp, joinWaitList_list, joinWaitList_reservation, bpcm]
        exact ⟨rfl, rfl, rfl⟩
      · rw [requestAdmission_admits (by rw [res]; exact norec) (by rw [bpcm]; exact wl)
          (admitClass_first ((adm c).mpr ad) fun c' h => Nat.le_of_not_lt fun lt => first c' lt ((adm c').mp h))]
        have a := admits_admitted (i := i) (e := estimate) (c := f.entry.category) (cl := c) (s := v)
        rw [bpcm, reservationFor_eq] at a
        rw [bpcm]
        generalize fpsAdmitted i c s.pcm.band _ = t at *
        have cls := congrArg Fps.admClass a.context
        have band := congrArg Fps.admBand a.context
        exact ⟨a.fill, cls, band, a.window, a.record⟩
  · exact n.elim (fun n => n ((due_iff _).mp h.1)) (fun n => n h.2)

end Sys2Proof.Machine
end

section
/-!
PROOFS. The first vehicle frame (6.4, 8.3 and 8.4), with what no other unit and no end of a fill touches.
-/
namespace Sys2Proof.Machine

variable {i j : FpId} {k : CompId} {s s0 t u v : State} {own : Bool}

/-! ### What no other unit and no end of a fill touches -/

/-- A fuelling point without what its bank, its substate, its end and, where `own` says so, its admission move. -/
def Fps.frame (own : Bool) (f : Fps) : Fps :=
  { f.context with admClass := if own then none else f.admClass, admBand := if own then none else f.admBand }

/-- From `s` to `t` the frame of the fill of `i`, and what its receiver has latched, stand. -/
structure Framed (own : Bool) (i : FpId) (s t : State) : Prop where
  fp : (t.fp i).frame own = (s.fp i).frame own
  link : (t.link i).ended = (s.link i).ended

theorem Framed.refl (s : State) : Framed own i s s := ⟨rfl, rfl⟩

theorem Framed.trans (h : Framed own i s t) (k : Framed own i t u) : Framed own i s u := ⟨k.fp.trans h.fp, k.link.trans h.link⟩

/-- The sequencers and the receivers are not touched. -/
theorem Framed.same (h : Framed own i s0 s) (f : t.fps = s.fps := by rfl) (l : t.vlr = s.vlr := by rfl) : Framed own i s0 t :=
  h.trans ⟨by rw [State.fp, f]; rfl, by rw [State.link, l]; rfl⟩

theorem Framed.modFp {g : Fps → Fps} (h : Framed own i s0 s)
    (k : ∀ x : Fps, (g x).frame own = x.frame own := by exact fun _ => rfl) :
    Framed own i s0 (modFp j g s) := by
  refine h.trans ⟨?_, rfl⟩
  rw [modFp_fp]
  split
  · next e => rw [k, e]
  · rfl

theorem Framed.modTxn {g : Txn → Txn} (h : Framed own i s0 s) : Framed own i s0 (modTxn j g s) := h.same

theorem Framed.modMeter {g : Meter → Meter} (h : Framed own i s0 s) : Framed own i s0 (modMeter j g s) := h.same

theorem Framed.requestBank {r : Requester} {b : BankId} (h : Framed own i s0 s) : Framed own i s0 (requestBank r b s).1 :=
  h.same (by rw [requestBank_parts]) (by rw [requestBank_parts])

theorem Framed.postIf {b : Bool} {n : Nat} (h : Framed own i s0 s) : Framed own i s0 (postIf b n s) :=
  h.same (by rw [postIf_eq]) (by rw [postIf_eq])

theorem Framed.setFill {st : FillState} (h : Framed own i s0 s) : Framed own i s0 (setFill j st s) := Framed.postIf (Framed.modFp h)

theorem Framed.endLink (h : Framed own i s0 s) : Framed own i s0 (endLink j s) := by
  refine h.trans ⟨rfl, ?_⟩
  rw [Machine.endLink, modLink_link]
  split
  · next e =>
    rw [e]
    rfl
  · rfl

theorem Framed.setSub {x : Substate} (h : Framed own i s0 s) : Framed own i s0 (setSub j x s) := by
  have e (old : Option Substate) (low : Bool) (dwell : Nat) (f : Fps) : (flowTimers old x low dwell f).frame own = f.frame own := by
    unfold flowTimers
    split <;> (try split) <;> rfl
  exact Framed.postIf (Framed.modFp h fun f => e _ _ _ f)

theorem Framed.rederive (h : Framed own i s0 s) : Framed own i s0 (rederive j s) := h.setSub

theorem Framed.fpsTake {b : BankId} (h : Framed own i s0 s) : Framed own i s0 (fpsTake j b s) := by
  have g : Framed own i s0 (openDraw j b (Machine.modFp j (fun f => { f with link := .granted, bankWait := none }) s)) :=
    Framed.modTxn (Framed.modFp h)
  unfold Machine.fpsTake
  dsimp only
  split
  · split
    · exact g
    · exact Framed.modFp g
  · exact g.rederive
  all_goals exact g

theorem Framed.tellGranted {r : Requester} {b : BankId} (h : Framed own i s0 s) : Framed own i s0 (tellGranted r b s).1 := by
  unfold Machine.tellGranted
  split
  · split
    · exact h.fpsTake
    · exact h
  · split
    · exact Framed.postIf (h.same (t := modComp _ _ (modComp _ _ s)))
    · exact h

theorem Framed.competeFor {n : Nat} {b : BankId} (h : Framed own i s0 s) : Framed own i s0 (competeFor n b s) := by
  induction n generalizing s with
  | zero => exact h
  | succ n ih =>
    unfold Machine.competeFor
    split
    · exact h
    · next r _ =>
      have told : Framed own i s0 (Machine.tellGranted r b (setHolder b (some r) (setStacked b ((s.stackedAt b).erase r) s))).1 :=
        Framed.tellGranted h.same
      dsimp only
      split
      · exact ih told.same
      · exact told

theorem Framed.letGo {r : Requester} {b : BankId} (h : Framed own i s0 s) : Framed own i s0 (letGo r b s) := by
  have released : Framed own i s0 (releaseBank r b s) := by
    unfold releaseBank compete
    split
    · split
      · exact Framed.competeFor h.same
      · exact h.same
    · exact h
  exact released.same

theorem Framed.takeReason {r : Reason} (h : Framed own i s0 s) : Framed own i s0 (takeReason j r s) := by
  unfold Machine.takeReason
  dsimp only
  split
  · exact Framed.modTxn (Framed.modFp h)
  · exact Framed.modFp h

theorem Framed.closeFill {r : Reason} (h : Framed own i s0 s) : Framed own i s0 (closeFill j r s) := by
  have settles : Framed own i s0 (Machine.setFill j .settling (Machine.modFp j (fun f =>
      { f with settle := some s.site.params.settleWindow }) s)) := Framed.setFill (Framed.modFp h)
  have before : Framed own i s0 (beforeRelease j r s) := Framed.modFp (Framed.modTxn settles.takeReason)
  rw [closeFill_eq]
  unfold letGoOfBank
  split
  · exact before.letGo.endLink
  · exact before.endLink

theorem Framed.tryBanks {l : List BankId} {why : Reason} (h : Framed own i s0 s) : Framed own i s0 (tryBanks j l why s) := by
  induction l generalizing s why with
  | nil => exact h.closeFill
  | cons b rest ih =>
    unfold Machine.tryBanks
    split
    · have asks : Framed own i s0
          (Machine.requestBank (fpReq j) b (Machine.modFp j (fun f => { f with cascadePos := some b }) s)).1 :=
        Framed.requestBank (Framed.modFp h)
      dsimp only
      split
      · exact asks.fpsTake
      · have waits : Framed own i s0 (Machine.modFp j (fun f =>
            { f with link := .stacked, bankWait := some s.site.params.bankWait }) _) := Framed.modFp asks
        split
        · exact waits.rederive
        · exact waits
      · exact ih asks
    · exact ih h

theorem Framed.enterLeakCheck (h : Framed own i s0 s) : Framed own i s0 (enterLeakCheck j s) := by
  have entered : Framed own i s0 (enteredLeak j s) := Framed.modMeter (Framed.setFill (Framed.modFp h))
  unfold Machine.enterLeakCheck
  dsimp only
  split
  · exact entered.tryBanks
  · exact entered.closeFill

theorem Framed.fpsAdmitted {c : PrecoolClass} {b : Band} (h : Framed own i s0 s) (o : own = true ∨ j ≠ i) :
    Framed own i s0 (fpsAdmitted j c b s) := by
  refine Framed.enterLeakCheck (Framed.modTxn (h.trans ⟨?_, rfl⟩))
  rcases o with o | o
  · rw [modFp_fp, o]
    split
    · next e => rw [e]; rfl
    · rfl
  · rw [modFp_fp, if_neg o]

theorem Framed.evalHeads {n : Nat} (h : Framed own i s0 s) (o : own = true ∨ i ∉ s.pcm.waitList) :
    Framed own i s0 (evalHeads n s) := by
  induction n generalizing s with
  | zero => exact h
  | succ n ih =>
    unfold Machine.evalHeads
    split
    · exact h
    · next j rest list =>
      rw [list] at o
      dsimp only
      split
      · exact h
      · next c _ =>
        obtain ⟨fps, -, vlr, -⟩ := admit_parts
        refine ih (Framed.fpsAdmitted (h.same fps vlr) (o.imp_right fun o e => o (e ▸ List.mem_cons_self)))
          (o.imp_right fun o m => o (List.mem_cons_of_mem _ ?_))
        rw [fpsAdmitted_pcm, admit_waitList] at m
        exact m

theorem Framed.withdrawAdmission (h : Framed true i s0 s) : Framed true i s0 (withdrawAdmission j s) := by
  have leaves : Framed true i s0 (leaveWaitList j s) := h.same
  unfold Machine.withdrawAdmission
  split
  · split
    · exact leaves.evalHeads (.inl rfl)
    · exact leaves
  · exact h

theorem Framed.finish (h : Framed true i s0 s) : Framed true i s0 (finish j s) := by
  unfold Machine.finish
  split
  · split
    · dsimp only
      split
      · exact h.setFill.setFill
      · exact h.setFill
    · exact h.setFill
  · exact h.setFill

/-- The end of a fill that no longer waits for its link leaves its frame. -/
theorem Framed.endEarly {r : Reason} (h : Framed true i s0 s) (a : (s.fp i).acquisition = none) :
    Framed true i s0 (endEarly i r s) := by
  have taken : Framed true i s0 (Machine.takeReason i r s) := h.takeReason
  have cleared : Framed true i s0 (Machine.modFp i (fun f => { f with acquisition := none }) (Machine.takeReason i r s)) := by
    refine taken.trans ⟨?_, rfl⟩
    rw [modFp_fp_self, takeReason_fp]
    simp only [Fps.frame, Fps.context, a]
  have handed : Framed true i s0 (handOver i r false (Machine.endLink i (Machine.withdrawAdmission i
      (Machine.modFp i (fun f => { f with acquisition := none }) (Machine.takeReason i r s))))) :=
    cleared.withdrawAdmission.endLink.trans ⟨by rw [handOver_fp], by rw [handOver_link]⟩
  exact handed.finish

theorem Framed.endFill {r : Reason} (h : Framed true i s0 s) (a : (s.fp i).acquisition = none) :
    Framed true i s0 (endFill i r s) := by
  unfold Machine.endFill
  split
  · exact h.endEarly a
  · exact h.endEarly a
  · exact h.closeFill
  · exact h.closeFill
  all_goals exact h

/-! ### The first frame (R100, R145, R147) -/

section Frame
variable {d : VehicleData} {bytes : List Byte} {rc : PressureClass} {n : Nat}

/-- The SOC that a frame reports (R26). -/
def State.socNow (s : State) (i : FpId) (d : VehicleData) : Nat :=
  min 1000 (socRaw (s.lookup d.pressure d.temperature).density (fullOf s.site.params (s.fp i).entry.pressureClass))

theorem takeSoc_fp : (takeSoc i d s).fp i = { s.fp i with presentSoc := some (s.socNow i d) } := by
  unfold takeSoc
  dsimp only
  split
  · rw [setFlags_fp, modFp_fp_self]
    rfl
  · rw [modFp_fp_self]
    rfl

/-- The SOC is kept at the sequencer, and a clamped look-up noted in the transaction. -/
theorem takeSoc_rest : takeSoc i d s = { s with fps := upd s.fps i { s.fp i with presentSoc := some (s.socNow i d) }
                                                mtu := (takeSoc i d s).mtu } := by
  unfold takeSoc
  dsimp only
  split <;> rfl

/-- The part as it stands once the first frame has decided the mode. -/
def heard (i : FpId) (n : Nat) (rc : PressureClass) (d : VehicleData) (s : State) : State :=
  takeSoc i d (modFp i (fun f => { f with
      acquisition := none, category := some (categoryFor n), firstP := some d.pressure, firstT := some d.temperature,
      mode := .communication }) (modLink i (fun l => l.up n rc d s.site.params.linkLoss) s))

theorem linkUp_eq (f : (s.fp i).fill = .linkWait) (m : (s.fp i).mode = .undecided) :
    linkUpReport i n rc d (modLink i (fun l => l.up n rc d s.site.params.linkLoss) s) =
    if rc ≠ ((heard i n rc d s).fp i).entry.pressureClass then endFill i .classMismatch (heard i n rc d s)
    else match d.command with
      | .abort => endFill i .linkAbort (heard i n rc d s)
      | .halt => modFp i (fun f => { f with vehicleHold := true }) (heard i n rc d s)
      | .run => leaveIfFree i (heard i n rc d s) := if_pos ⟨f, m⟩

theorem heard_fp : ∃ soc, (heard i n rc d s).fp i = { s.fp i with
    acquisition := none, category := some (categoryFor n), firstP := some d.pressure, firstT := some d.temperature
    mode := .communication, presentSoc := soc } := by
  rw [heard, takeSoc_fp, modFp_fp_self]
  exact ⟨_, rfl⟩

theorem heard_rest : heard i n rc d s = { s with
    fps := (heard i n rc d s).fps, mtu := (heard i n rc d s).mtu
    vlr := upd s.vlr i ((s.link i).up n rc d s.site.params.linkLoss) } := by
  unfold heard
  rw [takeSoc_rest]
  rfl

theorem heard_auth : ((heard i n rc d s).meter i).auth = (s.meter i).auth := by
  unfold heard takeSoc
  dsimp only
  split
  · rw [setFlags, modTxn_eq, modMeter_meter_self]
    rfl
  · rfl

theorem formEstimate_linked_frame {p q v : Nat} (m : (s.fp i).mode = .communication) (hp : (s.fp i).firstP = some p)
    (hq : (s.fp i).firstT = some q) (hv : (s.link i).volume = some v) :
    ∃ e, (formEstimate i s).fp i = { s.fp i with estimate := some e } := by
  have category : ((formEstimate i s).fp i).category = (s.fp i).category := by
    unfold formEstimate
    dsimp only
    rw [m, hp, hq, hv]
    dsimp only
    split
    · rw [setFlags_fp, modFp_fp_self]
    · rw [modFp_fp_self]
  obtain ⟨e, c, fp⟩ := (formEstimate_estimated (i := i) (s := s)).fp
  rw [fp] at category
  exact ⟨e, by rw [fp, show c = _ from category]⟩

/-- What the first frame latches, however the fill goes on. -/
structure Latched (i : FpId) (n : Nat) (rc : PressureClass) (d : VehicleData) (t : State) : Prop where
  mode : (t.fp i).mode = .communication
  acquisition : (t.fp i).acquisition = none
  category : (t.fp i).category = some (categoryFor n)
  firstP : (t.fp i).firstP = some d.pressure
  firstT : (t.fp i).firstT = some d.temperature
  volume : (t.link i).volume = some n
  receptacle : (t.link i).receptacle = some rc
  last : (t.link i).last = some d

theorem heard_latched : Latched i n rc d (heard i n rc d s) := by
  obtain ⟨soc, fp⟩ := heard_fp (i := i) (n := n) (rc := rc) (d := d) (s := s)
  have link : (heard i n rc d s).link i = (s.link i).up n rc d s.site.params.linkLoss := by
    rw [heard_rest]
    exact sel_upd_self ..
  exact ⟨by rw [fp], by rw [fp], by rw [fp], by rw [fp], by rw [fp], by rw [link]; rfl, by rw [link]; rfl, by rw [link]; rfl⟩

theorem Latched.framed (h : Latched i n rc d s) (f : Framed true i s t) : Latched i n rc d t := by
  have fp {α : Type} (g : Fps → α) (e : ∀ x : Fps, g (x.frame true) = g x) : g (t.fp i) = g (s.fp i) := by
    rw [← e, f.fp, e]
  have link {α : Type} (g : Vlr → α) (e : ∀ x : Vlr, g x.ended = g x) : g (t.link i) = g (s.link i) := by
    rw [← e, f.link, e]
  exact ⟨(fp (·.mode) fun _ => rfl).trans h.mode, (fp (·.acquisition) fun _ => rfl).trans h.acquisition,
    (fp (·.category) fun _ => rfl).trans h.category, (fp (·.firstP) fun _ => rfl).trans h.firstP,
    (fp (·.firstT) fun _ => rfl).trans h.firstT, (link (·.volume) fun _ => rfl).trans h.volume,
    (link (·.receptacle) fun _ => rfl).trans h.receptacle, (link (·.last) fun _ => rfl).trans h.last⟩

theorem Asked.framed (h : Asked i s t) : Framed true i s t := by
  obtain ⟨a, b, e⟩ := h.context
  refine ⟨?_, h.link⟩
  unfold Fps.frame
  rw [e]
  rfl

theorem Latched.estimate (h : Latched i n rc d s) : Latched i n rc d (formEstimate i s) := by
  obtain ⟨e, fp⟩ := formEstimate_linked_frame h.mode h.firstP h.firstT h.volume
  have link : (formEstimate i s).link i = s.link i := by
    rw [(formEstimate_estimated (i := i) (s := s)).rest]
    rfl
  exact ⟨by rw [fp]; exact h.mode, by rw [fp]; exact h.acquisition, by rw [fp]; exact h.category, by rw [fp]; exact h.firstP,
    by rw [fp]; exact h.firstT, by rw [link]; exact h.volume, by rw [link]; exact h.receptacle, by rw [link]; exact h.last⟩

theorem Latched.leaves (h : Latched i n rc d s) : Latched i n rc d (leaveIfFree i s) := by
  cases l : s.levelHold i
  · rw [leaveIfFree_leaves (by rw [h.mode]; decide) l]
    by_cases norec : (s.reservation i).state = .noRecord
    · exact h.estimate.framed (leaveLinkWait_asked norec).framed
    · rw [leaveLinkWait_held norec]
      exact h.estimate
  · rw [leaveIfFree_stays (.inr l)]
    exact h

theorem takeFrame_first (l : (s.link i).state = .listening) (c : checkFrame bytes = .valid n rc d) : takeFrame i bytes s =
    linkUpReport i n rc d (modLink i (fun v => v.up n rc d s.site.params.linkLoss) s) := by
  unfold takeFrame
  rw [l, c]

/-- Settles O48. -/
theorem firstFrameDecidesTheMode : Obligations.FirstFrameDecidesTheMode := by
  intro s i bytes volume rc d ls check fill mode
  have e : exec (.vehicleFrame i bytes) s = .next _ :=
    congrArg Host.Outcome.next ((takeFrame_first ls check).trans (linkUp_eq fill mode))
  have latched := heard_latched (i := i) (n := volume) (rc := rc) (d := d) (s := s)
  obtain ⟨soc, fp⟩ := heard_fp (i := i) (n := volume) (rc := rc) (d := d) (s := s)
  have rest := heard_rest (i := i) (n := volume) (rc := rc) (d := d) (s := s)
  have auth := heard_auth (i := i) (n := volume) (rc := rc) (d := d) (s := s)
  generalize heard i volume rc d s = u at *
  have link : u.link i = (s.link i).up volume rc d s.site.params.linkLoss := by
    rw [rest]
    exact sel_upd_self ..
  have pcm : u.pcm = s.pcm := by rw [rest]
  have lines : u.lines = s.lines := by rw [rest]
  have ufill : (u.fp i).fill = .linkWait := by rw [fp]; exact fill
  have wok (w : s.WaitOk) : u.WaitOk := by
    refine ⟨by rw [pcm]; exact w.once, fun j => ?_⟩
    rw [State.reservation, pcm]
    exact w.members j
  have entry : (u.fp i).entry.pressureClass = (s.fp i).entry.pressureClass := by rw [fp]
  rw [entry] at e
  by_cases other : rc ≠ (s.fp i).entry.pressureClass
  · rw [if_pos other] at e
    have kept := latched.framed (Framed.endFill (r := .classMismatch) (Framed.refl u) latched.acquisition)
    refine ⟨_, e, kept.mode, kept.acquisition, kept.category, kept.firstP, kept.firstT, kept.volume, kept.receptacle, kept.last,
      fun _ w => ?_, fun h => absurd h other, fun h => absurd h other, fun h => absurd h other, fun h => absurd h other⟩
    have ended := endFill_ends (r := .classMismatch) (.inl ufill) (wok w)
    exact ⟨ended.state, ended.reason, ended.receiver⟩
  rw [if_neg other] at e
  rw [not_not] at other
  cases cmd : d.command with
  | abort =>
    rw [cmd] at e
    have kept := latched.framed (Framed.endFill (r := .linkAbort) (Framed.refl u) latched.acquisition)
    refine ⟨_, e, kept.mode, kept.acquisition, kept.category, kept.firstP, kept.firstT, kept.volume, kept.receptacle, kept.last,
      fun h => absurd other h, fun _ _ w => ?_, fun _ => nofun, fun _ => nofun, fun _ => nofun⟩
    have ended := endFill_ends (r := .linkAbort) (.inl ufill) (wok w)
    refine ⟨?_, ended.reason, ended.receiver⟩
    rw [ended.state]
    split
    · split <;> decide
    · decide
  | halt =>
    rw [cmd] at e
    have hfp := modFp_fp_self (s := u) i fun f => { f with vehicleHold := true }
    refine ⟨_, e, by rw [hfp]; exact latched.mode, by rw [hfp]; exact latched.acquisition, by rw [hfp]; exact latched.category,
      by rw [hfp]; exact latched.firstP, by rw [hfp]; exact latched.firstT, latched.volume, latched.receptacle, latched.last,
      fun h => absurd other h, fun _ => nofun, fun _ _ => ⟨by rw [hfp]; exact ufill, by rw [hfp], ?_, ?_, pcm⟩, fun _ => nofun,
      fun _ => nofun⟩
    · exact (congrArg Vlr.state link).trans rfl
    · exact (congrArg Vlr.loss link).trans rfl
  | run =>
    rw [cmd] at e
    have kept := latched.leaves
    refine ⟨_, e, kept.mode, kept.acquisition, kept.category, kept.firstP, kept.firstT, kept.volume, kept.receptacle, kept.last,
      fun h => absurd other h, fun _ => nofun, fun _ => nofun, fun _ _ held => ?_, fun _ _ free _ norec => ?_⟩
    · rw [leaveIfFree_stays (.inr (levelHold_iff.mpr (.inr (.inl (by rw [fp]; exact held)))))]
      exact ⟨ufill, (congrArg Vlr.state link).trans rfl, pcm⟩
    · next vh =>
      obtain ⟨sh, hh, -⟩ := levelHold_false_iff.mp free
      have ufree : u.levelHold i = false := by
        refine levelHold_false_iff.mpr ⟨?_, by rw [fp]; exact hh, fun h => ?_⟩
        · unfold State.combined
          rw [lines]
          exact sh
        · rw [fp] at h
          exact absurd (h.symm.trans vh) (by decide)
      have asked := leaveLinkWait_asked (i := i) (s := u) (by rw [State.reservation, pcm]; exact norec)
      rw [leaveIfFree_leaves (by rw [latched.mode]; decide) ufree]
      refine ⟨asked.fill, ?_⟩
      obtain ⟨a, b, ctx⟩ := asked.context
      refine (congrArg Fps.estimate ctx).trans ?_
      refine (formEstimate_linked latched.mode latched.firstP latched.firstT latched.volume).trans ?_
      have params : u.site = s.site := by rw [rest]
      have lookup (p t : Nat) : u.lookup p t = s.lookup p t := by
        rw [rest]
        rfl
      rw [auth, entry, params, State.socTarget, auth, fp, other, lookup]
      rfl

end Frame

end Sys2Proof.Machine
end

section
/-!
PROOFS. Vehicle frames after the first, and the loss of the link (8.2 and 8.4 to 8.6).
-/
namespace Sys2Proof.Machine

variable {i j : FpId} {k : CompId} {s s0 t u v : State} {d : VehicleData} {bytes : List Byte} {rc : PressureClass} {n : Nat}

/-! ### The checks of a frame (R142, R143) -/

section Check
variable (long : bytes.length = 13) (crc : num bytes 11 2 = (crc16 (bytes.take 11)).toNat)

theorem checkFrame_length (h : bytes.length ≠ 13) : checkFrame bytes = .formatError := if_pos h

include long in
theorem checkFrame_crc (h : num bytes 11 2 ≠ (crc16 (bytes.take 11)).toNat) : checkFrame bytes = .crcError := by
  rw [checkFrame, if_neg (not_not.mpr long), if_pos h]

include long crc in
theorem checkFrame_version (h : num bytes 0 1 ≠ 1) : checkFrame bytes = .formatError := by
  rw [checkFrame, if_neg (not_not.mpr long), if_neg (not_not.mpr crc), if_pos h]

include long crc in
theorem checkFrame_fields (h : num bytes 0 1 = 1) : checkFrame bytes = frameFields bytes := by
  rw [checkFrame, if_neg (not_not.mpr long), if_neg (not_not.mpr crc), if_neg (not_not.mpr h)]

end Check

theorem receptacleOf_some {x : Nat} (h : receptacleOf x = some rc) : x = 70 ∨ x = 35 := by
  unfold receptacleOf at h
  split at h
  · exact .inl ‹_›
  · split at h
    · exact .inr ‹_›
    · cases h

theorem vehicleCommandOf_some {x : Nat} {c : VehicleCommand} (h : vehicleCommandOf x = some c) : x ≤ 2 := by
  unfold vehicleCommandOf at h
  split at h
  · decide
  · decide
  · decide
  · cases h

theorem frameFields_range
    (h : (num bytes 1 1 ≠ 70 ∧ num bytes 1 1 ≠ 35) ∨ num bytes 2 2 = 0 ∨ 4000 < num bytes 2 2 ∨ 100000 < num bytes 4 4 ∨
      num bytes 8 2 < 1000 ∨ 4500 < num bytes 8 2 ∨ 2 < num bytes 10 1) : frameFields bytes = .rangeError := by
  unfold frameFields
  split
  · next rc' c hr hc =>
    refine if_neg ?_
    rw [Bool.and_eq_true, Bool.and_eq_true, inRange_iff, inRange_iff, inRange_iff]
    have := receptacleOf_some hr
    have := vehicleCommandOf_some hc
    omega
  · rfl

theorem takeFrame_idle (l : (s.link i).state = .idle) : takeFrame i bytes s = s := by
  unfold takeFrame
  rw [l]

theorem takeFrame_error {e : FrameCheck} (l : (s.link i).state ≠ .idle) (c : checkFrame bytes = e)
    (bad : ∀ v rc d, e ≠ .valid v rc d) : takeFrame i bytes s = modLink i (fun l => l.countError e) s := by
  unfold takeFrame
  rw [c]
  cases h : (s.link i).state with
  | idle => exact absurd h l
  | _ =>
    cases e with
    | valid v rc d => exact absurd rfl (bad v rc d)
    | _ => rfl

theorem takeFrame_ignored (l : (s.link i).state = .lost ∨ (s.link i).state = .implausible)
    (c : checkFrame bytes = .valid n rc d) :
    takeFrame i bytes s = modLink i (fun l => { l with ignored := countUp l.ignored }) s := by
  unfold takeFrame
  rw [c]
  rcases l with l | l <;> rw [l]

theorem takeFrame_up (l : (s.link i).state = .up) (c : checkFrame bytes = .valid n rc d) :
    takeFrame i bytes s = frameInUp i d s := by
  unfold takeFrame
  rw [l, c]

/-! ### The hold re-examined in FILLING (R106, R133) -/

/-- A fuelling point without its substate, its ramp's origin and the timers of FLOW. -/
def Fps.still (f : Fps) : Fps := { f with sub := none, lowFlow := none, grace := none, pstart := 0, clock := 0, pause := false }

theorem rederive_still : ((rederive i s).fp i).still = (s.fp i).still := by
  obtain ⟨l, g, h⟩ := rederive_fp (i := i) (s := s)
  rw [h]
  rfl

theorem holdsChanged_still {was : Bool} (f : (s.fp i).fill = .filling) :
    ((holdsChanged i was s).fp i).still = (s.fp i).still ∧ (holdsChanged i was s).vlr = s.vlr ∧
      (holdsChanged i was s).mtu = s.mtu := by
  rw [holdsChanged_filling f]
  split
  · refine ⟨rederive_still.trans ?_, ?_, ?_⟩
    · rw [rebase, modFp_fp_self]
      rfl
    · rw [rederive_rest]
      rfl
    · rw [rederive_rest]
      rfl
  · refine ⟨rederive_still, ?_, ?_⟩ <;> rw [rederive_rest]

theorem closeFill_link {r : Reason} : (closeFill i r s).link i = (s.link i).ended := by
  rw [closeFill_eq, endLink, modLink_link_self, (letGoOfBank_spares r).link i rfl]
  have : (beforeRelease i r s).link i = s.link i := by
    unfold beforeRelease takeReason
    dsimp only
    split <;> simp [closeDraw, modTxn]
  rw [this]

/-! ### The link is given up (R150, R151) -/

/-- The mode is NON_COMMUNICATION, and the transaction notes why. -/
def switched (i : FpId) (loss : Bool) (s : State) : State :=
  modFp i (fun f => { f with mode := .nonCommunication, vehicleHold := false })
    (setFlags i (fun g => if loss then { g with linkLost := true } else { g with implausible := true }) s)

theorem switched_fp {loss : Bool} : (switched i loss s).fp i = { s.fp i with mode := .nonCommunication, vehicleHold := false } := by
  rw [switched, modFp_fp_self, setFlags_fp]

theorem switched_rest {loss : Bool} : switched i loss s = { s with
    fps := upd s.fps i { s.fp i with mode := .nonCommunication, vehicleHold := false }, mtu := (switched i loss s).mtu } := rfl

theorem switched_flags {loss : Bool} {x : Txn} (h : (s.meter i).txn = some x) : ∃ y, ((switched i loss s).meter i).txn = some y ∧
    if loss then y.flags.linkLost = true else y.flags.implausible = true := by
  rw [switched, modFp_meter, setFlags, modTxn_eq, modMeter_meter_self, h]
  refine ⟨_, rfl, ?_⟩
  cases loss <;> rfl

/-- The end pressure of the active entry. -/
def Fps.endPressure (f : Fps) : Nat := (f.active.map (·.endPressure)).getD 0

theorem switchMode_eq {loss : Bool} (r : (s.fp i).fill.running = true) (m : (s.fp i).mode = .communication) :
    switchMode i loss s =
      if (s.fp i).entry.commRequired then endFill i .linkAbsent (switched i loss s)
      else if (s.fp i).fill = .filling ∧ (s.fp i).endPressure = 0 then endFill i .linkAbsent (switched i loss s)
      else if (s.fp i).fill = .filling ∧ (s.fp i).endPressure ≤ (s.fp i).nozzle then
        endFill i .targetPressure (switched i loss s)
      else holdsChanged i (s.levelHold i) (switched i loss s) := if_pos ⟨r, m⟩

theorem switchMode_stays {loss : Bool} (h : (s.fp i).mode ≠ .communication ∨ (s.fp i).fill.running = false) :
    switchMode i loss s = s := by
  refine if_neg fun q => ?_
  rcases h with h | h
  · exact h q.2
  · exact absurd (h.symm.trans q.1) (by decide)

/-- What the loss of its link does to a fill in FILLING. -/
structure WithoutLink (i : FpId) (loss : Bool) (s t : State) : Prop where
  absent : (s.fp i).entry.commRequired = true ∨ (s.fp i).endPressure = 0 → (switched i loss s).ClosedBy t i .linkAbsent
  target : (s.fp i).entry.commRequired = false → (s.fp i).endPressure ≠ 0 → (s.fp i).endPressure ≤ (s.fp i).nozzle →
    (switched i loss s).ClosedBy t i .targetPressure
  goes : (s.fp i).entry.commRequired = false → (s.fp i).nozzle < (s.fp i).endPressure →
    (t.fp i).still = ((switched i loss s).fp i).still ∧ t.link i = s.link i
  link : t.link i = s.link i ∨ t.link i = (s.link i).ended
  txn : (t.meter i).context = ((switched i loss s).meter i).context

theorem switchMode_filling {loss : Bool} (f : (s.fp i).fill = .filling) (m : (s.fp i).mode = .communication) :
    WithoutLink i loss s (switchMode i loss s) := by
  have fill : ((switched i loss s).fp i).fill = .filling := by rw [switched_fp]; exact f
  have closes (r : Reason) := closeFill_closes (i := i) (s := switched i loss s) r
  have goes (r : Reason) := (Goes.closeFill (r := r) (Goes.refl (i := i) (switched i loss s))).meter
  have link (r : Reason) : (closeFill i r (switched i loss s)).link i = (s.link i).ended := closeFill_link
  rw [switchMode_eq (by rw [f]; rfl) m, endFill_close (.inr fill), endFill_close (.inr fill)]
  by_cases comm : (s.fp i).entry.commRequired = true
  · rw [if_pos comm]
    exact ⟨fun _ => closes _, fun h => absurd (h.symm.trans comm) (by decide), fun h => absurd (h.symm.trans comm) (by decide),
      .inr (link _), goes _⟩
  rw [if_neg comm]
  by_cases zero : (s.fp i).endPressure = 0
  · rw [if_pos ⟨f, zero⟩]
    exact ⟨fun _ => closes _, fun _ h => absurd zero h, fun _ h => absurd h (by rw [zero]; exact Nat.not_lt_zero _),
      .inr (link _), goes _⟩
  rw [if_neg fun h => zero h.2]
  by_cases reached : (s.fp i).endPressure ≤ (s.fp i).nozzle
  · rw [if_pos ⟨f, reached⟩]
    exact ⟨fun h => (h.elim comm zero).elim, fun _ _ _ => closes _, fun _ h => absurd reached (Nat.not_le.mpr h),
      .inr (link _), goes _⟩
  · rw [if_neg fun h => reached h.2]
    obtain ⟨still, vlr, mtu⟩ := holdsChanged_still (was := s.levelHold i) fill
    have same : (holdsChanged i (s.levelHold i) (switched i loss s)).link i = s.link i := by
      rw [State.link, vlr]
      rfl
    refine ⟨fun h => (h.elim comm zero).elim, fun _ _ h => absurd h reached, fun _ _ => ⟨still, same⟩, .inl same, ?_⟩
    rw [State.meter, mtu]
    rfl

theorem switched_alike {loss : Bool} (fx : u.fixed = s.fixed) (bk : u.banks = s.banks) (rf : u.refill = s.refill)
    (cq : u.cqr = s.cqr) (fp : u.fp i = s.fp i) :
    Alike i { s with fps := upd s.fps i { s.fp i with mode := .nonCommunication, vehicleHold := false } } (switched i loss u) := by
  have left : Runs false s { s with fps := upd s.fps i { s.fp i with mode := .nonCommunication, vehicleHold := false } } :=
    Runs.modFp (i := i) (f := fun f => { f with mode := .nonCommunication, vehicleHold := false }) (Runs.refl s) fun _ => ⟨rfl, rfl⟩
  have right : Runs false u (switched i loss u) := by
    unfold switched setFlags
    exact Runs.modFp (Runs.modTxn (Runs.refl u) fun _ => id) fun _ => ⟨rfl, rfl⟩
  have lfp : State.fp { s with fps := upd s.fps i { s.fp i with mode := .nonCommunication, vehicleHold := false } } i =
      { s.fp i with mode := .nonCommunication, vehicleHold := false } := sel_upd_self ..
  refine ⟨right.fixed.trans (fx.trans left.fixed.symm), bk, rf, cq, ?_, ?_, ?_⟩ <;> rw [lfp, switched_fp, fp]

/-- Before FILLING the loss of the link ends a fill that needs it, and decides the mode of another. -/
theorem switchMode_waits {loss : Bool} (f : (s.fp i).fill = .precoolWait ∨ (s.fp i).fill = .leakCheck)
    (m : (s.fp i).mode = .communication) (c : (s.fp i).entry.commRequired = false) :
    ∃ p, (switchMode i loss s).fp i = { s.fp i with mode := .nonCommunication, vehicleHold := false, leakPulse := p } ∧
      (switchMode i loss s).link i = s.link i ∧ (switchMode i loss s).pcm = s.pcm := by
  have notFilling : (s.fp i).fill ≠ .filling := by rcases f with f | f <;> rw [f] <;> decide
  rw [switchMode_eq (by rcases f with f | f <;> rw [f] <;> rfl) m, if_neg (by rw [c]; decide),
    if_neg fun h => notFilling h.1, if_neg fun h => notFilling h.1]
  have fp := switched_fp (i := i) (s := s) (loss := loss)
  rcases f with f | f
  · rw [holdsChanged_other (by rw [fp, f]; decide) (by rw [fp, f]; decide) (by rw [fp, f]; decide)]
    exact ⟨(s.fp i).leakPulse, fp, rfl, rfl⟩
  · rw [holdsChanged_leakCheck (by rw [fp]; exact f)]
    split
    · rw [beginPulse, modFp_fp_self, fp]
      exact ⟨_, rfl, rfl, rfl⟩
    · exact ⟨(s.fp i).leakPulse, fp, rfl, rfl⟩

/-! ### A frame in UP (R126, R146, R147, R149) -/

theorem implausAfter_near {count tank nozzle margin : Nat} {flow : Bool}
    (h : ¬ (flow = true ∧ (nozzle + margin < tank ∨ tank + margin < nozzle))) : implausAfter count flow tank nozzle margin = 0 := by
  refine if_neg ?_
  simpa using h

theorem implausAfter_away {count tank nozzle margin : Nat} {flow : Bool}
    (h : flow = true ∧ (nozzle + margin < tank ∨ tank + margin < nozzle)) :
    implausAfter count flow tank nozzle margin = min 3 (count + 1) := by
  refine if_pos ?_
  simpa using h

/-- The pressure a frame reports is away from the nozzle's in FLOW. -/
def State.away (s : State) (i : FpId) (d : VehicleData) : Prop :=
  (s.fp i).fill = .filling ∧ (s.fp i).sub = some .flow ∧
    ((s.fp i).nozzle + s.site.params.plausMargin < d.pressure ∨ d.pressure + s.site.params.plausMargin < (s.fp i).nozzle)

theorem flowing_iff : ((s.fp i).fill == .filling && (s.fp i).sub == some .flow) = true ↔
    (s.fp i).fill = .filling ∧ (s.fp i).sub = some .flow := by simp

/-- The receiver keeps the frame. -/
def keepsFrame (i : FpId) (d : VehicleData) (n : Nat) (s : State) : State :=
  modLink i (fun v => { v with loss := some s.site.params.linkLoss, implausCount := n, last := some d }) s

/-- The link is IMPLAUSIBLE. -/
def implausible (i : FpId) (s : State) : State :=
  modLink i (fun v => { v with state := .implausible, loss := none, implausCount := 3 }) s

theorem frameInUp_near (h : ¬ s.away i d) : frameInUp i d s = frameReport i d (keepsFrame i d 0 s) := by
  unfold frameInUp
  dsimp only
  rw [implausAfter_near (by rw [flowing_iff, and_assoc]; exact h)]
  rfl

theorem frameInUp_away (h : s.away i d) : frameInUp i d s =
    if 2 ≤ (s.link i).implausCount then switchMode i false (implausible i s)
    else frameReport i d (keepsFrame i d ((s.link i).implausCount + 1) s) := by
  unfold frameInUp
  dsimp only
  rw [implausAfter_away (by rw [flowing_iff, and_assoc]; exact h)]
  by_cases c : 2 ≤ (s.link i).implausCount
  · rw [if_pos c, if_pos (by omega)]
    rfl
  · rw [if_neg c, if_neg (by omega), show min 3 ((s.link i).implausCount + 1) = (s.link i).implausCount + 1 by omega]
    rfl

/-- The frame is kept and its SOC computed. -/
def socTaken (i : FpId) (d : VehicleData) (n : Nat) (s : State) : State := takeSoc i d (keepsFrame i d n s)

theorem socTaken_fp : (socTaken i d n s).fp i = { s.fp i with presentSoc := some (s.socNow i d) } := takeSoc_fp

theorem socTaken_link : (socTaken i d n s).link i =
    { s.link i with loss := some s.site.params.linkLoss, implausCount := n, last := some d } := by
  unfold socTaken
  rw [takeSoc_rest]
  show (keepsFrame i d n s).link i = _
  rw [keepsFrame, modLink_link_self]

theorem socTaken_rest : socTaken i d n s = { s with
    fps := upd s.fps i { s.fp i with presentSoc := some (s.socNow i d) }, mtu := (socTaken i d n s).mtu
    vlr := (socTaken i d n s).vlr } := by
  unfold socTaken
  rw [takeSoc_rest]
  rfl

theorem takeSoc_meter : ∃ g, (takeSoc i d s).meter i = { s.meter i with txn := (s.meter i).txn.map g } ∧
    ∀ x : Txn, (g x).price = x.price ∧ (g x).mass = x.mass := by
  unfold takeSoc
  dsimp only
  split
  · rw [setFlags, modTxn_eq, modMeter_meter_self]
    exact ⟨_, rfl, fun _ => ⟨rfl, rfl⟩⟩
  · refine ⟨id, ?_, fun _ => ⟨rfl, rfl⟩⟩
    rw [Option.map_id]
    rfl

theorem socTaken_meter : ∃ g, (socTaken i d n s).meter i = { s.meter i with txn := (s.meter i).txn.map g } ∧
    ∀ x : Txn, (g x).price = x.price ∧ (g x).mass = x.mass := takeSoc_meter (s := keepsFrame i d n s)

theorem socTaken_runs : Runs false s (socTaken i d n s) := by
  unfold socTaken keepsFrame takeSoc setFlags
  dsimp only
  split
  · exact Runs.modTxn (Runs.modFp (Runs.modLink (Runs.refl s)) fun _ => ⟨rfl, rfl⟩) fun _ => id
  · exact Runs.modFp (Runs.modLink (Runs.refl s)) fun _ => ⟨rfl, rfl⟩

/-- What the part keeps as a frame is taken, apart from the frame itself. -/
theorem socTaken_alike :
    Alike i { s with fps := upd s.fps i { s.fp i with presentSoc := some (s.socNow i d) } } (socTaken i d n s) := by
  have left : Runs false s { s with fps := upd s.fps i { s.fp i with presentSoc := some (s.socNow i d) } } :=
    Runs.modFp (i := i) (f := fun f => { f with presentSoc := some (s.socNow i d) }) (Runs.refl s) fun _ => ⟨rfl, rfl⟩
  have lfp : State.fp { s with fps := upd s.fps i { s.fp i with presentSoc := some (s.socNow i d) } } i =
      { s.fp i with presentSoc := some (s.socNow i d) } := sel_upd_self ..
  refine ⟨socTaken_runs.fixed.trans left.fixed.symm, ?_, ?_, ?_, by rw [lfp, socTaken_fp], by rw [lfp, socTaken_fp],
    by rw [lfp, socTaken_fp]⟩ <;> rw [socTaken_rest]

theorem frameReport_waits (m : (s.fp i).mode = .communication)
    (f : (s.fp i).fill = .linkWait ∨ (s.fp i).fill = .precoolWait ∨ (s.fp i).fill = .leakCheck) :
    frameReport i d (keepsFrame i d n s) = vehicleAct i d.command (socTaken i d n s) := by
  refine (if_pos m).trans ?_
  rw [show (keepsFrame i d n s).fp i = s.fp i from rfl]
  rcases f with f | f | f <;> rw [f] <;> rfl

theorem frameReport_filling (m : (s.fp i).mode = .communication) (f : (s.fp i).fill = .filling) :
    frameReport i d (keepsFrame i d n s) =
      match (socTaken i d n s).frameTest i d with
      | some r => endFill i r (socTaken i d n s)
      | none => vehicleAct i d.command (socTaken i d n s) := by
  refine (if_pos m).trans ?_
  rw [show (keepsFrame i d n s).fp i = s.fp i from rfl, f]
  rfl

theorem frameTest_taken : (socTaken i d n s).frameTest i d =
    if 3580 ≤ d.temperature then some .tempLimit
    else if s.socTarget i ≤ s.socNow i d then some .targetSoc else none := by
  obtain ⟨g, meter, -⟩ := socTaken_meter (i := i) (d := d) (n := n) (s := s)
  unfold State.frameTest State.socTarget
  rw [socTaken_fp, meter]
  rfl

/-- The state in which only the SOC of the frame is kept, as the fill's end is told from. -/
def socNoted (i : FpId) (d : VehicleData) (s : State) : State :=
  { s with fps := upd s.fps i { s.fp i with presentSoc := some (s.socNow i d) } }

theorem socTaken_closes (r : Reason) : (socNoted i d s).ClosedBy (closeFill i r (socTaken i d n s)) i r :=
  (closeFill_closes r).back socTaken_alike (by rw [socTaken_rest]; rfl)

/-- Where a hold of the vehicle is set or ended in FILLING. -/
theorem vehicleAct_filling {c : VehicleCommand} (f : (s.fp i).fill = .filling) (n : c ≠ .abort) :
    ((vehicleAct i c s).fp i).still = { (s.fp i).still with vehicleHold := c == .halt } ∧
      (vehicleAct i c s).link i = s.link i := by
  have held (b : Bool) : ((holdsChanged i (s.levelHold i) (modFp i (fun f => { f with vehicleHold := b }) s)).fp i).still =
      { (s.fp i).still with vehicleHold := b } ∧
      (holdsChanged i (s.levelHold i) (modFp i (fun f => { f with vehicleHold := b }) s)).link i = s.link i := by
    have fp := modFp_fp_self (s := s) i fun f => { f with vehicleHold := b }
    obtain ⟨still, vlr, -⟩ := holdsChanged_still (i := i) (was := s.levelHold i)
      (s := modFp i (fun f => { f with vehicleHold := b }) s) (by rw [fp]; exact f)
    refine ⟨by rw [still, fp]; rfl, ?_⟩
    rw [State.link, vlr]
    rfl
  cases c with
  | abort => exact absurd rfl n
  | halt => exact held true
  | run => exact held false

/-- What a frame does in FILLING where the link stays plausible. -/
theorem frameReport_fills (m : (s.fp i).mode = .communication) (f : (s.fp i).fill = .filling) :
    let t := frameReport i d (keepsFrame i d n s)
    (t.link i).last = some d ∧
    (3580 ≤ d.temperature → (socNoted i d s).ClosedBy t i .tempLimit) ∧
    (d.temperature < 3580 → s.socTarget i ≤ s.socNow i d → (socNoted i d s).ClosedBy t i .targetSoc) ∧
    (d.temperature < 3580 → s.socNow i d < s.socTarget i →
      (d.command = .abort → (socNoted i d s).ClosedBy t i .linkAbort) ∧
      (d.command ≠ .abort → (t.fp i).fill = .filling ∧ (t.fp i).presentSoc = some (s.socNow i d) ∧
        ((t.fp i).vehicleHold = true ↔ d.command = .halt) ∧ (t.link i).loss = some s.site.params.linkLoss ∧
        (t.link i).implausCount = n)) := by
  intro t
  have ht : t = _ := frameReport_filling (d := d) (n := n) m f
  have fill : ((socTaken i d n s).fp i).fill = .filling := by rw [socTaken_fp]; exact f
  have link := socTaken_link (i := i) (d := d) (n := n) (s := s)
  have last (r : Reason) : ((closeFill i r (socTaken i d n s)).link i).last = some d := by
    rw [closeFill_link, link]
    rfl
  have closes (r : Reason) := socTaken_closes (i := i) (d := d) (n := n) (s := s) r
  rw [frameTest_taken] at ht
  by_cases hot : 3580 ≤ d.temperature
  · rw [if_pos hot] at ht
    replace ht : t = closeFill i .tempLimit (socTaken i d n s) := ht.trans (endFill_close (.inr fill))
    rw [ht]
    exact ⟨last _, fun _ => closes _, fun h => absurd hot (Nat.not_le.mpr h), fun h => absurd hot (Nat.not_le.mpr h)⟩
  rw [if_neg hot] at ht
  by_cases full : s.socTarget i ≤ s.socNow i d
  · rw [if_pos full] at ht
    replace ht : t = closeFill i .targetSoc (socTaken i d n s) := ht.trans (endFill_close (.inr fill))
    rw [ht]
    exact ⟨last _, fun h => absurd h hot, fun _ _ => closes _, fun _ h => absurd full (Nat.not_le.mpr h)⟩
  rw [if_neg full] at ht
  dsimp only at ht
  by_cases abort : d.command = .abort
  · rw [abort] at ht
    replace ht : t = closeFill i .linkAbort (socTaken i d n s) := ht.trans (endFill_close (.inr fill))
    rw [ht]
    exact ⟨last _, fun h => absurd h hot, fun _ h => absurd h full, fun _ _ => ⟨fun _ => closes _, fun h => absurd abort h⟩⟩
  · obtain ⟨still, same⟩ := vehicleAct_filling (c := d.command) fill abort
    rw [← ht] at still same
    rw [socTaken_fp] at still
    rw [link] at same
    refine ⟨by rw [same], fun h => absurd h hot, fun _ h => absurd h full, fun _ _ => ⟨fun h => absurd h abort, fun _ => ?_⟩⟩
    refine ⟨(congrArg Fps.fill still).trans f, congrArg Fps.presentSoc still, ?_, by rw [same], by rw [same]⟩
    have hold : (t.fp i).vehicleHold = (d.command == .halt) := congrArg Fps.vehicleHold still
    rw [hold, beq_iff_eq]

/-- What a frame's command does to a fill that waits for its link or its cold, or checks for leaks. -/
structure Commanded (i : FpId) (d : VehicleData) (s w t : State) : Prop where
  closed : d.command = .abort → (s.fp i).fill = .leakCheck → (socNoted i d s).ClosedBy t i .linkAbort
  ended : d.command = .abort → (s.fp i).fill ≠ .leakCheck → s.WaitOk → (socNoted i d s).EndedEarly t i .linkAbort
  halted : d.command = .halt →
    t = modFp i (fun f => { f with vehicleHold := true }) w
  runs : d.command = .run →
    (s.fp i).vehicleHold = false ∨ s.combined .siteHold = true ∨ (s.fp i).hostHold = true ∨ (s.fp i).fill = .precoolWait →
    t = modFp i (fun f => { f with vehicleHold := false }) w
  pulses : d.command = .run → (s.fp i).vehicleHold = true → s.combined .siteHold = false → (s.fp i).hostHold = false →
    (s.fp i).fill = .leakCheck →
    t = modFp i (fun f => { f with
      vehicleHold := false
      leakPulse := if (s.fp i).link = .granted ∧ (s.fp i).leakPulse = none ∧ (s.fp i).leakHold = none then
        some s.site.params.leakPulse else (s.fp i).leakPulse }) w
  leaves : d.command = .run → (s.fp i).vehicleHold = true → s.combined .siteHold = false → (s.fp i).hostHold = false →
    (s.fp i).fill = .linkWait → (s.reservation i).state = .noRecord →
    ((t.fp i).fill = .precoolWait ∨ (t.fp i).fill = .leakCheck ∨ (t.fp i).fill = .settling) ∧ (t.fp i).estimate.isSome = true

/-- The vehicle's hold is set or ended. -/
def vehicleHeld (i : FpId) (b : Bool) (s : State) : State := modFp i (fun f => { f with vehicleHold := b }) s

theorem vehicleHeld_fp {b : Bool} : (vehicleHeld i b s).fp i = { s.fp i with vehicleHold := b } := modFp_fp_self ..

theorem vehicleHeld_levelHold {b : Bool} (m : (s.fp i).mode = .communication) : (vehicleHeld i b s).levelHold i =
    (s.combined .siteHold || (s.fp i).hostHold || b) := by
  unfold State.levelHold
  rw [vehicleHeld_fp, m]
  simp only [beq_self_eq_true, Bool.and_true]
  rfl

theorem levelHold_comm (m : (s.fp i).mode = .communication) : s.levelHold i =
    (s.combined .siteHold || (s.fp i).hostHold || (s.fp i).vehicleHold) := by
  unfold State.levelHold
  rw [m, beq_self_eq_true, Bool.and_true]

/-- A re-examination that finds no hold ended leaves a fill before FILLING as it is. -/
theorem holdsChanged_early {was : Bool} (f : (s.fp i).fill ≠ .filling)
    (h : was = false ∨ s.levelHold i = true ∨ (s.fp i).fill = .precoolWait) : holdsChanged i was s = s := by
  have no : (s.fp i).fill ≠ .precoolWait → ¬ (was = true ∧ s.levelHold i = false) := by
    rintro n ⟨w, l⟩
    rcases h with h | h | h
    · exact absurd (w.symm.trans h) (by decide)
    · exact absurd (l.symm.trans h) (by decide)
    · exact n h
  by_cases lw : (s.fp i).fill = .linkWait
  · rw [holdsChanged_linkWait lw, if_neg (no (by rw [lw]; decide))]
  by_cases lc : (s.fp i).fill = .leakCheck
  · rw [holdsChanged_leakCheck lc, if_neg fun q => no (by rw [lc]; decide) ⟨q.1, q.2.1⟩]
  · exact holdsChanged_other lw lc f

theorem frameReport_commands (m : (s.fp i).mode = .communication)
    (f : (s.fp i).fill = .linkWait ∨ (s.fp i).fill = .precoolWait ∨ (s.fp i).fill = .leakCheck) :
    Commanded i d s (socTaken i d n s) (frameReport i d (keepsFrame i d n s)) := by
  rw [frameReport_waits m f]
  have notFilling : (s.fp i).fill ≠ .filling := by rcases f with f | f | f <;> rw [f] <;> decide
  have fp := socTaken_fp (i := i) (d := d) (n := n) (s := s)
  have alike := socTaken_alike (i := i) (d := d) (n := n) (s := s)
  have rest := socTaken_rest (i := i) (d := d) (n := n) (s := s)
  have runs := socTaken_runs (i := i) (d := d) (n := n) (s := s)
  obtain ⟨g, meter, keeps⟩ := socTaken_meter (i := i) (d := d) (n := n) (s := s)
  have comb : (socTaken i d n s).combined .siteHold = s.combined .siteHold := by
    rw [rest]
    rfl
  have pcm : (socTaken i d n s).pcm = s.pcm := by rw [rest]
  have site : (socTaken i d n s).site = s.site := by rw [rest]
  have closes := socTaken_closes (i := i) (d := d) (n := n) (s := s) .linkAbort
  generalize socTaken i d n s = w at *
  have wm : (w.fp i).mode = .communication := by rw [fp]; exact m
  have hfp (b : Bool) : (vehicleHeld i b w).fp i = { s.fp i with presentSoc := some (s.socNow i d), vehicleHold := b } := by
    rw [vehicleHeld_fp, fp]
  have early (b : Bool) : ((vehicleHeld i b w).fp i).fill ≠ .filling := by rw [hfp]; exact notFilling
  have now (b : Bool) : (vehicleHeld i b w).levelHold i = (s.combined .siteHold || (s.fp i).hostHold || b) := by
    rw [vehicleHeld_levelHold wm, comb, fp]
  have was : w.levelHold i = (s.combined .siteHold || (s.fp i).hostHold || (s.fp i).vehicleHold) := by
    rw [levelHold_comm wm, comb, fp]
  constructor
  · intro c l
    rw [c]
    rw [← endFill_close (s := w) (.inl (by rw [fp]; exact l))] at closes
    exact closes
  · intro c l wo
    rw [c]
    have early : (w.fp i).fill = .linkWait ∨ (w.fp i).fill = .precoolWait := by
      rw [fp]
      exact f.imp id fun f => f.resolve_right l
    refine (endFill_ends early (runs.wait wo)).back alike fun x hx => ?_
    rw [meter]
    exact ⟨g x, congrArg (Option.map g) hx, keeps x⟩
  · intro c
    rw [c]
    exact holdsChanged_early (s := vehicleHeld i true w) (early true) (.inr (.inl (by rw [now, Bool.or_true])))
  · intro c h
    rw [c]
    refine holdsChanged_early (s := vehicleHeld i false w) (early false) ?_
    rcases h with h | h | h | h
    · cases b : w.levelHold i
      · exact .inl rfl
      · exact .inr (.inl (by rw [now, ← b, was, h]))
    · exact .inr (.inl (by rw [now, h, Bool.true_or, Bool.true_or]))
    · exact .inr (.inl (by rw [now, h, Bool.or_true, Bool.true_or]))
    · exact .inr (.inr (by rw [hfp]; exact h))
  · intro c v sh hh l
    rw [c]
    refine (holdsChanged_leakCheck (s := vehicleHeld i false w) (by rw [hfp]; exact l)).trans ?_
    rw [now, was, sh, hh, v, hfp]
    dsimp only
    by_cases q : (s.fp i).link = .granted ∧ (s.fp i).leakPulse = none ∧ (s.fp i).leakHold = none
    · rw [if_pos ⟨rfl, rfl, q⟩]
      simp only [if_pos q]
      simp only [beginPulse, vehicleHeld, modFp, upd_upd, State.fp, sel_upd_self]
      rw [site]
    · rw [if_neg fun h => q h.2.2]
      simp only [if_neg q, vehicleHeld, modFp]
      congr 2
      rw [fp]
  · intro c v sh hh l norec
    rw [c]
    have out : vehicleAct i .run w = leaveLinkWait i (vehicleHeld i false w) := by
      refine (holdsChanged_linkWait (s := vehicleHeld i false w) (by rw [hfp]; exact l)).trans ?_
      have free : (vehicleHeld i false w).levelHold i = false := by rw [now, sh, hh]; rfl
      rw [if_pos ⟨by rw [was, v, Bool.or_true], free⟩, leaveIfFree_leaves (by rw [hfp, m]; decide) free]
    have asked := leaveLinkWait_asked (i := i) (s := vehicleHeld i false w) (by
      rw [State.reservation, show (vehicleHeld i false w).pcm = w.pcm from rfl, pcm]
      exact norec)
    rw [out]
    refine ⟨asked.fill, ?_⟩
    obtain ⟨a, b, ctx⟩ := asked.context
    obtain ⟨e, c, est⟩ := (formEstimate_estimated (i := i) (s := vehicleHeld i false w)).fp
    rw [est] at ctx
    have estimate : ((leaveLinkWait i (vehicleHeld i false w)).fp i).estimate = some e := congrArg Fps.estimate ctx
    rw [estimate]
    rfl

theorem countError_format (l : Vlr) : l.countError .formatError = { l with formatErrors := min 65535 (l.formatErrors + 1) } := rfl
theorem countError_crc (l : Vlr) : l.countError .crcError = { l with crcErrors := min 65535 (l.crcErrors + 1) } := rfl
theorem countError_range (l : Vlr) : l.countError .rangeError = { l with rangeErrors := min 65535 (l.rangeErrors + 1) } := rfl

/-- The link is LOST. -/
def linkLost (i : FpId) (s : State) : State := modLink i (fun v => { v with state := .lost, loss := none }) s

theorem linkLost_link : (linkLost i s).link i = { s.link i with state := .lost, loss := none } := modLink_link_self ..

theorem implausible_link : (implausible i s).link i = { s.link i with state := .implausible, loss := none, implausCount := 3 } :=
  modLink_link_self ..

/-- The end of the link by LOST or IMPLAUSIBLE, told from the state in which only the fill's mode has changed. -/
theorem WithoutLink.told {loss : Bool} (h : WithoutLink i loss u t) (fx : u.fixed = s.fixed) (bk : u.banks = s.banks)
    (rf : u.refill = s.refill) (cq : u.cqr = s.cqr) (pc : u.pcm = s.pcm) (fp : u.fp i = s.fp i) :
    let s1 : State := { s with fps := upd s.fps i { s.fp i with mode := .nonCommunication, vehicleHold := false } }
    ((s.fp i).entry.commRequired = true ∨ (s.fp i).endPressure = 0 → s1.ClosedBy t i .linkAbsent) ∧
    ((s.fp i).entry.commRequired = false → (s.fp i).endPressure ≠ 0 → (s.fp i).endPressure ≤ (s.fp i).nozzle →
      s1.ClosedBy t i .targetPressure) ∧
    ((s.fp i).entry.commRequired = false → (s.fp i).nozzle < (s.fp i).endPressure → (t.fp i).fill = (s.fp i).fill ∧
      (t.fp i).mode = .nonCommunication ∧ (t.fp i).vehicleHold = false ∧ (t.link i).state = (u.link i).state) := by
  intro s1
  have alike : Alike i s1 (switched i loss u) := switched_alike fx bk rf cq fp
  obtain ⟨absent, target, goes, -, -⟩ := h
  rw [fp] at absent target goes
  refine ⟨fun c => (absent c).back alike pc, fun a b c => (target a b c).back alike pc, fun a b => ?_⟩
  obtain ⟨still, link⟩ := goes a b
  rw [switched_fp, fp] at still
  have fill := congrArg Fps.fill still
  have mode := congrArg Fps.mode still
  have hold := congrArg Fps.vehicleHold still
  exact ⟨fill, mode, hold, by rw [link]⟩

/-- What a fill's close, or its going on, leaves of the flags that its loss of the link has set. -/
theorem WithoutLink.noted {loss : Bool} (h : WithoutLink i loss s t) {x : Txn} (hx : (s.meter i).txn = some x) :
    ∃ y, (t.meter i).txn = some y ∧ if loss then y.flags.linkLost = true else y.flags.implausible = true := by
  obtain ⟨z, hz, flag⟩ := switched_flags (loss := loss) hx
  have flags := congrArg (fun m : Meter => m.txn.map (·.flags)) h.txn
  rw [Txn.context_flags, Txn.context_flags, hz, Option.map_some, Option.map_eq_some_iff] at flags
  obtain ⟨y, hy, e⟩ := flags
  refine ⟨y, hy, ?_⟩
  rw [e]
  exact flag

/-- Settles O49. -/
theorem laterFramesAndLoss : Obligations.LaterFramesAndLoss := by
  intro s i bytes f l counted
  have bad {e : FrameCheck} (ne : l.state ≠ .idle) (c : checkFrame bytes = e) (b : ∀ v rc d, e ≠ .valid v rc d) :
      counted (l.countError e) := congrArg Host.Outcome.next (takeFrame_error ne c b)
  refine ⟨fun idle => congrArg Host.Outcome.next (takeFrame_idle idle), fun ne => ⟨fun long => ?_, fun long crc => ?_,
    fun long crc ver => ?_, fun long crc ver range => ?_⟩, ?_⟩
  · exact bad ne (checkFrame_length long) nofun
  · exact bad ne (checkFrame_crc long crc) nofun
  · exact bad ne (checkFrame_version long crc ver) nofun
  · exact bad ne ((checkFrame_fields long crc ver).trans (frameFields_range range)) nofun
  · intro e withoutLink
    refine ⟨?_, ?_, fun n => exec_neg rfl fun h => ?_⟩
    · intro v rc d check soc s1 away
      have isAway (fi : f.fill = .filling) : s.away i d ↔ away := and_iff_right fi
      have e {t : State} (up : l.state = .up) (h : frameInUp i d s = t) : exec (.vehicleFrame i bytes) s = .next t :=
        congrArg Host.Outcome.next ((takeFrame_up up check).trans h)
      refine ⟨fun st => congrArg Host.Outcome.next (takeFrame_ignored st check), fun up mode fi plausible => ?_,
        fun up mode fi aw many => ?_, fun up mode fi => ?_⟩
      · by_cases aw : away
        · have few := plausible.resolve_left (not_not.mpr aw)
          have run := e up ((frameInUp_away ((isAway fi).mpr aw)).trans (if_neg (Nat.not_le.mpr few)))
          obtain ⟨last, hot, full, goes⟩ := frameReport_fills (i := i) (d := d) (n := l.implausCount + 1) mode fi
          refine ⟨_, run, last, hot, full, fun c m => ⟨(goes c m).1, fun na => ?_⟩⟩
          obtain ⟨fill, now, hold, loss, count⟩ := (goes c m).2 na
          exact ⟨fill, now, hold, loss, fun _ => count, fun h => absurd aw h⟩
        · have run := e up (frameInUp_near (mt (isAway fi).mp aw))
          obtain ⟨last, hot, full, goes⟩ := frameReport_fills (i := i) (d := d) (n := 0) mode fi
          refine ⟨_, run, last, hot, full, fun c m => ⟨(goes c m).1, fun na => ?_⟩⟩
          obtain ⟨fill, now, hold, loss, count⟩ := (goes c m).2 na
          exact ⟨fill, now, hold, loss, fun h => absurd h aw, fun _ => count⟩
      · intro s2
        have run := e up ((frameInUp_away ((isAway fi).mpr aw)).trans (if_pos many))
        have wl := switchMode_filling (i := i) (loss := false) (s := implausible i s) fi mode
        obtain ⟨absent, target, goes⟩ := wl.told (s := s) rfl rfl rfl rfl rfl rfl
        have link := wl.link
        rw [implausible_link] at link goes
        refine ⟨_, run, ?_, ?_, fun x hx => wl.noted (s := implausible i s) hx, absent, target,
          fun c n => ⟨(goes c n).1.trans fi, (goes c n).2⟩⟩
        · rcases link with h | h <;> rw [h] <;> rfl
        · rcases link with h | h <;> rw [h] <;> rfl
      · intro others kept
        have notFilling : f.fill ≠ .filling := by rcases fi with fi | fi | fi <;> rw [fi] <;> decide
        have run := e up (frameInUp_near fun h => notFilling h.1)
        have cmd := frameReport_commands (i := i) (d := d) (n := 0) mode fi
        have link := socTaken_link (i := i) (d := d) (n := 0) (s := s)
        have fp := socTaken_fp (i := i) (d := d) (n := 0) (s := s)
        have pcm : (socTaken i d 0 s).pcm = s.pcm := by rw [socTaken_rest]
        generalize socTaken i d 0 s = w at *
        have keeps (g : Fps → Fps) : kept (modFp i g w) := by
          have : (modFp i g w).link i = w.link i := rfl
          refine ⟨?_, ?_, ?_, ?_⟩ <;> rw [this, link]
          exact up
        have notOthers (h : ¬ others) : s.combined .siteHold = false ∧ f.hostHold = false := by
          rw [not_or, Bool.not_eq_true, Bool.not_eq_true] at h
          exact h
        refine ⟨_, run, cmd.closed, cmd.ended, fun c => ?_, fun c h => ?_, fun c vh no lk => ?_, fun c vh no lw norec => ?_⟩
        · rw [cmd.halted c]
          exact ⟨keeps _, by rw [modFp_fp_self, fp]; rfl, pcm⟩
        · rw [cmd.runs c (h.imp id or_assoc.mp)]
          exact ⟨keeps _, by rw [modFp_fp_self, fp]; rfl, pcm⟩
        · rw [cmd.pulses c vh (notOthers no).1 (notOthers no).2 lk]
          exact ⟨keeps _, pcm, by rw [modFp_fp_self, fp]; rfl⟩
        · exact cmd.leaves c vh (notOthers no).1 (notOthers no).2 lw norec
    · intro d up lost s1
      have run := exec_pos (c := .linkLossExpiry i) (s := s) rfl ⟨(due_iff _).mpr d, up⟩
      refine ⟨fun h => ?_, fun mode fi => ?_, fun mode fi comm w => ?_, fun mode fi comm => ?_, fun mode fi comm => ?_⟩
      · exact run.trans (congrArg Host.Outcome.next (switchMode_stays (s := linkLost i s) h))
      · have wl := switchMode_filling (i := i) (loss := true) (s := linkLost i s) fi mode
        obtain ⟨absent, target, goes⟩ := wl.told (s := s) rfl rfl rfl rfl rfl rfl
        rw [linkLost_link] at goes
        exact ⟨_, run, fun x hx => wl.noted (s := linkLost i s) hx, absent, target,
          fun c n => ⟨(goes c n).1.trans fi, (goes c n).2⟩⟩
      · have eq := switchMode_eq (i := i) (loss := true) (s := linkLost i s)
          (by rcases fi with fi | fi <;> exact (congrArg FillState.running fi).trans rfl) mode
        rw [if_pos (show ((linkLost i s).fp i).entry.commRequired = true from comm)] at eq
        have alike : Alike i s1 (switched i true (linkLost i s)) := switched_alike rfl rfl rfl rfl rfl
        have wok : (switched i true (linkLost i s)).WaitOk := ⟨w.once, w.members⟩
        refine ⟨_, run.trans (congrArg Host.Outcome.next eq), (endFill_ends ?_ wok).back alike fun x hx => ?_⟩
        · rw [switched_fp]
          exact fi
        · rw [switched, modFp_meter, setFlags, modTxn_eq, modMeter_meter_self]
          exact ⟨_, congrArg (Option.map _) hx, rfl, rfl⟩
      · have eq := switchMode_eq (i := i) (loss := true) (s := linkLost i s) ((congrArg FillState.running fi).trans rfl) mode
        rw [if_pos (show ((linkLost i s).fp i).entry.commRequired = true from comm)] at eq
        have alike : Alike i s1 (switched i true (linkLost i s)) := switched_alike rfl rfl rfl rfl rfl
        refine ⟨_, run.trans (congrArg Host.Outcome.next eq), (endFill_closes (.inl ?_)).back alike rfl⟩
        rw [switched_fp]
        exact fi
      · obtain ⟨p, fp, link, pcm⟩ := switchMode_waits (i := i) (loss := true) (s := linkLost i s) fi mode comm
        have fill := congrArg Fps.fill fp
        have now := congrArg Fps.mode fp
        have hold := congrArg Fps.vehicleHold fp
        have state := congrArg Vlr.state (link.trans linkLost_link)
        exact ⟨_, run, fill, now, hold, state, pcm⟩
    · exact n.elim (fun n => n ((due_iff _).mp h.1)) (fun n => n h.2)

end Sys2Proof.Machine
end

section
/-!
PROOFS. A nozzle pressure sample in each state of a fill (6.5, 6.6 and 7.3).
-/
namespace Sys2Proof.Machine

variable {i j : FpId} {k : CompId} {s s0 t u v : State} {n : Nat} {b : BankId}

/-! ### The compressors' inbox stays as it is -/

theorem rederive_csInbox : (rederive j s).csInbox = s.csInbox := by
  rw [rederive_rest]

theorem setFill_csInbox {st : FillState} : (setFill j st s).csInbox = s.csInbox := by
  rw [setFill_eq]

theorem finish_csInbox : (finish j s).csInbox = s.csInbox := by
  unfold finish
  split
  · split
    · dsimp only
      split
      · rw [setFill_csInbox, setFill_csInbox]
      · exact setFill_csInbox
    · exact setFill_csInbox
  · exact setFill_csInbox

theorem ventDone_csInbox : (ventDone j s).csInbox = s.csInbox := finish_csInbox

theorem evalChiller_csInbox : (evalChiller s).csInbox = s.csInbox := by
  rw [evalChiller, setChiller, postIf_eq]
  rfl

theorem admitFill_csInbox {e : Nat} {c : Category} {cl : PrecoolClass} : (admitFill j e c cl s).csInbox = s.csInbox := by
  unfold admitFill
  dsimp only
  split
  · exact evalChiller_csInbox
  · rfl

theorem enterLeakCheck_csInbox : (enterLeakCheck j s).csInbox = s.csInbox := by
  have entered : (enteredLeak j s).csInbox = s.csInbox := setFill_csInbox
  unfold enterLeakCheck
  dsimp only
  split
  · exact tryBanks_csInbox.trans entered
  · exact closeFill_csInbox.trans entered

theorem evalHeads_csInbox : (evalHeads n s).csInbox = s.csInbox := by
  induction n generalizing s with
  | zero => rfl
  | succ n ih =>
    unfold evalHeads
    split
    · rfl
    · dsimp only
      split
      · rfl
      · exact ih.trans (enterLeakCheck_csInbox.trans admitFill_csInbox)

theorem withdrawAdmission_csInbox : (withdrawAdmission j s).csInbox = s.csInbox := by
  unfold withdrawAdmission
  split
  · split
    · exact evalHeads_csInbox
    · rfl
  · rfl

theorem takeReason_csInbox {r : Reason} : (takeReason j r s).csInbox = s.csInbox := by
  unfold takeReason
  dsimp only
  split <;> rfl

theorem handOver_csInbox {r : Reason} {q : Bool} : (handOver j r q s).csInbox = s.csInbox := by
  unfold handOver
  dsimp only
  split <;> simp [loadRecord, markChange, closeDraw, modTxn]

theorem endFill_csInbox {r : Reason} : (endFill j r s).csInbox = s.csInbox := by
  have early : (endEarly j r s).csInbox = s.csInbox := by
    unfold endEarly
    rw [finish_csInbox, handOver_csInbox, endLink, modLink_csInbox, withdrawAdmission_csInbox, modFp_csInbox,
      takeReason_csInbox]
  unfold endFill
  split
  · exact early
  · exact early
  · exact closeFill_csInbox
  · exact closeFill_csInbox
  all_goals rfl

theorem stepTests_csInbox {w : Bool} : (stepTests i s w).csInbox = s.csInbox := by
  unfold stepTests
  dsimp only
  split
  · split
    · exact cascadeStep_csInbox
    · rfl
  · rfl

theorem bandTests_csInbox {p : Nat} : (bandTests i n p s).csInbox = s.csInbox := by
  unfold bandTests
  split
  · split
    · exact rederive_csInbox
    · rfl
  · split
    · exact rederive_csInbox
    · rfl
  all_goals rfl

theorem fillingSample_csInbox : (fillingSample i n s).csInbox = s.csInbox := by
  unfold fillingSample
  dsimp only
  split
  · exact closeFill_csInbox
  · split
    · exact closeFill_csInbox
    · split
      · exact closeFill_csInbox
      · exact stepTests_csInbox.trans bandTests_csInbox

/-! ### A nozzle pressure sample (R104, R112, R124) -/

/-- The sample is kept. -/
def nozzled (i : FpId) (n : Nat) (s : State) : State := modFp i (fun f => { f with nozzle := n, nozzleGood := true }) s

theorem nozzled_fp : (nozzled i n s).fp i = { s.fp i with nozzle := n, nozzleGood := true } := modFp_fp_self ..

theorem nozzleSample_leak (f : (s.fp i).fill = .leakCheck) : nozzleSample i n s =
    if (s.fp i).leakHold.isSome ∧ n + s.site.params.leakLimit < (s.fp i).p0.getD 0 then closeFill i .leak (nozzled i n s)
    else nozzled i n s := by
  unfold nozzleSample
  dsimp only
  rw [modFp_fp_self]
  dsimp only
  rw [f]
  rfl

theorem nozzleSample_filling (f : (s.fp i).fill = .filling) : nozzleSample i n s = fillingSample i n (nozzled i n s) := by
  unfold nozzleSample
  dsimp only
  rw [modFp_fp_self]
  dsimp only
  rw [f]
  rfl

theorem nozzleSample_venting (f : (s.fp i).fill = .venting) : nozzleSample i n s =
    if n ≤ s.site.params.ventPressure then ventDone i (nozzled i n s) else nozzled i n s := by
  unfold nozzleSample
  dsimp only
  rw [modFp_fp_self]
  dsimp only
  rw [f]
  rfl

theorem nozzleSample_other (f : (s.fp i).fill = .idle ∨ (s.fp i).fill = .linkWait ∨ (s.fp i).fill = .precoolWait ∨
    (s.fp i).fill = .settling ∨ (s.fp i).fill = .complete ∨ (s.fp i).fill = .fault) : nozzleSample i n s = nozzled i n s := by
  unfold nozzleSample
  dsimp only
  rw [modFp_fp_self]
  dsimp only
  rcases f with f | f | f | f | f | f <;> rw [f] <;> rfl

theorem nozzleSample_csInbox : (nozzleSample i n s).csInbox = s.csInbox := by
  cases f : (s.fp i).fill with
  | leakCheck =>
    rw [nozzleSample_leak f]
    split
    · exact closeFill_csInbox
    · rfl
  | filling =>
    rw [nozzleSample_filling f]
    exact fillingSample_csInbox
  | venting =>
    rw [nozzleSample_venting f]
    split
    · exact ventDone_csInbox
    · rfl
  | _ =>
    rw [nozzleSample_other (by rw [f]; decide)]
    rfl

theorem fillingSample_tests {limit pt : Nat} (hl : limitOf s.site.params (s.fp i).entry.pressureClass = limit)
    (hp : s.pt i = pt) : fillingSample i n s =
    if limit ≤ n then closeFill i .pressureLimit s
    else if pt + s.site.params.overshootBand < n then closeFill i .rampOvershoot s
    else if (s.fp i).mode = .nonCommunication ∧ (s.fp i).endPressure ≤ n then closeFill i .targetPressure s
    else stepTests i (bandTests i n pt s) false := by
  rw [← hl, ← hp]
  rfl

theorem bandTests_flow {pt : Nat} (f : (s.fp i).sub = some .flow) : bandTests i n pt s =
    if pt + s.site.params.upperBand < n then rederive i (modFp i (fun f => { f with pause := true }) s) else s := by
  unfold bandTests
  rw [f]

theorem bandTests_pause {pt : Nat} (f : (s.fp i).sub = some .rampPause) : bandTests i n pt s =
    if n ≤ pt then rederive i (modFp i (fun f => { f with pause := false }) s) else s := by
  unfold bandTests
  rw [f]

theorem bandTests_other {pt : Nat} (f : (s.fp i).sub = some .bankWait ∨ (s.fp i).sub = some .hold ∨ (s.fp i).sub = none) :
    bandTests i n pt s = s := by
  unfold bandTests
  rcases f with f | f | f <;> rw [f]

/-- A ramp pause begins, or ends, in a fill that no hold keeps. -/
theorem paused {p : Bool} (n : (s.fp i).link ≠ .stacked) (y : (s.fp i).sync = false) (l : s.levelHold i = false) :
    let w := modFp i (fun f => { f with pause := p }) s
    w.fp i = { s.fp i with pause := p } ∧ w.deriveSub i = if p = true then .rampPause else .flow := by
  intro w
  have fp : w.fp i = { s.fp i with pause := p } := modFp_fp_self ..
  refine ⟨fp, ?_⟩
  have lh : w.levelHold i = s.levelHold i := levelHold_of rfl (by rw [fp]) (by rw [fp]) (by rw [fp])
  rw [deriveSub_free (s := w) (by rw [fp]; exact n) (lh.trans l)
    (by rw [fp]; exact y), fp]

theorem pauses (n : (s.fp i).link ≠ .stacked) (y : (s.fp i).sync = false) (l : s.levelHold i = false)
    (f : (s.fp i).sub = some .flow) : rederive i (modFp i (fun f => { f with pause := true }) s) =
    { s with fps := upd s.fps i { s.fp i with pause := true, sub := some .rampPause, lowFlow := none, grace := none }
             sli := { s.sli with summary := s.sli.summary ||| BitVec.twoPow 15 i.val } } := by
  obtain ⟨fp, sub⟩ := paused (p := true) n y l
  rw [rederive_held (sub.trans (if_pos rfl)) (by decide), fp, f, if_neg (by decide)]
  simp only [modFp, upd_upd]

theorem unpauses (n : (s.fp i).link ≠ .stacked) (y : (s.fp i).sync = false) (l : s.levelHold i = false)
    (f : (s.fp i).sub = some .rampPause) : rederive i (modFp i (fun f => { f with pause := false }) s) =
    { s with
      fps := upd s.fps i { s.fp i with
        pause := false, sub := some .flow
        lowFlow := if (s.meter i).figure < s.site.params.stepFlow * 1000 then some s.site.params.stepDwell else none }
      sli := { s.sli with summary := s.sli.summary ||| BitVec.twoPow 15 i.val } } := by
  obtain ⟨fp, sub⟩ := paused (p := false) n y l
  rw [rederive_flows (sub.trans (if_neg (by decide))), fp]
  simp only [f, Option.some.injEq, reduceCtorEq, if_false, modFp, upd_upd]
  rfl

/-- The cascade step on the bank that the fill holds, told from a state that differs in its ramp alone. -/
theorem cascadeStep_goesOn (arb : u.ArbiterOk) (pos : (u.fp i).cascadePos = some b) (nodup : (s.fp i).entry.cascade.Nodup)
    (held : u.holderOf b = some (fpReq i)) (a : Alike i s u) (pcm : u.pcm = s.pcm) (f : (u.fp i).fill = (s.fp i).fill)
    (n : (u.fp i).nozzle = (s.fp i).nozzle) (ho : u.holder = s.holder) (st : u.stacked = s.stacked) :
    s.GoesOn (cascadeStep i u) i b .supplyExhausted := by
  rw [cascadeStep_eq pos]
  exact ((letGo_letsGo arb held).back a pcm f n ho st).goesOn (a.pos.symm.trans pos) nodup

/-- The fill asks for no bank, or its bank still pushes (R135). -/
def State.bankPushes (s : State) (i : FpId) (n : Nat) : Prop :=
  (s.fp i).cascadePos = none ∨ ∃ b, (s.fp i).cascadePos = some b ∧ n + s.site.params.stepDiff ≤ (s.bank b).pressure

/-- A bank that no longer pushes is left. -/
def State.StepsOn (s t : State) (i : FpId) (n : Nat) : Prop :=
  ∀ b, s.ArbiterOk → (s.fp i).cascadePos = some b → (s.fp i).entry.cascade.Nodup → s.holderOf b = some (fpReq i) →
    (s.bank b).pressure < n + s.site.params.stepDiff → s.GoesOn t i b .supplyExhausted

/-- What the tests of a sample in FILLING do, once no reason ends the fill (R125, R135). -/
structure BandTested (i : FpId) (n pt : Nat) (s t : State) : Prop where
  pauses : (s.fp i).sub = some .flow → (s.fp i).link ≠ .stacked → (s.fp i).sync = false → s.levelHold i = false →
    pt + s.site.params.upperBand < n → t =
      { s with fps := upd s.fps i { s.fp i with pause := true, sub := some .rampPause, lowFlow := none, grace := none }
               sli := { s.sli with summary := s.sli.summary ||| BitVec.twoPow 15 i.val } }
  flows : (s.fp i).sub = some .flow → n ≤ pt + s.site.params.upperBand → (s.bankPushes i n → t = s) ∧ s.StepsOn t i n
  unpauses : (s.fp i).sub = some .rampPause → n ≤ pt → (s.fp i).link ≠ .stacked → (s.fp i).sync = false →
    s.levelHold i = false → (s.bankPushes i n → t =
      { s with
        fps := upd s.fps i { s.fp i with
          pause := false, sub := some .flow
          lowFlow := if (s.meter i).figure < s.site.params.stepFlow * 1000 then some s.site.params.stepDwell else none }
        sli := { s.sli with summary := s.sli.summary ||| BitVec.twoPow 15 i.val } }) ∧ s.StepsOn t i n
  waits : (s.fp i).sub = some .rampPause → pt < n → t = s
  still : (s.fp i).sub = some .bankWait ∨ (s.fp i).sub = some .hold ∨ (s.fp i).sub = none → t = s

/-- The step tests on a fill in FLOW, told from a state that differs in its ramp alone. -/
theorem stepTests_flow (f : (u.fp i).fill = .filling) (g : (u.fp i).sub = some .flow) (noz : (u.fp i).nozzle = n)
    (a : Alike i s u) (pcm : u.pcm = s.pcm) (sf : (s.fp i).fill = .filling) (sn : (s.fp i).nozzle = n)
    (ho : u.holder = s.holder) (st : u.stacked = s.stacked) :
    (s.bankPushes i n → stepTests i u false = u) ∧ s.StepsOn (stepTests i u false) i n := by
  have bank (b : BankId) : u.bank b = s.bank b := by
    unfold State.bank
    rw [a.banks]
  refine ⟨fun p => stepTests_stays ?_, fun b arb pos nodup held low => ?_⟩
  · rcases p with p | ⟨b, pos, p⟩
    · exact .inl (a.pos.trans p)
    · exact .inr (.inr (.inr ⟨b, a.pos.trans pos, by rw [noz, a.site, bank]; exact p, nofun⟩))
  · rw [stepTests_steps (a.pos.trans pos) f g (.inl (by rw [noz, a.site, bank]; exact low))]
    have heldU : u.holderOf b = some (fpReq i) := by
      unfold State.holderOf
      rw [ho]
      exact held
    exact cascadeStep_goesOn (arbiterOk_of arb ho st) (a.pos.trans pos) nodup heldU a pcm (f.trans sf.symm)
      (noz.trans sn.symm) ho st

theorem bandTests_tested {pt : Nat} (f : (s.fp i).fill = .filling) (noz : (s.fp i).nozzle = n) :
    BandTested i n pt s (stepTests i (bandTests i n pt s) false) := by
  have away {x : Substate} (h : (s.fp i).sub = some x) (ne : x ≠ .flow) : (s.fp i).sub ≠ some .flow := by
    rw [h]
    exact fun e => ne (Option.some.inj e)
  constructor
  · intro sub lk y l high
    rw [bandTests_flow sub, if_pos high, pauses lk y l sub]
    refine stepTests_stays (.inr (.inr (.inl ?_)))
    rw [State.fp, sel_upd_self]
    nofun
  · intro sub low
    rw [bandTests_flow sub, if_neg (Nat.not_lt.mpr low)]
    exact stepTests_flow f sub noz (Alike.refl s) rfl f noz rfl rfl
  · intro sub low lk y l
    rw [bandTests_pause sub, if_pos low]
    have eq := unpauses lk y l sub
    have fp : (rederive i (modFp i (fun f => { f with pause := false }) s)).fp i = { s.fp i with
        pause := false, sub := some .flow
        lowFlow := if (s.meter i).figure < s.site.params.stepFlow * 1000 then some s.site.params.stepDwell else none } := by
      rw [eq]
      exact sel_upd_self ..
    have fixed : (rederive i (modFp i (fun f => { f with pause := false }) s)).fixed = s.fixed := by
      have r : Runs false s (rederive i (modFp i (fun f => { f with pause := false }) s)) :=
        Runs.rederive (Runs.modFp (Runs.refl s) fun _ => ⟨rfl, rfl⟩)
      exact r.fixed
    have alike : Alike i s (rederive i (modFp i (fun f => { f with pause := false }) s)) :=
      ⟨fixed, by rw [eq], by rw [eq], by rw [eq], by rw [fp], by rw [fp], by rw [fp]⟩
    rw [← eq]
    exact stepTests_flow (by rw [fp]; exact f) (by rw [fp]) (by rw [fp]; exact noz) alike (by rw [eq]) f noz (by rw [eq])
      (by rw [eq])
  · intro sub high
    rw [bandTests_pause sub, if_neg (Nat.not_le.mpr high)]
    exact stepTests_stays (.inr (.inr (.inl (away sub (by decide)))))
  · intro sub
    rw [bandTests_other sub]
    refine stepTests_stays (.inr (.inr (.inl ?_)))
    rcases sub with sub | sub | sub
    · exact away sub (by decide)
    · exact away sub (by decide)
    · rw [sub]
      nofun

/-- Settles O46. -/
theorem nozzleSamplesAreTested : Obligations.NozzleSamplesAreTested := by
  refine ⟨?_, ?_⟩
  · intro s ch raw i v box bound hv plausible f s1 limit pt target
    have del : s.Delivers ch (.nozzleP i) (.sampleArrival ch raw) v _ := ⟨⟨raw, rfl, hv⟩, bound, plausible, rfl⟩
    have run := exec_settled (exec_delivers del nofun) (nozzleSample_csInbox.trans box)
    let s0 : State := { s with chans := upd s.chans ch { s.chan ch with
      value := v, status := .good, failCount := 0, staleTimer := some 10, lastSample := s.site.clock } }
    have kept : nozzled i v s0 = s1 := rfl
    have fp : s1.fp i = f := sel_upd_self ..
    have hl : limitOf s.site.params f.entry.pressureClass = limit := by
      unfold limitOf
      rfl
    have hp : s1.pt i = pt := by
      unfold State.pt rampTarget
      rw [fp]
      dsimp only
      rw [show s1.site = s.site from rfl, hl]
    have hl1 : limitOf s1.site.params (s1.fp i).entry.pressureClass = limit := by
      rw [fp]
      exact hl
    have lh : s1.levelHold i = s.levelHold i := levelHold_of rfl (by rw [fp]) (by rw [fp]) (by rw [fp])
    have filling (fi : f.fill = .filling) := (nozzleSample_filling (s := s0) (n := v) fi).trans
      (fillingSample_tests (s := s1) hl1 hp)
    have high (fi : f.fill = .filling) (h : limit ≤ v) : nozzleSample i v s0 = closeFill i .pressureLimit s1 :=
      (filling fi).trans (if_pos h)
    have shot (fi : f.fill = .filling) (h : v < limit) (o : pt + s.site.params.overshootBand < v) :
        nozzleSample i v s0 = closeFill i .rampOvershoot s1 :=
      (filling fi).trans ((if_neg (Nat.not_le.mpr h)).trans (if_pos o))
    have reached (fi : f.fill = .filling) (h : v < limit) (o : v ≤ pt + s.site.params.overshootBand) (t : target) :
        nozzleSample i v s0 = closeFill i .targetPressure s1 :=
      (filling fi).trans ((if_neg (Nat.not_le.mpr h)).trans ((if_neg (Nat.not_lt.mpr o)).trans (if_pos (by rw [fp]; exact t))))
    have tested (fi : f.fill = .filling) (h : v < limit) (o : v ≤ pt + s.site.params.overshootBand) (t : ¬ target) :
        BandTested i v pt s1 (nozzleSample i v s0) := by
      rw [(filling fi).trans ((if_neg (Nat.not_le.mpr h)).trans ((if_neg (Nat.not_lt.mpr o)).trans (if_neg (by rw [fp]; exact t))))]
      exact bandTests_tested (by rw [fp]; exact fi) (by rw [fp])
    have closes {r : Reason} (e : nozzleSample i v s0 = closeFill i r s1) : s1.ClosedBy (nozzleSample i v s0) i r := by
      rw [e]
      exact closeFill_closes _
    refine ⟨nozzleSample i v s0, run, fun fi h => ?_, fun fi h o => ?_, fun fi h o t => ?_, fun fi h o t sub lk y l up => ?_,
      fun fi h o t => ?_, fun fi hold low => ?_, fun fi h => ?_, fun fi low r hr => ?_, fun fi h => ?_, fun fi => ?_⟩
    · exact closes (high fi h)
    · exact closes (shot fi h o)
    · exact closes (reached fi h o t)
    · have eq := (tested fi h o t).pauses
      rw [fp, lh] at eq
      refine (eq sub lk y l up).trans ?_
      simp only [s1, upd_upd]
    · intro stays steps
      obtain ⟨-, flows, unpauses, waits, still⟩ := tested fi h o t
      have pushes (p : stays) : s1.bankPushes i v := by
        unfold State.bankPushes
        rw [fp]
        exact p
      have on {t : State} (g : s1.StepsOn t i v) : ∀ b, s.ArbiterOk → f.cascadePos = some b → f.entry.cascade.Nodup →
          s.holderOf b = some (fpReq i) → (s.bank b).pressure < v + s.site.params.stepDiff → s1.GoesOn t i b .supplyExhausted :=
        fun b arb pos nodup held low => g b (arbiterOk_of arb rfl rfl) (by rw [fp]; exact pos) (by rw [fp]; exact nodup) held low
      rw [fp] at flows unpauses waits still
      rw [lh] at unpauses
      refine ⟨fun sub low => ?_, fun sub low lk y l => ?_, fun sub q => waits sub q, fun sub => still sub⟩
      · obtain ⟨same, goes⟩ := flows sub low
        exact ⟨fun p => same (pushes p), on goes⟩
      · obtain ⟨same, goes⟩ := unpauses sub low lk y l
        refine ⟨fun p => (same (pushes p)).trans ?_, on goes⟩
        simp only [s1, upd_upd]
        rfl
    · exact closes ((nozzleSample_leak (s := s0) fi).trans (if_pos ⟨hold, low⟩))
    · exact (nozzleSample_leak (s := s0) fi).trans (if_neg fun q => by
        rcases h with h | h
        · exact absurd q.1 (by rw [show (s0.fp i).leakHold = none from h]; decide)
        · exact absurd q.2 (Nat.not_lt.mpr h))
    · have e := (nozzleSample_venting (s := s0) fi).trans (if_pos low)
      have out : (nozzleSample i v s0).fp i = _ := (congrArg (fun u => State.fp u i) e).trans
        (ventDone_fp (s := s1) (r := r) (by rw [fp]; exact hr))
      rw [out, fp]
      exact ⟨rfl, rfl, rfl⟩
    · exact (nozzleSample_venting (s := s0) fi).trans (if_neg (Nat.not_le.mpr h))
    · exact nozzleSample_other (s := s0) fi
  · intro s ch i c x box fall f s1
    have run := exec_settled (exec_falls fall nofun) (endFill_csInbox.trans box)
    have fp : s1.fp i = { f with nozzle := x.value, nozzleGood := false } := sel_upd_self ..
    refine ⟨_, run, fun fi => ?_, fun fi w => ?_, fun fi => ?_⟩
    · exact endFill_closes (s := s1) (by rw [fp]; exact fi)
    · exact endFill_ends (s := s1) (by rw [fp]; exact fi) ⟨w.once, w.members⟩
    · exact endFill_other (s := s1) (by rw [fp]; exact fi)

end Sys2Proof.Machine
end

section
/-!
PROOFS. A meter pulse and the flow figure (9.4 and 9.6).
-/
namespace Sys2Proof.Machine

variable {i j : FpId} {k : CompId} {s s0 t u v : State} {n mg : Nat}

/-! ### The pulse rate (R166) -/

/-- The pulses of the last second, with the one that has just come. -/
def State.pulsesNow (s : State) (i : FpId) : List Clock :=
  (s.meter i).pulses.filter (fun t => decide ((s.site.clock - t).toNat < 10)) ++ [s.site.clock]

theorem notePulse_meter : (notePulse i s).meter i = { s.meter i with pulses := s.pulsesNow i } := modMeter_meter_self ..

theorem notePulse_rate : ((notePulse i s).meter i).rate s.site.clock = (s.pulsesNow i).length := by
  rw [notePulse_meter]
  unfold Meter.rate State.pulsesNow age Config.flowWindow
  have now : decide ((s.site.clock - s.site.clock).toNat < 10) = true := by
    rw [BitVec.sub_self]
    decide
  rw [List.filter_append, List.filter_filter]
  simp only [Bool.and_self, List.filter_cons, now, List.filter_nil, if_true]

theorem rateTest_low (h : (s.pulsesNow i).length ≤ (s.fp i).entry.maxPulseRate) : rateTest i (notePulse i s) = notePulse i s := by
  refine if_neg ?_
  rw [show (notePulse i s).site.clock = s.site.clock from rfl, notePulse_rate]
  exact Nat.not_lt.mpr h

theorem rateTest_high (h : (s.fp i).entry.maxPulseRate < (s.pulsesNow i).length) :
    rateTest i (notePulse i s) = endFill i .meterFail (notePulse i s) := by
  refine if_pos ?_
  rw [show (notePulse i s).site.clock = s.site.clock from rfl, notePulse_rate]
  exact h

/-! ### What a pulse does at PCM (R87) -/

/-- The fill waits for no bank, or nobody waits for cold: PCM's own work does not reach the fill. -/
def State.apart (s : State) (i : FpId) : Prop := (∀ b, (s.fp i).waitsFor b = false) ∨ s.pcm.waitList = []

theorem evalHead_empty (h : s.pcm.waitList = []) : evalHead s = s := by
  unfold evalHead
  rw [h]
  rfl

theorem lowered_apart {g : Reservation → Reservation} (w : s.WaitOk) (q : s.apart i) (adm : (s.reservation i).state = .admitted)
    (keeps : (g (s.reservation i)).state = (s.reservation i).state) :
    (lowered i g s).fp i = s.fp i ∧ (lowered i g s).meter i = s.meter i ∧
      (lowered i g s).reservation i = g (s.reservation i) := by
  rcases q with q | q
  · obtain ⟨sp, res⟩ := lowered_spares w q adm keeps
    exact ⟨sp.fp i rfl, sp.meter i rfl, res⟩
  · unfold lowered
    split
    · have chill : (afterFall (modReservation i g s)) = modReservation i g s ∨
          (afterFall (modReservation i g s)) = evalChiller (modReservation i g s) := by
        unfold afterFall
        rw [evalHead_empty (s := modReservation i g s) q]
        split
        · exact .inr rfl
        · exact .inl rfl
      rcases chill with h | h <;> rw [h]
      · exact ⟨rfl, rfl, modReservation_reservation_self ..⟩
      · obtain ⟨fps, mtu, -⟩ := evalChiller_parts (s := modReservation i g s)
        refine ⟨?_, ?_, evalChiller_reservation.trans (modReservation_reservation_self ..)⟩
        · rw [State.fp, fps]
          rfl
        · rw [State.meter, mtu]
          rfl
    · exact ⟨rfl, rfl, modReservation_reservation_self ..⟩

/-- A mass update that reaches PCM leaves the fill and its sale, and counts the cold that the mass has used. -/
structure Cooled (i : FpId) (s t : State) : Prop where
  fp : t.fp i = s.fp i
  meter : t.meter i = s.meter i
  record : ∀ c x, (s.reservation i).state = .admitted → (s.reservation i).cls = some c → (s.meter i).txn = some x →
    (t.reservation i).c = consumed (s.reservation i) (qOf s.pcm.entry c) x.mass
  runs : Runs false s t

theorem coldUpdate_cools (w : s.WaitOk) (q : s.apart i) : Cooled i s (coldUpdate i s) := by
  have runs : Runs false s (coldUpdate i s) := Runs.coldUpdate (Runs.refl s)
  by_cases h : ∃ x, (s.reservation i).state = .admitted ∧ (s.meter i).txn = some x
  · obtain ⟨x, adm, hx⟩ := h
    have eq : coldUpdate i s = lowered i (fun r => { r with
        c := consumed (s.reservation i) (qOf s.pcm.entry ((s.reservation i).cls.getD .tamb)) x.mass }) s := by
      unfold coldUpdate
      dsimp only
      rw [adm, hx]
      dsimp only
      rw [modReservation_reservation_self]
      rfl
    obtain ⟨fp, meter, res⟩ := lowered_apart (g := fun r => { r with
      c := consumed (s.reservation i) (qOf s.pcm.entry ((s.reservation i).cls.getD .tamb)) x.mass }) w q adm rfl
    rw [← eq] at fp meter res
    refine ⟨fp, meter, fun c y _ hc hy => ?_, runs⟩
    obtain rfl := Option.some.inj (hx.symm.trans hy)
    rw [res, hc]
    rfl
  · have stays : coldUpdate i s = s := by
      unfold coldUpdate
      dsimp only
      split
      · next x adm hx => exact absurd ⟨x, adm, hx⟩ h
      · rfl
    rw [stays] at runs ⊢
    exact ⟨rfl, rfl, fun c x adm _ hx => absurd ⟨x, adm, hx⟩ h, runs⟩

/-! ### What a pulse does at the sequencer (R136, R167) -/

theorem closedDraw_of {l : List DrawEntry} (h : u.banks = s.banks) : u.closedDraw l = s.closedDraw l := by
  unfold State.closedDraw State.bank
  rw [h]

theorem closeFill_meter {r : Reason} : (closeFill i r s).meter i = { s.meter i with
    txn := (s.meter i).txn.map fun t =>
      { (if (s.fp i).mode = .communication then { t with finalSoc := (s.fp i).presentSoc } else t) with
        draw := s.closedDraw t.draw } } := by
  rw [closeFill_eq, endLink, modLink_meter, (letGoOfBank_spares r).meter i rfl, beforeRelease, modFp_meter, closeDraw_eq,
    modTxn_eq, modMeter_meter_self, takeReason_meter, setFill_meter, modFp_meter, setFill_fp, modFp_fp_self]
  have banks : (takeReason i r (setFill i .settling
      (modFp i (fun f => { f with settle := some s.site.params.settleWindow }) s))).banks = s.banks := by
    have r : Runs false s (takeReason i r (setFill i .settling
        (modFp i (fun f => { f with settle := some s.site.params.settleWindow }) s))) :=
      Runs.takeReason (Runs.setFill (Runs.modFp (Runs.refl s) fun _ => ⟨rfl, rfl⟩))
    exact r.banks rfl
  simp only [Option.map_map, closedDraw_of banks]
  congr 2
  funext t
  dsimp only [Function.comp]
  split <;> rfl

/-- A sale that a fill's close leaves: what has been sold, and what the counts hold. -/
structure Sold (m m' : Meter) : Prop where
  txn : ∀ x, m.txn = some x → ∃ y, m'.txn = some y ∧ y.mass = x.mass ∧ y.amount = x.amount ∧ y.price = x.price ∧
    drawSum y.draw = drawSum x.draw
  counts : m'.pulses = m.pulses ∧ m'.flow = m.flow ∧ m'.creep = m.creep

theorem Sold.refl (m : Meter) : Sold m m := ⟨fun x h => ⟨x, h, rfl, rfl, rfl, rfl⟩, rfl, rfl, rfl⟩

theorem closeFill_sold {r : Reason} : Sold (s.meter i) ((closeFill i r s).meter i) := by
  rw [closeFill_meter]
  refine ⟨fun x h => ?_, rfl, rfl, rfl⟩
  rw [h]
  refine ⟨_, rfl, ?_⟩
  split <;> exact ⟨rfl, rfl, rfl, drawSum_close _ _⟩

/-- The reason that the mass sold so far gives a fill, if any (R167). -/
def State.presetReason (s : State) (i : FpId) (x : Txn) : Option Reason :=
  if (s.fp i).fill = .leakCheck ∨ (s.fp i).fill = .filling then
    if (s.fp i).entry.maxMass * 1000 ≤ x.mass ∨ (x.kind = .mass ∧ x.value ≤ x.mass) then some .presetMass
    else if x.kind = .amount ∧ x.value ≤ x.amount then some .presetAmount
    else none
  else none

theorem presetTests_eq {x : Txn} (h : (s.meter i).txn = some x) : presetTests i s =
    match s.presetReason i x with
    | some r => closeFill i r s
    | none => s := by
  unfold presetTests State.presetReason
  dsimp only
  rw [h]
  dsimp only
  split
  · split
    · rfl
    · split <;> rfl
  · rfl

/-- What a mass update leaves of the fill, its sale and its reservation. -/
structure MassUpdated (i : FpId) (x : Txn) (s t : State) : Prop where
  sold : Sold (s.meter i) (t.meter i)
  ends : ∀ r, s.presetReason i x = some r → (t.fp i).fill = .settling ∧ (t.fp i).reason = some r
  goes : s.presetReason i x = none → (t.fp i).fill = (s.fp i).fill ∧ (t.fp i).reason = (s.fp i).reason
  record : ∀ c, (s.reservation i).state = .admitted → (s.reservation i).cls = some c →
    (t.reservation i).c = consumed (s.reservation i) (qOf s.pcm.entry c) x.mass

theorem inAnyOrder_two (f g : State → State) (s : State) :
    inAnyOrder [f, g] s = g (f { s with orderCount := s.orderCount + 1 }) ∨
      inAnyOrder [f, g] s = f (g { s with orderCount := s.orderCount + 1 }) := by
  unfold inAnyOrder
  simp only [List.length_cons, List.length_nil, takeAll, freeChoice]
  rcases Nat.mod_two_eq_zero_or_one (Config.order s.orderCount) with h | h <;> rw [h]
  · exact .inl rfl
  · exact .inr rfl

theorem Cooled.preset {x : Txn} (h : Cooled i s t) : t.presetReason i x = s.presetReason i x := by
  unfold State.presetReason
  rw [h.fp]

/-- The presets are tested, then PCM is told. -/
theorem presets_then_cools {x : Txn} (w : s.WaitOk) (q : s.apart i) (hx : (s.meter i).txn = some x) :
    MassUpdated i x s (coldUpdate i (presetTests i s)) := by
  rw [presetTests_eq hx]
  cases h : s.presetReason i x with
  | some r =>
    have closed := closeFill_closes (i := i) (s := s) r
    have runs : Runs false s (closeFill i r s) := Runs.closeFill (Runs.refl s)
    have pcm : (closeFill i r s).pcm = s.pcm := by
      obtain ⟨-, -, -, -, p⟩ := closed.rest
      exact p
    have cool := coldUpdate_cools (i := i) (runs.wait w) (.inl fun b => by simp [Fps.waitsFor, closed.settling])
    dsimp only
    obtain ⟨txn, counts⟩ := closeFill_sold (i := i) (s := s) (r := r)
    obtain ⟨y, hy, mass, -⟩ := txn x hx
    have res : (closeFill i r s).reservation i = s.reservation i := by
      rw [State.reservation, pcm]
      rfl
    refine ⟨by rw [cool.meter]; exact ⟨txn, counts⟩, fun r' e => ?_, fun e => absurd e (by rw [h]; nofun), fun c adm hc => ?_⟩
    · obtain rfl := Option.some.inj (h.symm.trans e)
      rw [cool.fp]
      exact ⟨closed.settling, closed.reason⟩
    · rw [cool.record c y (by rw [res]; exact adm) (by rw [res]; exact hc) hy, res, pcm, mass]
  | none =>
    have cool := coldUpdate_cools (i := i) w q
    dsimp only
    refine ⟨by rw [cool.meter]; exact .refl _, fun r e => absurd e (by rw [h]; nofun), fun _ => by rw [cool.fp]; exact ⟨rfl, rfl⟩,
      fun c adm hc => cool.record c x adm hc hx⟩

/-- PCM is told, then the presets are tested. -/
theorem cools_then_presets {x : Txn} (w : s.WaitOk) (q : s.apart i) (hx : (s.meter i).txn = some x) :
    MassUpdated i x s (presetTests i (coldUpdate i s)) := by
  have cool := coldUpdate_cools (i := i) w q
  rw [presetTests_eq (by rw [cool.meter]; exact hx), cool.preset]
  generalize coldUpdate i s = u at *
  cases h : s.presetReason i x with
  | some r =>
    have closed := closeFill_closes (i := i) (s := u) r
    obtain ⟨-, -, -, -, pcm⟩ := closed.rest
    dsimp only
    refine ⟨?_, fun r' e => ?_, fun e => absurd e (by rw [h]; nofun), fun c adm hc => ?_⟩
    · rw [← cool.meter]
      exact closeFill_sold
    · obtain rfl := Option.some.inj (h.symm.trans e)
      exact ⟨closed.settling, closed.reason⟩
    · rw [State.reservation, pcm]
      exact cool.record c x adm hc hx
  | none =>
    dsimp only
    refine ⟨by rw [cool.meter]; exact .refl _, fun r e => absurd e (by rw [h]; nofun), fun _ => by rw [cool.fp]; exact ⟨rfl, rfl⟩,
      fun c adm hc => cool.record c x adm hc hx⟩

/-- A flow update moves the low-flow timer alone. -/
theorem flowUpdate_eq : flowUpdate i s = modFp i (fun f => { f with lowFlow :=
    if (s.meter i).window = true ∧ (s.fp i).fill = .filling ∧ (s.fp i).sub = some .flow then
      (if (s.meter i).figure < s.site.params.stepFlow * 1000 then some (f.lowFlow.getD s.site.params.stepDwell) else none)
    else f.lowFlow }) s := by
  unfold flowUpdate State.flowLow
  split
  · next h =>
    by_cases low : (s.meter i).figure < s.site.params.stepFlow * 1000
    · rw [if_pos (by simpa using low)]
      simp only [modFp, if_pos low]
      cases (s.fp i).lowFlow <;> rfl
    · rw [if_neg (by simpa using low)]
      simp only [modFp, if_neg low]
  · simp only [modFp]
    rw [show ({ s.fp i with lowFlow := (s.fp i).lowFlow } : Fps) = s.fp i from rfl]
    rw [State.fp, upd_sel_self]

theorem massUpdate_updates {x : Txn} (w : s.WaitOk) (q : s.apart i) (hx : (s.meter i).txn = some x) :
    MassUpdated i x s (massUpdate i s) := by
  have mid : MassUpdated i x s (inAnyOrder [presetTests i, coldUpdate i] s) := by
    have start : MassUpdated i x { s with orderCount := s.orderCount + 1 } (inAnyOrder [presetTests i, coldUpdate i] s) := by
      have w' : State.WaitOk { s with orderCount := s.orderCount + 1 } := ⟨w.once, w.members⟩
      rcases inAnyOrder_two (presetTests i) (coldUpdate i) s with h | h <;> rw [h]
      · exact presets_then_cools w' q hx
      · exact cools_then_presets w' q hx
    exact ⟨start.sold, start.ends, start.goes, start.record⟩
  unfold massUpdate
  rw [flowUpdate_eq]
  generalize inAnyOrder [presetTests i, coldUpdate i] s = u at *
  refine ⟨mid.sold, fun r h => ?_, fun h => ?_, mid.record⟩ <;> rw [modFp_fp_self]
  · exact mid.ends r h
  · exact mid.goes h

/-! ### A meter pulse (R165, R169) -/

theorem counts_iff {m : Meter} : m.counts = true ↔ m.window = true ∧ ∃ x, m.txn = some x ∧ x.draw ≠ [] := by
  unfold Meter.counts
  cases m.txn <;> simp

theorem pulseToTxn_meter : (pulseToTxn i mg s).meter i =
    { s.meter i with txn := (s.meter i).txn.map (·.pulse mg), flow := (s.meter i).flow ++ [(s.site.clock, mg)] } :=
  modMeter_meter_self ..

/-- The creep counter with one pulse more. -/
def Meter.crept (m : Meter) (mg : Nat) : Nat := min 4294967295 (m.creep + mg)

theorem pulseToCreep_eq : pulseToCreep i mg s = { s with
    mtu := upd s.mtu i { s.meter i with
      creep := (s.meter i).crept mg
      creepBlock := (s.meter i).creepBlock || decide ((s.fp i).entry.creepLimit * 1000 < (s.meter i).crept mg) }
    sli := { s.sli with summary := s.sli.summary |||
      if (s.fp i).entry.creepLimit * 1000 < (s.meter i).crept mg ∧ (s.meter i).creepBlock = false then BitVec.twoPow 15 12
      else 0 } } := by
  have posts : (decide ((s.fp i).entry.creepLimit * 1000 < (s.meter i).crept mg) && !(s.meter i).creepBlock) = true ↔
      (s.fp i).entry.creepLimit * 1000 < (s.meter i).crept mg ∧ (s.meter i).creepBlock = false := by
    rw [Bool.and_eq_true, decide_eq_true_iff, Bool.not_eq_true']
  unfold pulseToCreep
  rw [← Meter.crept, postIf_eq]
  by_cases h : (s.fp i).entry.creepLimit * 1000 < (s.meter i).crept mg ∧ (s.meter i).creepBlock = false
  · rw [if_pos h, if_pos (posts.mpr h)]
    rfl
  · rw [if_neg h, if_neg (mt posts.mp h)]
    rfl

theorem placePulse_counts (c : (s.meter i).counts = true) :
    placePulse i s = massUpdate i (pulseToTxn i (s.fp i).entry.mgPerPulse s) := if_pos c

theorem placePulse_creeps (c : (s.meter i).counts = false) :
    placePulse i s = pulseToCreep i (s.fp i).entry.mgPerPulse s := if_neg (by rw [c]; decide)

/-- A pulse after the fill's end moves nothing at the sequencer. -/
theorem placePulse_ended (w : s.WaitOk) (f : (s.fp i).fill ≠ .leakCheck) (g : (s.fp i).fill ≠ .filling) :
    ((placePulse i s).fp i).fill = (s.fp i).fill ∧ ((placePulse i s).fp i).reason = (s.fp i).reason := by
  cases c : (s.meter i).counts
  · rw [placePulse_creeps c, pulseToCreep, postIf_fp, modMeter_fp]
    exact ⟨rfl, rfl⟩
  · rw [placePulse_counts c]
    obtain ⟨-, x, hx, -⟩ := counts_iff.mp c
    have txn : ((pulseToTxn i (s.fp i).entry.mgPerPulse s).meter i).txn = some (x.pulse (s.fp i).entry.mgPerPulse) := by
      rw [pulseToTxn_meter, hx]
      rfl
    have upd := massUpdate_updates (i := i) (s := pulseToTxn i (s.fp i).entry.mgPerPulse s) ⟨w.once, w.members⟩
      (.inl fun b => by
        show (s.fp i).waitsFor b = false
        simp [Fps.waitsFor, f, g]) txn
    refine upd.goes (if_neg ?_)
    rintro (h | h)
    · exact f h
    · exact g h

theorem flowAged_iff {e : Clock × Nat} {rest : List (Clock × Nat)} (h : (s.meter i).flow = e :: rest) :
    s.flowAged i = true ↔ 10 ≤ (s.site.clock - e.1).toNat := by
  unfold State.flowAged
  rw [h]
  exact decide_eq_true_iff

/-- Settles O55. -/
theorem pulsesAreMetered : Obligations.PulsesAreMetered := by
  intro s i f m mg pulses creep beyond
  have run (l : f.loaded = true) : exec (.meterPulse i) s = .next (placePulse i (rateTest i (notePulse i s))) := exec_pos rfl l
  have noteWait (w : s.WaitOk) : (notePulse i s).WaitOk := ⟨w.once, w.members⟩
  have quiet {t : State} (l : f.loaded = true) (high : f.entry.maxPulseRate < pulses.length) (fill : FillState) (r : Option Reason)
      (h : endFill i .meterFail (notePulse i s) = t) (w : t.WaitOk) (hf : (t.fp i).fill = fill) (hr : (t.fp i).reason = r)
      (a : fill ≠ .leakCheck) (b : fill ≠ .filling) :
      ∃ t, exec (.meterPulse i) s = .next t ∧ (t.fp i).fill = fill ∧ (t.fp i).reason = r := by
    have e := run l
    rw [rateTest_high high, h] at e
    obtain ⟨p, q⟩ := placePulse_ended w (by rw [hf]; exact a) (by rw [hf]; exact b)
    exact ⟨_, e, p.trans hf, q.trans hr⟩
  refine ⟨fun l => exec_neg rfl (by rw [show (s.fp i).loaded = false from l]; decide), fun l high fi w => ?_,
    fun l high fi w => ?_, fun l high fi w => ?_, fun l low out => ?_, ?_, ?_, ?_⟩
  · have closed := endFill_closes (s := notePulse i s) (r := .meterFail) fi
    have runs : Runs false (notePulse i s) (endFill i .meterFail (notePulse i s)) := Runs.endFill (Runs.refl _)
    exact quiet l high _ _ rfl (runs.wait (noteWait w)) closed.settling closed.reason (by decide) (by decide)
  · have ended := endFill_ends (s := notePulse i s) (r := .meterFail) fi (noteWait w)
    have runs : Runs false (notePulse i s) (endFill i .meterFail (notePulse i s)) := Runs.endFill (Runs.refl _)
    exact quiet l high _ _ rfl (runs.wait (noteWait w)) ended.state ended.reason (by decide) (by decide)
  · refine quiet l high _ _ (endFill_other (s := notePulse i s) fi) (noteWait w) rfl rfl ?_ ?_ <;> intro h <;>
      exact absurd (fi.symm.trans (congrArg FillState.running h)) (by decide)
  · have e := run l
    rw [rateTest_low low, placePulse_creeps] at e
    · rw [pulseToCreep_eq, notePulse_meter] at e
      refine e.trans (congrArg Host.Outcome.next ?_)
      unfold notePulse modMeter
      simp only [upd_upd]
      rfl
    · rw [← Bool.not_eq_true, counts_iff, notePulse_meter]
      rintro ⟨window, x, hx, draw⟩
      rcases out with out | out | ⟨y, hy, nil⟩
      · exact absurd (out.symm.trans window) (by decide)
      · exact absurd (out.symm.trans hx) nofun
      · obtain rfl := Option.some.inj (hy.symm.trans hx)
        exact draw nil
  · intro x l low window hx draw w lk mass amount runs full paid
    have e := run l
    have counts : ((notePulse i s).meter i).counts = true := by
      rw [counts_iff, notePulse_meter]
      exact ⟨window, x, hx, draw⟩
    rw [rateTest_low low, placePulse_counts counts] at e
    have apart : (pulseToTxn i mg (notePulse i s)).apart i := by
      refine lk.imp (fun h b => ?_) id
      show (s.fp i).waitsFor b = false
      have : ((s.fp i).link == .stacked) = false := by simpa using h
      simp [Fps.waitsFor, this]
    have meter : (pulseToTxn i mg (notePulse i s)).meter i =
        { m with pulses := pulses, txn := some (x.pulse mg), flow := m.flow ++ [(s.site.clock, mg)] } := by
      rw [pulseToTxn_meter, notePulse_meter]
      dsimp only
      rw [hx]
      rfl
    have upd := massUpdate_updates (i := i) (s := pulseToTxn i mg (notePulse i s)) (x := x.pulse mg) ⟨w.once, w.members⟩ apart
      (by rw [meter])
    have reason : (pulseToTxn i mg (notePulse i s)).presetReason i (x.pulse mg) =
        if runs then if full then some .presetMass else if paid then some .presetAmount else none else none := rfl
    obtain ⟨⟨txn, hp, hf, hc⟩, ends, goes, record⟩ := upd
    rw [meter] at txn hp hf hc
    obtain ⟨y, hy, hm, ha, hpr, hd⟩ := txn _ rfl
    refine ⟨_, e, ⟨y, hy, hm, ha, hpr, fun sum => ?_⟩, hp, hf, hc, fun r fu => ?_, fun r nf pa => ?_, fun r nf np => ?_,
      fun c adm hc => ?_⟩
    · rw [hd]
      exact (drawSum_add mg x.draw draw).trans (congrArg (· + mg) sum)
    · exact ends _ (by rw [reason, if_pos r, if_pos fu])
    · exact ends _ (by rw [reason, if_pos r, if_neg nf, if_pos pa])
    · exact (goes (by rw [reason, if_pos r, if_neg nf, if_neg np])).1
    · exact record c adm hc
  · intro e rest hf old flows low
    have run := exec_pos (c := .flowAgeing i) (s := s) rfl ((flowAged_iff hf).mpr old)
    have meter : (modMeter i (fun m => { m with flow := m.flow.drop 1 }) s).meter i = { m with flow := rest } := by
      rw [modMeter_meter_self, hf]
      rfl
    rw [flowUpdate_eq, meter] at run
    refine ⟨_, run, by rw [modFp_meter, meter], ?_, rfl, by rw [modFp_fp_self]; rfl⟩
    have r : Runs false s (flowUpdate i (modMeter i (fun m => { m with flow := m.flow.drop 1 }) s)) :=
      Runs.flowUpdate (Runs.modMeter (Runs.refl s) fun _ h => h)
    have fixed := r.fixed
    rw [flowUpdate_eq, meter] at fixed
    exact fixed
  · intro n
    refine exec_neg rfl ?_
    cases hf : (s.meter i).flow with
    | nil =>
      unfold State.flowAged
      rw [hf]
      exact Bool.false_ne_true
    | cons e rest =>
      rw [flowAged_iff hf]
      exact Nat.not_le.mpr (n e rest hf)

end Sys2Proof.Machine
end

section
/-!
PROOFS. A compressor comes to rest, stops and trips, and the commands of the host (chapter 4, O42).
-/
namespace Sys2Proof.Machine

variable {k : CompId} {s t u v : State} {w : Bool} {b : BankId}

/-! ### A compressor comes to rest (R59, R64, R69, R71) -/

/-- The record of a machine at rest: no timer runs, no disable is pending, no trip stands and there is no target. -/
def Compressor.rested (c : Compressor) : Compressor :=
  { c.timersOff with disablePending := false, tripCause := none, target := none }

/-- A new state is posted (R58). -/
theorem setCompState_posts {st : CompState} (n : (s.comp k).state ≠ st) :
    (setCompState k st s).sli.summary.getLsbD (7 + k.val) = true := by
  unfold setCompState
  rw [postIf_eq, if_pos (by simpa using n)]
  have small : 7 + k.val < 15 := by omega
  show ((modComp k _ s).sli.summary ||| BitVec.twoPow 15 (flagCompressor k)).getLsbD (7 + k.val) = true
  simp [flagCompressor, small]

/-- OFF is entered with its timer, and the machine may not start while that runs (R62, R64). -/
theorem enterOff_comp : ∃ st, (st = .off ∨ st = .startDeferred) ∧ (enterOff k s).comp k =
    { (s.comp k).rested with state := st, minOff := some (s.comp k).entry.minOff } := by
  unfold enterOff
  generalize e : setTarget k none (setCompState k .off (modComp k (fun c =>
    { c.timersOff with minOff := some c.entry.minOff, disablePending := false, tripCause := none }) s)) = u
  have record : u.comp k = { (s.comp k).rested with state := .off, minOff := some (s.comp k).entry.minOff } := by
    rw [← e, setTarget_comp_self, setCompState_comp_self, modComp_comp_self]
    rfl
  obtain ⟨st, rests, at_⟩ := evalNeed_forbidden (u := u) (k := k) (by simp [State.permitted, record]) (.inl (by rw [record]))
  exact ⟨st, rests, by rw [at_, record]⟩

/-- Entering OFF from another state is posted, and so it stands after the notices. -/
theorem enterOff_posts (n : (s.comp k).state ≠ .off) : (settle (enterOff k s)).sli.summary.getLsbD (7 + k.val) = true := by
  unfold enterOff
  have posted := setCompState_posts (k := k) (st := .off) (s := modComp k (fun c =>
    { c.timersOff with minOff := some c.entry.minOff, disablePending := false, tripCause := none }) s)
    (by rw [modComp_comp_self]; exact n)
  exact (Runs.settle (w := false) (Runs.evalNeed (Runs.setTarget (Runs.refl _)))).posts _ posted

theorem enterOff_rests (k : CompId) (s : State) :
    (settle (enterOff k s)).comp k = { (s.comp k).rested with state := .off, minOff := some (s.comp k).entry.minOff } ∨
    (settle (enterOff k s)).comp k =
      { (s.comp k).rested with state := .startDeferred, minOff := some (s.comp k).entry.minOff } := by
  obtain ⟨st, rests, record⟩ := enterOff_comp (k := k) (s := s)
  have settled := settle_resting (k := k) (s := enterOff k s) (by rw [record]; exact rests) (by rw [record]; exact nofun)
  rw [record] at settled
  exact settled

theorem enterDisabled_rests (k : CompId) (s : State) :
    (settle (enterDisabled k s)).comp k = { (s.comp k).rested with state := .disabled } := by
  have record : (enterDisabled k s).comp k = { (s.comp k).rested with state := .disabled } := by
    unfold enterDisabled
    rw [setTarget_comp_self, setCompState_comp_self, modComp_comp_self]
    rfl
  rw [(settle_deaf (k := k) (s := enterDisabled k s) (by simp [record])).comp, record]

/-! ### A compressor stops, or trips (R69, R71) -/

/-- The record of a machine that runs down. -/
def Compressor.stopped (c : Compressor) : Compressor :=
  { c with state := .stopping, target := none, start := none, minRun := none, bankWait := none
           runDown := some c.entry.runDown }

/-- The record of a machine that has tripped. -/
def Compressor.trippedBy (c : Compressor) (cause : TripCause) : Compressor :=
  { c.rested with state := .tripped, tripCause := some cause }

/-- What letting go of its target leaves to a machine that waits for no bank. -/
theorem letGoOfTarget_lets {p : Option BankId} (q : ∀ c, (s.comp k).waitsFor c = false) :
    CompSpares k s (letGoOfTarget k p s) ∧ ∀ b, p = some b → (letGoOfTarget k p s).holderOf b ≠ some (csReq k) := by
  refine ⟨(CompSpares.refl q).letGoOfTarget, fun b e => ?_⟩
  subst e
  exact letGo_not_cs q

/-- A machine leaves the bank it had, in a state that takes no notice: it has record `c`, its change is posted, and it holds
its old target no longer. -/
structure LeftBank (k : CompId) (c : Compressor) (s t : State) : Prop where
  record : t.comp k = c
  posted : (s.comp k).state ≠ c.state → t.sli.summary.getLsbD (7 + k.val) = true
  freed : ∀ b, (s.comp k).target = some b → t.holderOf b ≠ some (csReq k)

theorem enterStopping_leaves (k : CompId) (s : State) : LeftBank k (s.comp k).stopped s (enterStopping k s) := by
  unfold enterStopping
  generalize e : setCompState k .stopping (modComp k (fun c => { c with
    start := none, minRun := none, bankWait := none, runDown := some c.entry.runDown }) s) = u
  have record : (setTarget k none u).comp k = (s.comp k).stopped := by
    rw [setTarget_comp_self, ← e, setCompState_comp_self, modComp_comp_self]
    rfl
  obtain ⟨spares, freed⟩ := letGoOfTarget_lets (k := k) (p := (s.comp k).target) (s := setTarget k none u)
    (fun c => by rw [record]; rfl)
  refine ⟨spares.comp.trans record, fun n => ?_, freed⟩
  have posted : u.sli.summary.getLsbD (7 + k.val) = true := by
    rw [← e]
    exact setCompState_posts (by rw [modComp_comp_self]; exact n)
  exact (Runs.letGoOfTarget (w := false) (Runs.setTarget (Runs.refl u))).posts _ posted

theorem enterTripped_leaves (k : CompId) (cause : TripCause) (s : State) :
    LeftBank k ((s.comp k).trippedBy cause) s (enterTripped k cause s) := by
  unfold enterTripped
  generalize e : setCompState k .tripped (modComp k (fun c =>
    { c.timersOff with tripCause := some cause, disablePending := false }) s) = u
  have record : (setTarget k none u).comp k = (s.comp k).trippedBy cause := by
    rw [setTarget_comp_self, ← e, setCompState_comp_self, modComp_comp_self]
    rfl
  obtain ⟨spares, freed⟩ := letGoOfTarget_lets (k := k) (p := (s.comp k).target) (s := setTarget k none u)
    (fun c => by rw [record]; rfl)
  refine ⟨spares.comp.trans record, fun n => ?_, freed⟩
  have posted : u.sli.summary.getLsbD (7 + k.val) = true := by
    rw [← e]
    exact setCompState_posts (by rw [modComp_comp_self]; exact n)
  exact (Runs.letGoOfTarget (w := false) (Runs.setTarget (Runs.refl u))).posts _ posted

/-- The notices after it change none of this. -/
theorem LeftBank.settle {c : Compressor} (h : LeftBank k c s t) (deaf : c.state = .stopping ∨ c.state = .tripped) :
    LeftBank k c s (settle t) := by
  have still := settle_deaf (k := k) (s := t) (by rw [h.record]; exact .inr (.inr deaf))
  exact ⟨still.comp.trans h.record, fun n => (Runs.settle (w := false) (Runs.refl t)).posts _ (h.posted n),
    fun b e => still.grant b (h.freed b e)⟩

/-! ### COMPRESSOR_COMMAND (R59, R72) -/

@[simp] theorem compCommand_val {body : CompId → State → State × Answer} : compCommand k.val body s = body k s := by
  simp [compCommand]
theorem compCommand_unknown {body : CompId → State → State × Answer} {n : Nat} (h : 2 ≤ n) :
    compCommand n body s = refuse s .badField := by
  simp [compCommand, unitOf_ge h]

/-- ENABLE and CLEAR_TRIP take the machine to OFF. -/
def Enabled (k : CompId) (s u : State) : Prop :=
  u.banks = s.banks ∧ u.fixed = s.fixed ∧ u.sli.summary.getLsbD (7 + k.val) = true ∧
    (u.comp k = { (s.comp k).rested with state := .off, minOff := some (s.comp k).entry.minOff } ∨
      u.comp k = { (s.comp k).rested with state := .startDeferred, minOff := some (s.comp k).entry.minOff })

theorem enterOff_enables (n : (s.comp k).state ≠ .off) : Enabled k s (settle (enterOff k s)) := by
  have ran : Runs false s (settle (enterOff k s)) := Runs.settle (Runs.enterOff (Runs.refl s))
  exact ⟨ran.banks rfl, ran.fixed, enterOff_posts n, enterOff_rests k s⟩

theorem ownCompressorEnable_enables (d : (s.comp k).state = .disabled) (l : (s.comp k).loaded = true) :
    ownCompressorEnable k s = accept (settle (enterOff k s)) := by simp [ownCompressorEnable, d, l]
theorem ownCompressorEnable_unloaded (d : (s.comp k).state = .disabled) (l : (s.comp k).loaded = false) :
    ownCompressorEnable k s = refuse s .notConfigured := by simp [ownCompressorEnable, d, l]
theorem ownCompressorEnable_other (d : (s.comp k).state ≠ .disabled) : ownCompressorEnable k s = refuse s .badState := by
  unfold ownCompressorEnable
  split
  · next e => exact absurd e d
  all_goals rfl

theorem ownCompressorDisable_rests (d : (s.comp k).state = .off ∨ (s.comp k).state = .startDeferred ∨
    (s.comp k).state = .tripped) : ownCompressorDisable k s = accept (settle (enterDisabled k s)) := by
  rcases d with d | d | d <;> simp [ownCompressorDisable, d]
theorem ownCompressorDisable_stops (d : (s.comp k).state = .starting ∨ (s.comp k).state = .recirc ∨
    (s.comp k).state = .filling) : ownCompressorDisable k s =
      accept (settle (enterStopping k (modComp k (fun c => { c with disablePending := true }) s))) := by
  rcases d with d | d | d <;> simp [ownCompressorDisable, d]

theorem ownCompressorDisable_pends (d : (s.comp k).state = .stopping) :
    ownCompressorDisable k s = accept (modComp k (fun c => { c with disablePending := true }) s) := by
  simp [ownCompressorDisable, d]
theorem ownCompressorDisable_refuses (d : (s.comp k).state = .disabled) : ownCompressorDisable k s = refuse s .badState := by
  simp [ownCompressorDisable, d]

/-- CLEAR_TRIP is taken (R72). -/
def State.mayClearTrip (s : State) (k : CompId) : Prop :=
  s.inputAsserted .compressorTrip k.val = false ∧ (s.comp k).dischargeGood = true ∧
    (s.comp k).discharge ≤ (s.comp k).entry.dischargeLimit

theorem ownCompressorClearTrip_clears (d : (s.comp k).state = .tripped) (m : s.mayClearTrip k) :
    ownCompressorClearTrip k s = accept (settle (enterOff k s)) := by
  obtain ⟨input, good, limit⟩ := m
  simp [ownCompressorClearTrip, d, input, good, limit]
theorem ownCompressorClearTrip_refuses (d : (s.comp k).state ≠ .tripped ∨ ¬ s.mayClearTrip k) :
    ownCompressorClearTrip k s = refuse s .badState := by
  unfold ownCompressorClearTrip
  refine if_neg fun ⟨tripped, may⟩ => ?_
  rcases d with d | d
  · exact d tripped
  · exact d may

theorem enterStopping_disables (k : CompId) (s : State) :
    let u := settle (enterStopping k (modComp k (fun c => { c with disablePending := true }) s))
    u.banks = s.banks ∧ u.fixed = s.fixed ∧ u.comp k = { (s.comp k).stopped with disablePending := true } ∧
      ∀ b, (s.comp k).target = some b → u.holderOf b ≠ some (csReq k) := by
  intro u
  have ran : Runs false s u := Runs.settle (Runs.enterStopping (Runs.modComp (Runs.refl s) fun _ => ⟨rfl, rfl⟩))
  have left := (enterStopping_leaves k (modComp k (fun c => { c with disablePending := true }) s)).settle (.inl rfl)
  refine ⟨ran.banks rfl, ran.fixed, left.record.trans (by rw [modComp_comp_self]; rfl), fun b e => left.freed b ?_⟩
  rw [modComp_comp_self]
  exact e

/-- Settles O42. -/
theorem compressorCommands : Obligations.CompressorCommands := by
  unfold Obligations.CompressorCommands
  intro s
  refine ⟨fun n h => ⟨refuses_of rfl (compCommand_unknown h), refuses_of rfl (compCommand_unknown h),
    refuses_of rfl (compCommand_unknown h)⟩, fun k => ?_⟩
  intro c atRest toOff mayClear
  refine ⟨fun d l => ?_, fun d l => ?_, fun d => ?_, fun d => ?_, fun d => ?_, fun d => ?_, fun d => ?_, fun d m => ?_, fun d => ?_⟩
  · exact ⟨_, answers_of rfl (compCommand_val.trans (ownCompressorEnable_enables d l)),
      enterOff_enables (fun e => nomatch d.symm.trans e)⟩
  · exact refuses_of rfl (compCommand_val.trans (ownCompressorEnable_unloaded d l))
  · exact refuses_of rfl (compCommand_val.trans (ownCompressorEnable_other d))
  · have ran : Runs false s (settle (enterDisabled k s)) := Runs.settle (Runs.enterDisabled (Runs.refl s))
    exact ⟨_, answers_of rfl (compCommand_val.trans (ownCompressorDisable_rests d)), enterDisabled_rests k s,
      ran.banks rfl, ran.fixed⟩
  · exact ⟨_, answers_of rfl (compCommand_val.trans (ownCompressorDisable_stops d)), enterStopping_disables k s⟩
  · exact answers_of rfl (compCommand_val.trans (ownCompressorDisable_pends d))
  · exact refuses_of rfl (compCommand_val.trans (ownCompressorDisable_refuses d))
  · exact ⟨_, answers_of rfl (compCommand_val.trans (ownCompressorClearTrip_clears d m)),
      enterOff_enables (fun e => nomatch d.symm.trans e)⟩
  · exact refuses_of rfl (compCommand_val.trans (ownCompressorClearTrip_refuses d))

end Sys2Proof.Machine
end

section
/-!
PROOFS. The chiller: its evaluation, the cold store, the head of the wait list and the commands of the host (chapter 5, O43).
-/
namespace Sys2Proof.Machine

variable {i j : FpId} {s t u v : State} {n : Nat} {e : Nat} {cat : Category} {cl : PrecoolClass}

/-! ### The evaluation of the chiller (R79 to R81) -/

/-- The chiller stands in `c`; a change is posted. -/
def State.chilled (s : State) (c : Chiller) : State :=
  { s with pcm := { s.pcm with chiller := c }
           sli := { s.sli with summary := s.sli.summary ||| if c = s.pcm.chiller then 0 else BitVec.twoPow 15 9 } }

theorem setChiller_eq (c : Chiller) : setChiller c s = s.chilled c := by
  unfold setChiller State.chilled
  rw [postIf_eq]
  by_cases e : c = s.pcm.chiller
  · subst e
    simp [modPcm]
  · have new : s.pcm.chiller ≠ c := fun h => e h.symm
    simp [new, e, modPcm, flagChiller]

theorem chilled_self : s.chilled s.pcm.chiller = s := by
  unfold State.chilled
  rw [if_pos rfl]
  have none : s.sli.summary ||| 0 = s.sli.summary := BitVec.or_zero
  rw [none]

theorem evalChiller_eq : evalChiller s = s.chilled s.chillerNext := setChiller_eq _

/-- Chiller control is active (R79). -/
def State.active (s : State) : Prop := s.site.state = .operating ∨ s.site.state = .maintenance

theorem chillerActive_iff : s.site.state.chillerActive = true ↔ s.active := by
  unfold State.active SiteState.chillerActive
  cases s.site.state <;> simp

/-- An idle chiller is asked to run (R80, R81). -/
def State.coldAsked (s : State) : Prop :=
  0 < s.outstandingSum ∨ s.pcm.tcsGood = false ∨ s.pcm.entry.setpoint + s.pcm.entry.differential < s.pcm.tcs

theorem chillerNext_starts (h : s.pcm.chiller = .idle) (a : s.active) (c : s.coldAsked) : s.chillerNext = .running := by
  have asked : s.chillerForced = true ∨ s.pcm.entry.setpoint + s.pcm.entry.differential < s.pcm.tcs := by
    rcases c with c | c | c
    · exact .inl (by simp [State.chillerForced, c])
    · exact .inl (by simp [State.chillerForced, c])
    · exact .inr c
  simp only [State.chillerNext, h, chillerActive_iff.mpr a, Bool.true_and, Bool.or_eq_true, decide_eq_true_eq, asked, if_true]

theorem chillerNext_rests (h : s.pcm.chiller = .idle) (a : ¬ (s.active ∧ s.coldAsked)) : s.chillerNext = .idle := by
  have no : (s.site.state.chillerActive &&
      (s.chillerForced || decide (s.pcm.entry.setpoint + s.pcm.entry.differential < s.pcm.tcs))) ≠ true := by
    intro on
    rw [Bool.and_eq_true, Bool.or_eq_true, chillerActive_iff, State.chillerForced, Bool.or_eq_true, decide_eq_true_eq,
      decide_eq_true_eq, Bool.not_eq_true', or_assoc] at on
    exact a on
  simp only [State.chillerNext, h]
  exact if_neg no

/-- A running chiller is let stop (R80, R81). -/
def State.coldEnough (s : State) : Prop :=
  s.outstandingSum = 0 ∧ s.pcm.tcsGood = true ∧ s.pcm.tcs ≤ s.pcm.entry.setpoint - s.pcm.entry.differential

theorem chillerNext_stops (h : s.pcm.chiller = .running) (a : s.active) (c : s.coldEnough) : s.chillerNext = .idle := by
  obtain ⟨sum, good, cold⟩ := c
  simp only [State.chillerNext, h, chillerActive_iff.mpr a, State.chillerForced, sum, good, cold]
  rfl

theorem chillerNext_goesOn (h : s.pcm.chiller = .running) (a : ¬ (s.active ∧ s.coldEnough)) : s.chillerNext = .running := by
  have no : (s.site.state.chillerActive && !s.chillerForced &&
      decide (s.pcm.tcs ≤ s.pcm.entry.setpoint - s.pcm.entry.differential)) ≠ true := by
    intro on
    rw [Bool.and_eq_true, Bool.and_eq_true, chillerActive_iff, State.chillerForced, Bool.not_eq_true', Bool.or_eq_false_iff,
      decide_eq_false_iff_not, decide_eq_true_eq, Bool.not_eq_false'] at on
    obtain ⟨⟨on, sum, good⟩, cold⟩ := on
    exact a ⟨on, by omega, good, cold⟩
  simp only [State.chillerNext, h]
  exact if_neg no

theorem chillerNext_out (h : s.pcm.chiller = .disabled ∨ s.pcm.chiller = .tripped) : s.chillerNext = s.pcm.chiller := by
  rcases h with h | h <;> simp only [State.chillerNext, h]

/-- An evaluation leaves a chiller in or out of service. -/
theorem chillerNext_service : (s.chillerNext = .tripped ∨ s.chillerNext = .disabled ↔
    s.pcm.chiller = .tripped ∨ s.pcm.chiller = .disabled) := by
  unfold State.chillerNext
  dsimp only
  split <;> (try split) <;> simp_all

/-- The class a fill is given does not depend on whether the chiller runs (R30, R91). -/
theorem admitClass_chilled {c : Chiller} (h : (c = .tripped ∨ c = .disabled) ↔
    (s.pcm.chiller = .tripped ∨ s.pcm.chiller = .disabled)) : (s.chilled c).admitClass i e cat = s.admitClass i e cat := by
  have serves (x : Chiller) : (x != .tripped && x != .disabled) = !decide (x = .tripped ∨ x = .disabled) := by cases x <;> rfl
  have free (cl : PrecoolClass) : (s.chilled c).free cl = s.free cl := by
    show (s.chilled c).avail cl - s.outstandingSum = s.avail cl - s.outstandingSum
    have avail : (s.chilled c).avail cl = s.avail cl := by
      unfold State.avail
      have same : decide ((s.chilled c).pcm.chiller = .tripped ∨ (s.chilled c).pcm.chiller = .disabled) =
          decide (s.pcm.chiller = .tripped ∨ s.pcm.chiller = .disabled) := decide_eq_decide.mpr h
      rw [Bool.and_assoc, Bool.and_assoc, serves, serves, same]
      rfl
    rw [avail]
  unfold State.admitClass State.classAdmits
  simp only [free]
  rfl

/-! ### The wait list (R91, R92) -/

theorem evalHead_full {rest : List FpId} (h : s.pcm.waitList = j :: rest)
    (f : s.admitClass j (s.reservation j).estimate ((s.reservation j).category.getD .s) = none) : evalHead s = s := by
  unfold evalHead
  rw [h, List.length_cons, evalHeads]
  simp only [h, f]

theorem evalHead_fits {rest : List FpId} (h : s.pcm.waitList = j :: rest)
    (f : s.admitClass j (s.reservation j).estimate ((s.reservation j).category.getD .s) = some cl) :
    evalHead s = evalHeads rest.length (fpsAdmitted j cl s.pcm.band (admitFill j (s.reservation j).estimate
      ((s.reservation j).category.getD .s) cl (modPcm (fun p => { p with waitList := rest }) s))) := by
  unfold evalHead
  rw [h, List.length_cons, evalHeads]
  simp only [h, f]

theorem evalChiller_tcs : (evalChiller s).pcm.tcs = s.pcm.tcs := by
  rw [evalChiller_eq]
  rfl

theorem admitFill_tcs : (admitFill j e cat cl s).pcm.tcs = s.pcm.tcs := by
  unfold admitFill
  dsimp only
  split
  · exact evalChiller_tcs.trans rfl
  · rfl

/-- The heads of the wait list are taken: a fuelling point in no list keeps its frame, its admission and its record. -/
structure PassedBy (i : FpId) (s t : State) : Prop where
  framed : Framed false i s t
  record : t.reservation i = s.reservation i
  out : i ∉ t.pcm.waitList
  tcs : t.pcm.tcs = s.pcm.tcs

theorem evalHeads_passes (o : i ∉ s.pcm.waitList) : PassedBy i s (evalHeads n s) := by
  induction n generalizing s with
  | zero => exact ⟨.refl s, rfl, o, rfl⟩
  | succ n ih =>
    unfold evalHeads
    split
    · exact ⟨.refl s, rfl, o, rfl⟩
    · next j rest list =>
      rw [list] at o
      dsimp only
      split
      · exact ⟨.refl s, rfl, list ▸ o, rfl⟩
      · next c _ =>
        have other : j ≠ i := fun e => o (e ▸ List.mem_cons_self)
        generalize listed : modPcm (fun p => { p with waitList := rest }) s = u
        have framed : Framed false i s (fpsAdmitted j c s.pcm.band (admitFill j (s.reservation j).estimate
            ((s.reservation j).category.getD .s) c u)) := by
          obtain ⟨fps, -, vlr, -⟩ := admit_parts
          exact Framed.fpsAdmitted ((Framed.refl s).same (fps.trans (listed ▸ rfl)) (vlr.trans (listed ▸ rfl))) (.inr other)
        have res : (fpsAdmitted j c s.pcm.band (admitFill j (s.reservation j).estimate
            ((s.reservation j).category.getD .s) c u)).reservation i = s.reservation i := by
          rw [State.reservation, fpsAdmitted_pcm]
          exact (admit_reservation other).trans (listed ▸ rfl)
        have tcs : (admitFill j (s.reservation j).estimate ((s.reservation j).category.getD .s) c u).pcm.tcs = s.pcm.tcs :=
          admitFill_tcs.trans (listed ▸ rfl)
        have out : (admitFill j (s.reservation j).estimate ((s.reservation j).category.getD .s) c u).pcm.waitList = rest :=
          admit_waitList.trans (listed ▸ rfl)
        obtain ⟨f, r, w, p⟩ := ih (s := fpsAdmitted j c s.pcm.band (admitFill j (s.reservation j).estimate
            ((s.reservation j).category.getD .s) c u)) (by
          rw [fpsAdmitted_pcm, out]
          exact fun m => o (List.mem_cons_of_mem _ m))
        exact ⟨framed.trans f, r.trans res, w, p.trans (by rw [fpsAdmitted_pcm, tcs])⟩

/-- With nothing outstanding no fill has a reservation outstanding (R30). -/
theorem outstanding_zero (h : s.outstandingSum = 0) : (s.reservation i).outstanding = 0 := by
  have member : (s.reservation i).outstanding ∈ s.pcm.records.toList.map (·.outstanding) :=
    List.mem_map.mpr ⟨_, Vector.mem_toList_iff.mpr (Vector.getElem_mem i.isLt), rfl⟩
  exact List.sum_eq_zero_iff.mp h _ member

/-- An admission that forces the chiller leaves a running one running (R81). -/
theorem admitFill_running (h : s.pcm.chiller = .running) : (admitFill j e cat cl s).pcm.chiller = .running := by
  unfold admitFill
  dsimp only
  split
  · next forced =>
    rw [evalChiller_eq]
    refine chillerNext_goesOn h fun ⟨_, ⟨nothing, _⟩⟩ => ?_
    have mine := outstanding_zero (i := j) nothing
    rw [modReservation_reservation_self] at mine
    exact forced.1.ne' mine
  · exact h

theorem evalHeads_running (h : s.pcm.chiller = .running) : (evalHeads n s).pcm.chiller = .running := by
  induction n generalizing s with
  | zero => exact h
  | succ n ih =>
    unfold evalHeads
    split
    · exact h
    · dsimp only
      split
      · exact h
      · refine ih ?_
        rw [fpsAdmitted_pcm]
        exact admitFill_running h

/-! ### The cold store's temperature (R78, R80, R81, R92) -/

/-- The store stands at `n`, GOOD or HELD. -/
def State.stored (s : State) (n : Nat) (good : Bool) : State := { s with pcm := { s.pcm with tcs := n, tcsGood := good } }

theorem exec_coldStore (box : s.csInbox = []) (h : s.Delivers ch .coldStoreT c n x) : exec c s =
    .next (evalHead (evalChiller (({ s with chans := upd s.chans ch x } : State).stored n true))) := by
  refine exec_settled (exec_delivers h nofun) ?_
  exact (evalHeads_csInbox.trans evalChiller_csInbox).trans box

theorem exec_coldStoreHeld (box : s.csInbox = []) (h : s.FallsHeld ch .coldStoreT c x) : exec c s =
    .next (evalChiller ((s.fallen ch x).stored x.value false)) :=
  exec_settled (exec_falls h nofun) (evalChiller_csInbox.trans box)

/-- Nobody waits, or the head does not fit. -/
theorem evalHead_evalChiller_stays (h : s.pcm.waitList = [] ∨ ∃ j rest, s.pcm.waitList = j :: rest ∧
    s.admitClass j (s.reservation j).estimate ((s.reservation j).category.getD .s) = none) :
    evalHead (evalChiller s) = s.chilled s.chillerNext := by
  rw [evalChiller_eq]
  rcases h with h | ⟨j, rest, list, full⟩
  · exact evalHead_empty h
  · exact evalHead_full list ((admitClass_chilled chillerNext_service).trans full)

/-- The head fits, and no later one touches its admission. -/
theorem evalHead_evalChiller_admits {rest : List FpId} (w : s.WaitOk) (list : s.pcm.waitList = j :: rest)
    (fits : s.admitClass j (s.reservation j).estimate ((s.reservation j).category.getD .s) = some cl) :
    let t := evalHead (evalChiller s)
    t.pcm.tcs = s.pcm.tcs ∧ (t.reservation j).state = .admitted ∧ (t.reservation j).cls = some cl ∧ j ∉ t.pcm.waitList ∧
      (t.fp j).admClass = some cl := by
  intro t
  have out : j ∉ rest := by
    have once := w.once
    rw [list] at once
    exact (List.nodup_cons.mp once).1
  have e : t = _ := evalHead_fits (s := evalChiller s) (evalChiller_waitList.trans list) (cl := cl) (by
    rw [evalChiller_reservation, evalChiller_eq]
    exact (admitClass_chilled chillerNext_service).trans fits)
  have tcs := evalChiller_tcs (s := s)
  generalize evalChiller s = u at *
  generalize listed : modPcm (fun p => { p with waitList := rest }) u = v at *
  have band : u.pcm.band = v.pcm.band := by rw [← listed]; rfl
  rw [band] at e
  have adm := admits_admitted (i := j) (e := (u.reservation j).estimate) (c := (u.reservation j).category.getD .s) (cl := cl)
    (s := v)
  have list' : (fpsAdmitted j cl v.pcm.band (admitFill j (u.reservation j).estimate ((u.reservation j).category.getD .s) cl
      v)).pcm.waitList = rest := by
    rw [fpsAdmitted_pcm, admit_waitList, ← listed]
    rfl
  have tcs' : (fpsAdmitted j cl v.pcm.band (admitFill j (u.reservation j).estimate ((u.reservation j).category.getD .s) cl
      v)).pcm.tcs = s.pcm.tcs := by
    rw [fpsAdmitted_pcm, admitFill_tcs, ← tcs, ← listed]
    rfl
  generalize fpsAdmitted j cl v.pcm.band (admitFill j (u.reservation j).estimate ((u.reservation j).category.getD .s) cl v) = a at *
  obtain ⟨framed, record, stays, kept⟩ := evalHeads_passes (i := j) (n := rest.length) (s := a) (by rw [list']; exact out)
  rw [← e] at framed record stays kept
  have cls := (congrArg Fps.admClass framed.fp).trans (congrArg Fps.admClass adm.context)
  rw [adm.record] at record
  exact ⟨kept.trans tcs', by rw [record]; rfl, by rw [record]; rfl, stays, cls⟩

/-! ### CHILLER_COMMAND (R82, R83) -/

/-- The chiller comes to IDLE and is evaluated, with the head of the wait list. -/
def chillerStarts (s : State) : State := evalHead (evalChiller (setChiller .idle s))

theorem chillerStarts_runs : Runs false s (chillerStarts s) :=
  Runs.evalHead (Runs.evalChiller (Runs.setChiller (Runs.refl s)))

theorem chillerStarts_posts (h : s.pcm.chiller ≠ .idle) : (chillerStarts s).sli.summary.getLsbD 9 = true := by
  have posted : (setChiller .idle s).sli.summary.getLsbD 9 = true := by
    rw [setChiller_eq, State.chilled, if_neg (Ne.symm h)]
    simp
  exact (Runs.evalHead (w := false) (Runs.evalChiller (Runs.refl _))).posts _ posted

theorem chillerStarts_running (a : s.active) (c : s.coldAsked) : (chillerStarts s).pcm.chiller = .running := by
  refine evalHeads_running ?_
  rw [evalChiller_eq, setChiller_eq]
  exact chillerNext_starts (s := s.chilled .idle) rfl a c

theorem chillerStarts_alone (w : s.pcm.waitList = []) :
    (chillerStarts s).pcm = { s.pcm with chiller := (chillerStarts s).pcm.chiller } := by
  have e : chillerStarts s = (s.chilled .idle).chilled (s.chilled .idle).chillerNext := by
    unfold chillerStarts
    rw [setChiller_eq]
    exact evalHead_evalChiller_stays (.inl w)
  rw [e]
  rfl

theorem chillerStarts_idle (w : s.pcm.waitList = []) (no : ¬ (s.active ∧ s.coldAsked)) :
    (chillerStarts s).pcm.chiller = .idle := by
  unfold chillerStarts
  rw [setChiller_eq, evalHead_evalChiller_stays (s := s.chilled .idle) (.inl w)]
  exact chillerNext_rests (s := s.chilled .idle) rfl no

theorem ownChillerEnable_starts (d : s.pcm.chiller = .disabled) (l : s.pcm.loaded = true) :
    ownChillerEnable s = accept (chillerStarts s) := by simp [ownChillerEnable, d, l, chillerStarts]
theorem ownChillerEnable_unloaded (d : s.pcm.chiller = .disabled) (l : s.pcm.loaded = false) :
    ownChillerEnable s = refuse s .notConfigured := by simp [ownChillerEnable, d, l]
theorem ownChillerEnable_other (d : s.pcm.chiller ≠ .disabled) : ownChillerEnable s = refuse s .badState := by
  unfold ownChillerEnable
  split
  · next e => exact absurd e d
  all_goals rfl

theorem ownChillerDisable_ends (d : s.pcm.chiller = .idle ∨ s.pcm.chiller = .tripped ∨
    (s.pcm.chiller = .running ∧ s.outstandingSum = 0)) : ownChillerDisable s = accept (s.chilled .disabled) := by
  rw [← setChiller_eq]
  rcases d with d | d | ⟨d, o⟩ <;> simp [ownChillerDisable, d]
  exact fun n => absurd o n
theorem ownChillerDisable_refuses (d : s.pcm.chiller = .disabled ∨ (s.pcm.chiller = .running ∧ s.outstandingSum ≠ 0)) :
    ownChillerDisable s = refuse s .badState := by
  rcases d with d | ⟨d, o⟩ <;> simp [ownChillerDisable, d]
  exact fun n => absurd n o

theorem ownChillerClearTrip_starts (d : s.pcm.chiller = .tripped) (l : s.inputAsserted .chillerTrip = false) :
    ownChillerClearTrip s = accept (chillerStarts s) := by simp [ownChillerClearTrip, d, l, chillerStarts]
theorem ownChillerClearTrip_refuses (d : s.pcm.chiller ≠ .tripped ∨ s.inputAsserted .chillerTrip = true) :
    ownChillerClearTrip s = refuse s .badState := by
  unfold ownChillerClearTrip
  split
  · next e => rw [if_pos (d.resolve_left (· e))]
  all_goals rfl

/-- Settles O43. -/
theorem chillerCommands : Obligations.ChillerCommands := by
  unfold Obligations.ChillerCommands
  intro s p runs started active stands
  have starting {i : Instr} (a : Answers i s (.accepted []) (chillerStarts s)) (n : p.chiller ≠ .idle) : started i :=
    ⟨_, a, chillerStarts_runs.fixed, chillerStarts_runs.banks rfl, chillerStarts_posts n,
      fun ⟨on, asked⟩ => chillerStarts_running on asked, fun w => ⟨chillerStarts_alone w, fun no => chillerStarts_idle w no⟩⟩
  refine ⟨?_, ?_, fun d l => starting (answers_of rfl (ownChillerEnable_starts d l)) (fun e => nomatch d.symm.trans e),
    fun d l => refuses_of rfl (ownChillerEnable_unloaded d l), fun d => refuses_of rfl (ownChillerEnable_other d),
    fun d => ?_, fun d => refuses_of rfl (ownChillerDisable_refuses d),
    fun d l => starting (answers_of rfl (ownChillerClearTrip_starts d l)) (fun e => nomatch d.symm.trans e),
    fun d => refuses_of rfl (ownChillerClearTrip_refuses d)⟩
  · intro ch i v x box del s1 starts stops fits
    have e : exec i s = .next (evalHead (evalChiller s1)) := exec_coldStore box del
    refine ⟨fun full => ?_, fun j rest cl list fit w => ?_⟩
    · have stays := e.trans (congrArg _ (evalHead_evalChiller_stays (s := s1) full))
      refine ⟨fun ⟨idle, on, asked⟩ => ?_, fun ⟨run, on, nothing, cold⟩ => ?_, fun noStart noStop => ?_⟩
      · rw [chillerNext_starts (s := s1) idle on (asked.imp_right .inr)] at stays
        exact stays
      · rw [chillerNext_stops (s := s1) run on ⟨nothing, rfl, cold⟩] at stays
        exact stays
      · have same : s1.chillerNext = s1.pcm.chiller := by
          cases h : s1.pcm.chiller with
          | idle =>
            refine chillerNext_rests h fun ⟨on, asked⟩ => noStart ⟨h, on, asked.imp_right fun a => a.resolve_left nofun⟩
          | running => exact chillerNext_goesOn h fun ⟨on, nothing, _, cold⟩ => noStop ⟨h, on, nothing, cold⟩
          | disabled => exact (chillerNext_out (.inl h)).trans h
          | tripped => exact (chillerNext_out (.inr h)).trans h
        rw [same, chilled_self] at stays
        exact stays
    · exact ⟨_, e, evalHead_evalChiller_admits (s := s1) ⟨w.once, w.members⟩ list fit⟩
  · intro ch i x box fall s1
    have e : exec i s = .next (evalChiller s1) := exec_coldStoreHeld box fall
    rw [evalChiller_eq] at e
    refine ⟨fun idle on => ?_, fun no => ?_⟩
    · rw [chillerNext_starts (s := s1) idle on (.inr (.inl rfl))] at e
      exact e
    · have same : s1.chillerNext = s1.pcm.chiller := by
        cases h : s1.pcm.chiller with
        | idle => exact chillerNext_rests h fun ⟨on, _⟩ => no.elim (· h) (· on)
        | running => exact chillerNext_goesOn h fun ⟨_, _, good, _⟩ => nomatch good
        | disabled => exact (chillerNext_out (.inl h)).trans h
        | tripped => exact (chillerNext_out (.inr h)).trans h
      rw [same, chilled_self] at e
      exact e
  · have new : Chiller.disabled ≠ s.pcm.chiller := by
      rcases d with d | d | ⟨d, -⟩ <;> exact fun e => nomatch e.trans d
    have own := answers_of (c := .chillerDisable) rfl (ownChillerDisable_ends d)
    rw [State.chilled, if_neg new] at own
    exact own

end Sys2Proof.Machine
end

section
/-!
PROOFS. The banks: deliveries, HELD quantities, the protection trip and the clearing of a fault (chapter 3, O41).
-/
namespace Sys2Proof.Machine

variable {i j : FpId} {k : CompId} {s t u v : State} {b c : BankId} {q : Prop} {r : Requester} {n : Nat}

/-! ### A bank that is usable for nobody stays free (R40, R51, R54) -/

/-- Bank `b` is usable for nobody and free; where `q` holds, its set is empty too. -/
structure Barred (q : Prop) (b : BankId) (s : State) : Prop where
  unusable : ∀ r, (s.bank b).usableFor r = false
  free : s.holderOf b = none
  empty : q → s.stackedAt b = []

theorem Barred.same (h : Barred q b s) (bk : t.banks = s.banks := by rfl) (ho : t.holder = s.holder := by rfl)
    (st : t.stacked = s.stacked := by rfl) : Barred q b t :=
  ⟨by rw [State.bank, bk]; exact h.unusable, by rw [State.holderOf, ho]; exact h.free,
    by rw [State.stackedAt, st]; exact h.empty⟩

/-- Whatever moves other banks alone. -/
theorem Barred.others (h : Barred q b s) (bk : t.banks = s.banks) (o : t.holderOf b = s.holderOf b ∧ t.stackedAt b = s.stackedAt b) :
    Barred q b t :=
  ⟨by rw [State.bank, bk]; exact h.unusable, o.1.trans h.free, fun a => o.2.trans (h.empty a)⟩

@[simp] theorem Barred.ite {p : Prop} [Decidable p] (h : Barred q b s) (g : Barred q b t) : Barred q b (if p then s else t) := by
  split <;> assumption

/-! The parts that no arbiter record holds. -/

@[simp] theorem Barred.modFp {f} (h : Barred q b s) : Barred q b (modFp i f s) := h.same
@[simp] theorem Barred.modComp {f} (h : Barred q b s) : Barred q b (modComp k f s) := h.same
@[simp] theorem Barred.modMeter {f} (h : Barred q b s) : Barred q b (modMeter i f s) := h.same
@[simp] theorem Barred.modLink {f} (h : Barred q b s) : Barred q b (modLink i f s) := h.same
@[simp] theorem Barred.modTxn {f} (h : Barred q b s) : Barred q b (modTxn i f s) := h.same
@[simp] theorem Barred.inbox {l} (h : Barred q b s) : Barred q b { s with csInbox := l } := h.same
@[simp] theorem Barred.order (h : Barred q b s) : Barred q b { s with orderCount := n } := h.same
@[simp] theorem Barred.post (h : Barred q b s) : Barred q b (post n s) := h.same
@[simp] theorem Barred.postIf {p} (h : Barred q b s) : Barred q b (postIf p n s) := by
  unfold Machine.postIf; simp (maxDischargeDepth := 20) [h]
@[simp] theorem Barred.setRefill {l} (h : Barred q b s) : Barred q b (setRefill l s) := by
  obtain ⟨box, e⟩ := setRefill_rest (s := s) l
  rw [e]
  exact h.same
@[simp] theorem Barred.setFill {f} (h : Barred q b s) : Barred q b (setFill i f s) := by
  unfold Machine.setFill; simp (maxDischargeDepth := 20) [h]
@[simp] theorem Barred.setCompState {f} (h : Barred q b s) : Barred q b (setCompState k f s) := by
  unfold Machine.setCompState; simp (maxDischargeDepth := 20) [h]
@[simp] theorem Barred.rederive (h : Barred q b s) : Barred q b (rederive i s) := by
  unfold Machine.rederive setSub; simp (maxDischargeDepth := 20) [h]
@[simp] theorem Barred.openDraw (h : Barred q b s) : Barred q b (openDraw i c s) := h.modTxn
@[simp] theorem Barred.closeDraw (h : Barred q b s) : Barred q b (closeDraw i s) := h.modTxn
@[simp] theorem Barred.takeReason {why} (h : Barred q b s) : Barred q b (takeReason i why s) := by
  unfold Machine.takeReason; simp (maxDischargeDepth := 20) [h]
@[simp] theorem Barred.endLink (h : Barred q b s) : Barred q b (endLink i s) := h.modLink
@[simp] theorem Barred.fpsTake (h : Barred q b s) : Barred q b (fpsTake i c s) := by
  have granted : Barred q b (Machine.openDraw i c (Machine.modFp i (fun f => { f with link := .granted, bankWait := none }) s)) :=
    h.modFp.openDraw
  unfold Machine.fpsTake; dsimp only
  split
  · exact granted.ite granted.modFp
  · exact granted.rederive
  all_goals exact granted

/-! The arbiter: the bank is asked for in vain, and no competition is held for it. -/

@[simp] theorem Barred.requestBank (h : Barred q b s) : Barred q b (requestBank r c s).1 := by
  unfold Machine.requestBank
  split
  · exact h
  · next ok =>
    have n : c ≠ b := fun e => ok (by subst e; simp [h.unusable r])
    split
    · exact h.others rfl ⟨setHolder_holderOf_ne _ _ _ _ n, rfl⟩
    · exact h.others rfl ⟨rfl, setStacked_stackedAt_ne _ _ _ _ n⟩

@[simp] theorem Barred.releaseBank (h : Barred q b s) : Barred q b (releaseBank r c s) := by
  unfold Machine.releaseBank
  split
  · next held =>
    have n : b ≠ c := fun e => by
      subst e
      rw [h.free] at held
      cases held
    have freed : Barred q b (setHolder c none s) := h.others rfl ⟨setHolder_holderOf_ne _ _ _ _ n.symm, rfl⟩
    have run : Runs false (setHolder c none s) (compete c (setHolder c none s)) := (Runs.refl _).compete
    refine freed.others (run.banks rfl) ?_
    unfold compete
    rw [setHolder_holderOf_self]
    exact competeFor_other n
  · exact h

@[simp] theorem Barred.withdrawBank (h : Barred q b s) : Barred q b (withdrawBank r c s) := by
  refine ⟨h.unusable, h.free, fun a => ?_⟩
  rw [Machine.withdrawBank, setStacked_stackedAt]
  split
  · next e => rw [e, h.empty a]; rfl
  · exact h.empty a

@[simp] theorem Barred.letGo (h : Barred q b s) : Barred q b (letGo r c s) := h.releaseBank.withdrawBank

/-! The fuelling points. -/

@[simp] theorem Barred.closeFill {why} (h : Barred q b s) : Barred q b (closeFill i why s) := by
  unfold Machine.closeFill stopFill letGoOfBank
  split <;> simp (maxDischargeDepth := 20) [h]

@[simp] theorem Barred.tryBanks {l : List BankId} {why} (h : Barred q b s) : Barred q b (tryBanks i l why s) := by
  induction l generalizing s why with
  | nil => exact h.closeFill
  | cons c l ih =>
    unfold Machine.tryBanks
    dsimp only
    split
    · have asked : Barred q b (Machine.requestBank (fpReq i) c (Machine.modFp i (fun f => { f with cascadePos := some c }) s)).1 :=
        h.modFp.requestBank
      split
      · exact asked.fpsTake
      · simp (maxDischargeDepth := 20) [asked]
      · exact ih asked
    · exact ih h

@[simp] theorem Barred.tryAfter {why} (h : Barred q b s) : Barred q b (tryAfter i why s) := by
  unfold Machine.tryAfter
  split <;> exact h.tryBanks

@[simp] theorem Barred.fpsWithdrawn (h : Barred q b s) : Barred q b (fpsWithdrawn i c s) := by
  unfold Machine.fpsWithdrawn unlink
  simp (maxDischargeDepth := 20) [h]

@[simp] theorem Barred.fpsRejected (h : Barred q b s) : Barred q b (fpsRejected i c s) := by
  unfold Machine.fpsRejected unlink
  simp (maxDischargeDepth := 20) [h]

/-! The compressors. -/

@[simp] theorem Barred.setTarget {p} (h : Barred q b s) : Barred q b (setTarget k p s) := by
  unfold Machine.setTarget; dsimp only
  split
  · exact h
  · exact h.same
@[simp] theorem Barred.evalNeed (h : Barred q b s) : Barred q b (evalNeed k s) := by
  unfold Machine.evalNeed enterStarting
  split <;> simp (maxDischargeDepth := 20) [h]
@[simp] theorem Barred.enterStopping (h : Barred q b s) : Barred q b (enterStopping k s) := by
  unfold Machine.enterStopping letGoOfTarget
  split <;> simp (maxDischargeDepth := 20) [h]
@[simp] theorem Barred.becomeIdle (h : Barred q b s) : Barred q b (becomeIdle k s) := by
  unfold Machine.becomeIdle; simp (maxDischargeDepth := 20) [h]
@[simp] theorem Barred.requestTarget (h : Barred q b s) : Barred q b (requestTarget n k c s) := by
  induction n generalizing s c with
  | zero => exact h.becomeIdle
  | succ n ih =>
    unfold Machine.requestTarget; dsimp only
    have asked : Barred q b (Machine.requestBank (csReq k) c s).1 := h.requestBank
    split
    · exact asked.setCompState
    · exact asked.modComp
    · split
      · exact ih asked.setTarget
      · exact asked.becomeIdle
@[simp] theorem Barred.seek {e} (h : Barred q b s) : Barred q b (seek k e s) := by
  unfold Machine.seek
  split <;> simp (maxDischargeDepth := 20) [h]
@[simp] theorem Barred.csWithdrawn (h : Barred q b s) : Barred q b (csWithdrawn k c s) := by
  unfold Machine.csWithdrawn; simp (maxDischargeDepth := 20) [h]
@[simp] theorem Barred.csRejected (h : Barred q b s) : Barred q b (csRejected k c s) := by
  unfold Machine.csRejected; simp (maxDischargeDepth := 20) [h]
theorem Barred.csNotice (h : Barred q b s) : Barred q b (csNotice k s) := by
  unfold Machine.csNotice recheckStarting recheckRecirc seekIdle
  split <;> (try split) <;> (try split) <;> simp (maxDischargeDepth := 20) [h]
theorem Barred.settle (h : Barred q b s) : Barred q b (settle s) :=
  settle_induct (fun _ _ => Barred.inbox) (fun _ _ => Barred.order) (fun _ _ => Barred.csNotice) h

/-! ### A bank is forced off (R54) -/

theorem Barred.tellWithdrawn (h : Barred q b s) : Barred q b (tellWithdrawn r c s) := by
  unfold Machine.tellWithdrawn
  split
  · exact h.fpsWithdrawn
  · exact h.csWithdrawn

theorem Barred.tellRejected (h : Barred q b s) : Barred q b (tellRejected c r s) := by
  unfold Machine.tellRejected
  split
  · exact h.fpsRejected
  · exact h.csRejected

theorem withdrawGrant_bars (h : ∀ r, (s.bank b).usableFor r = false) : Barred False b (withdrawGrant b s) := by
  unfold withdrawGrant
  split
  · exact Barred.tellWithdrawn ⟨h, setHolder_holderOf_self .., nofun⟩
  · next free => exact ⟨h, free, nofun⟩

/-- All are turned out, and nobody competes for the bank. -/
theorem forceOff_bars (h : ∀ r, (s.bank b).usableFor r = false) : Barred True b (forceOff b true (fun _ => true) s) := by
  have out := withdrawGrant_bars h
  unfold forceOff
  rw [if_pos rfl]
  generalize withdrawGrant b s = u at out
  have told : Barred True b (rejectStacked b (fun _ => true) u) := by
    refine inAnyOrder_keeps (P := Barred True b) (fun _ _ => Barred.order) (fun f m w bar => ?_) ?_
    · obtain ⟨r, -, rfl⟩ := List.mem_map.mp m
      exact bar.tellRejected
    · exact ⟨out.unusable, out.free, fun _ => by simp⟩
  generalize rejectStacked b (fun _ => true) u = w at told
  unfold compete
  rw [told.free, told.empty trivial]
  exact told

/-! ### What leaves the refill list as it is -/

section Spares
variable {p : Bool} {P : FpId → Prop} {s0 : State} {why : Reason}

theorem Spares.tryAfter (h : Spares p P s0 s) (n : ¬ P j) : Spares p P s0 (tryAfter j why s) := by
  unfold Machine.tryAfter
  split <;> exact h.tryBanks n

theorem Spares.unlink (h : Spares p P s0 s) (n : ¬ P j) : Spares p P s0 (unlink j s) := h.modFp n fun _ => ⟨rfl, rfl⟩

theorem Spares.fpsWithdrawn (h : Spares p P s0 s) (n : ¬ P j) : Spares p P s0 (fpsWithdrawn j b s) := by
  refine Spares.ite (Spares.tryAfter ?_ n) h
  exact Spares.modFp ((h.closeDraw n).unlink n) n fun _ => ⟨rfl, rfl⟩

theorem Spares.fpsRejected (h : Spares p P s0 s) (n : ¬ P j) : Spares p P s0 (fpsRejected j b s) :=
  Spares.ite ((h.unlink n).tryAfter n) h

theorem Spares.cascadeStep (h : Spares p P s0 s) (n : ¬ P j) : Spares p P s0 (cascadeStep j s) := by
  unfold Machine.cascadeStep
  split
  · exact (((h.closeDraw n).unlink n).letGo).tryAfter n
  · exact h.tryAfter n

theorem Spares.stepTests {w : Bool} (h : Spares p P s0 s) (n : ¬ P j) : Spares p P s0 (stepTests j s w) := by
  unfold Machine.stepTests
  dsimp only
  split
  · exact Spares.ite (h.cascadeStep n) h
  · exact h

end Spares

/-- Nothing is asked of any fuelling point. -/
theorem sparesNone (s : State) : Spares false (fun _ => False) s s := .refl nofun

theorem tellWithdrawn_refill : (tellWithdrawn r b s).refill = s.refill := by
  unfold tellWithdrawn
  split
  · exact ((sparesNone s).fpsWithdrawn id).refill
  · exact (sparesNone s).csWithdrawn.refill

theorem tellRejected_refill : (tellRejected b r s).refill = s.refill := by
  unfold tellRejected
  split
  · exact ((sparesNone s).fpsRejected id).refill
  · exact (sparesNone s).csRejected.refill

theorem withdrawGrant_refill : (withdrawGrant b s).refill = s.refill := by
  unfold withdrawGrant
  split
  · exact tellWithdrawn_refill
  · rfl

theorem rejectStacked_refill {f : Requester → Bool} : (rejectStacked b f s).refill = s.refill := by
  refine inAnyOrder_keeps (P := fun u => u.refill = s.refill) (fun _ _ e => e) (fun g m u e => ?_) rfl
  obtain ⟨r, -, rfl⟩ := List.mem_map.mp m
  exact tellRejected_refill.trans e

theorem compete_refill : (compete b s).refill = s.refill := (sparesNone s).compete.refill

theorem forceOff_refill {w : Bool} {f : Requester → Bool} : (forceOff b w f s).refill = s.refill := by
  unfold forceOff
  rw [compete_refill, rejectStacked_refill]
  split
  · exact withdrawGrant_refill
  · rfl

theorem settle_refill : (settle s).refill = s.refill := (sparesNone s).settle.refill

theorem passSample_refill : (passSample b s).refill = s.refill := by
  unfold passSample
  split
  · split
    · unfold fpsBankSample
      split
      · exact ((sparesNone s).stepTests id).refill
      · rfl
    · unfold csBankSample
      split
      · exact (sparesNone s).endFilling.refill
      · rfl
  · rfl

/-- An evaluation puts the bank at its place on the list, or takes it off (R46). -/
theorem refillEval_refill : (refillEval b s).refill =
    if s.refillStays b then s.refillInsert b (s.refill.erase b) else s.refill.erase b := by
  unfold refillEval
  dsimp only
  split
  · exact setRefill_refill _
  · split
    · split
      · exact (sparesNone _).refillOff.refill.trans (setRefill_refill _)
      · exact setRefill_refill _
    · exact setRefill_refill _

theorem refillEval_lists : (s.refillStays b = true → b ∈ (refillEval b s).refill ∧
      ∀ d, d ≠ b → (d ∈ (refillEval b s).refill ↔ d ∈ s.refill)) ∧
    (s.refillStays b ≠ true → (refillEval b s).refill = s.refill.erase b) := by
  rw [refillEval_refill]
  refine ⟨fun h => ?_, fun h => if_neg h⟩
  rw [if_pos h]
  refine ⟨mem_refillInsert.mpr (.inl rfl), fun d n => ?_⟩
  rw [mem_refillInsert]
  exact ⟨fun m => List.mem_of_mem_erase (m.resolve_left n), fun m => .inr ((List.mem_erase_of_ne n).mpr m)⟩

/-! ### A delivery of a bank's pressure (R38, R39, R43) -/

/-- Bank `b` is held by a compressor. -/
theorem fillingCs_isSome : (s.fillingCs b).isSome = true ↔ ∃ k : CompId, s.holderOf b = some (csReq k) := by
  unfold State.fillingCs
  constructor
  · intro h
    split at h
    · next r held =>
      split at h
      · next k unit => exact ⟨k, held.trans (congrArg some (csReq_reqUnit unit))⟩
      · cases h
    · cases h
  · rintro ⟨k, held⟩
    rw [held]
    simp [reqUnit_csReq]

/-- The record of a bank whose protection has tripped. -/
def Bank.tripped (k : Bank) : Bank := { k with protect := true, reload := false }

/-- What a delivery can leave of bank `b`, which takes record `k`: no other bank moves; a trip is posted and keeps the bank off
the refill list. -/
structure Rebanked (b : BankId) (k : Bank) (trip : Prop) (s t : State) : Prop where
  banks : t.banks = upd s.banks b k
  posted : trip → t.sli.summary.getLsbD 6 = true
  unlisted : trip → s.refill.Nodup → b ∉ t.refill

theorem protectionTrip_rebanks : Rebanked b (s.bank b).tripped True s (protectionTrip b s) := by
  unfold protectionTrip
  generalize e : post flagBank (modBank b (fun k => { k with protect := true, reload := false }) s) = u
  have posted : u.sli.summary.getLsbD 6 = true := by
    rw [← e, post_sli]
    simp [flagBank]
  have ran : Runs false u (compete b (rejectStacked b isCs (setRefill ((withdrawGrant b u).refill.erase b) (withdrawGrant b u)))) :=
    Runs.compete (Runs.rejectStacked (Runs.setRefill (Runs.withdrawGrant (Runs.refl u))))
  refine ⟨(ran.banks rfl).trans (by rw [← e]; rfl), fun _ => ran.posts _ posted, fun _ d => ?_⟩
  dsimp only
  rw [compete_refill, rejectStacked_refill, setRefill_refill, withdrawGrant_refill, ← e]
  exact fun m => (List.Nodup.mem_erase_iff d).mp m |>.1 rfl

/-- A bank with a tripped protection is not for filling (R40). -/
theorem tripped_unusable (h : (s.bank b).protect = true) : s.refillStays b = false := by
  have fault : (s.bank b).fault ≠ .ok := by
    unfold Bank.fault
    rw [if_pos h]
    split <;> nofun
  refine Bool.eq_false_iff.mpr fun stays => ?_
  obtain ⟨usable, -⟩ := refillStays_iff.mp stays
  simp [Bank.usableFill, fault] at usable

theorem bankPressureSample_eq (b : BankId) (n : Nat) (s : State) :
    let u := s.rebanked b (s.recomputed { s.bank b with pressure := n, pressureGood := true })
    bankPressureSample b n s = passSample b (refillEval b
      (if (u.fillingCs b).isSome = true ∧ (s.bank b).entry.rated ≤ n then protectionTrip b u else u)) := by
  intro u
  unfold bankPressureSample
  rw [afterDelivery_eq]
  have entry : (u.bank b).entry = (s.bank b).entry := by
    rw [rebanked_bank, recomputed_entry]
  simp only [Bool.and_eq_true, decide_eq_true_eq]
  show passSample b (refillEval b (if (u.fillingCs b).isSome = true ∧ (u.bank b).entry.rated ≤ n then _ else _)) = _
  rw [entry]

/-- Whatever comes after a trip keeps its marks and does not list the bank. -/
theorem Rebanked.after {k : Bank} {trip : Prop} (h : Rebanked b k trip s u) (p : trip → k.protect = true) :
    Rebanked b k trip s (settle (passSample b (refillEval b u))) := by
  have ran : Runs false u (settle (passSample b (refillEval b u))) := Runs.settle (Runs.passSample (Runs.refillEval (Runs.refl u)))
  refine ⟨(ran.banks rfl).trans h.banks, fun t => ran.posts _ (h.posted t), fun t d => ?_⟩
  have protect : (u.bank b).protect = true := by
    rw [State.bank, h.banks, sel_upd_self]
    exact p t
  rw [settle_refill, passSample_refill, refillEval_refill, if_neg (by rw [tripped_unusable protect]; nofun)]
  exact fun m => h.unlisted t d (List.mem_of_mem_erase m)

theorem upd_banks_bank {k : Bank} (h : t.banks = upd s.banks b k) : t.bank b = k ∧ ∀ c, c ≠ b → t.bank c = s.bank c :=
  ⟨by rw [State.bank, h, sel_upd_self], fun c n => by rw [State.bank, h, sel_upd_ne _ _ _ _ n.symm]; rfl⟩

/-- A pressure delivery, without and with a trip. -/
theorem bankPressureSample_rebanks (b : BankId) (n : Nat) (s : State) :
    let k' := s.recomputed { s.bank b with pressure := n, pressureGood := true }
    let trip := (∃ c : CompId, s.holderOf b = some (csReq c)) ∧ (s.bank b).entry.rated ≤ n
    (trip → Rebanked b k'.tripped True s (settle (bankPressureSample b n s))) ∧
      (¬ trip → Rebanked b k' False s (settle (bankPressureSample b n s))) := by
  intro k' trip
  rw [bankPressureSample_eq]
  dsimp only
  have holder : ((s.rebanked b k').fillingCs b).isSome = true ↔ ∃ c : CompId, s.holderOf b = some (csReq c) := fillingCs_isSome
  refine ⟨fun tr => ?_, fun no => ?_⟩
  · rw [if_pos ⟨holder.mpr tr.1, tr.2⟩]
    have tripped := protectionTrip_rebanks (b := b) (s := s.rebanked b k')
    rw [rebanked_bank] at tripped
    refine Rebanked.after ⟨tripped.banks.trans (upd_upd ..), tripped.posted, tripped.unlisted⟩ fun _ => rfl
  · rw [if_neg fun tr => no ⟨holder.mp tr.1, tr.2⟩]
    exact Rebanked.after ⟨rfl, False.elim, False.elim⟩ False.elim

/-- The record of a bank at a pressure delivery. -/
theorem recomputed_good {k : Bank} (p : k.pressureGood = true) (g : k.temperatureGood = true) : s.recomputed k =
    { k with inventory := massOf (s.lookup k.pressure k.temperature).density k.entry.volume
             indication := (s.lookup k.pressure k.temperature).indication } := if_pos ⟨p, g⟩
theorem recomputed_held {k : Bank} (h : k.pressureGood = false ∨ k.temperatureGood = false) : s.recomputed k = k := by
  refine if_neg fun ⟨p, g⟩ => ?_
  rcases h with h | h
  · exact nomatch h.symm.trans p
  · exact nomatch h.symm.trans g

/-! ### A delivery of its temperature (R38, R41, R42, R46) -/

/-- SENSOR stands on a valid bank with a HELD quantity (R41). -/
theorem fault_sensor {k : Bank} :
    k.fault = .sensor ↔ k.entry.valid = true ∧ (k.pressureGood = false ∨ k.temperatureGood = false) := by
  unfold Bank.fault
  cases k.entry.valid <;> cases k.pressureGood <;> cases k.temperatureGood <;> cases k.protect <;> simp

theorem usableFill_iff {k : Bank} : k.usableFill = true ↔ k.entry.valid = true ∧ k.entry.fillPermit = true ∧
    k.pressureGood = true ∧ k.temperatureGood = true ∧ k.protect = false := by
  unfold Bank.usableFill Bank.fault
  cases k.entry.valid <;> cases k.pressureGood <;> cases k.temperatureGood <;> cases k.protect <;> simp

theorem bankTemperatureSample_eq (b : BankId) (n : Nat) (s : State) :
    let k := { s.bank b with temperature := n, temperatureGood := true }
    bankTemperatureSample b n s =
      if (s.bank b).fault = .sensor ∧ k.fault ≠ .sensor then refillEval b (s.rebanked b (s.recomputed k))
      else s.rebanked b (s.recomputed k) := by
  intro k
  unfold bankTemperatureSample
  dsimp only
  rw [afterDelivery_eq, modBank_bank_self]

/-- A change of the fault is posted. -/
theorem rebanked_posts {k : Bank} (n : (s.bank b).fault ≠ k.fault) : (s.rebanked b k).sli.summary.getLsbD 6 = true := by
  unfold State.rebanked
  rw [if_neg n]
  simp
theorem rebanked_same {k : Bank} (h : (s.bank b).fault = k.fault) : s.rebanked b k = { s with banks := upd s.banks b k } := by
  unfold State.rebanked
  rw [if_pos h]
  have none : s.sli.summary ||| 0 = s.sli.summary := BitVec.or_zero
  rw [none]

/-! ### A quantity becomes HELD (R41) -/

theorem takeSensor_takes (h : (s.bank b).fault = .sensor) : Barred True b (settle (takeSensor b s)) ∧
    (s.refill.Nodup → b ∉ (settle (takeSensor b s)).refill) ∧ (settle (takeSensor b s)).sli.summary.getLsbD 6 = true := by
  have bars : Barred True b (forceOff b true (fun _ => true) s) := by
    refine forceOff_bars fun r => ?_
    unfold Bank.usableFor
    split
    · simp [Bank.usableDraw, h]
    · simp [Bank.usableFill, h]
  refine ⟨Barred.settle (bars.setRefill.post), fun d => ?_, ?_⟩
  · rw [settle_refill, takeSensor, post_refill, setRefill_refill, forceOff_refill]
    exact fun m => (List.Nodup.mem_erase_iff d).mp m |>.1 rfl
  · refine (Runs.settle (w := false) (Runs.refl _)).posts _ ?_
    rw [takeSensor, post_sli]
    simp [flagBank]

/-! ### The obligation -/

section Deliveries
variable {ch : ChanId} {x : Channel} {i : Instr}

/-- What bank `b` has after a delivery of its pressure. -/
def State.pressed (s : State) (b : BankId) (n : Nat) : Bank :=
  s.recomputed { s.bank b with pressure := n, pressureGood := true }

theorem pressed_kept : (s.pressed b n).pressure = n ∧ (s.pressed b n).pressureGood = true ∧
    (s.pressed b n).temperature = (s.bank b).temperature ∧ (s.pressed b n).protect = (s.bank b).protect ∧
    (s.pressed b n).reload = (s.bank b).reload := by
  unfold State.pressed State.recomputed
  split <;> exact ⟨rfl, rfl, rfl, rfl, rfl⟩

theorem pressed_inventory : ((s.bank b).temperatureGood = true →
      (s.pressed b n).inventory = massOf (s.lookup n (s.bank b).temperature).density (s.bank b).entry.volume ∧
        (s.pressed b n).indication = (s.lookup n (s.bank b).temperature).indication) ∧
    ((s.bank b).temperatureGood = false → (s.pressed b n).inventory = (s.bank b).inventory ∧
      (s.pressed b n).indication = (s.bank b).indication) := by
  refine ⟨fun g => ?_, fun h => ?_⟩
  · have e : s.pressed b n = _ := recomputed_good (k := { s.bank b with pressure := n, pressureGood := true }) rfl g
    rw [e]
    exact ⟨rfl, rfl⟩
  · have e : s.pressed b n = _ := recomputed_held (k := { s.bank b with pressure := n, pressureGood := true }) (.inr h)
    rw [e]
    exact ⟨rfl, rfl⟩

/-- SENSOR ends with this temperature (R42). -/
theorem temperature_clears {k : Bank} :
    k.fault = .sensor ∧ Bank.fault { k with temperature := n, temperatureGood := true } ≠ .sensor ↔
    k.entry.valid = true ∧ k.temperatureGood = false ∧ k.pressureGood = true := by
  rw [ne_eq, fault_sensor, fault_sensor]
  cases k.entry.valid <;> cases k.pressureGood <;> cases k.temperatureGood <;> simp

theorem temperature_keeps {k : Bank} (h : ¬ (k.entry.valid = true ∧ k.temperatureGood = false ∧ k.pressureGood = true)) :
    k.fault = Bank.fault { k with temperature := n, temperatureGood := true } := by
  revert h
  unfold Bank.fault
  cases k.entry.valid <;> cases k.pressureGood <;> cases k.temperatureGood <;> simp

/-- The bank as a HELD quantity leaves it. -/
theorem sensorIfNew_fresh {k' : Bank} (fresh : (s.bank b).entry.valid = true ∧ (s.bank b).pressureGood = true ∧
      (s.bank b).temperatureGood = true)
    (h : k'.entry = (s.bank b).entry) (held : k'.pressureGood = false ∨ k'.temperatureGood = false) (e : u.bank b = k') :
    sensorIfNew b s u = takeSensor b u ∧ (u.bank b).fault = .sensor := by
  obtain ⟨valid, pressure, temperature⟩ := fresh
  have sensor : (u.bank b).fault = .sensor := fault_sensor.mpr ⟨by rw [e, h]; exact valid, by rw [e]; exact held⟩
  have good : (s.bank b).fault ≠ .sensor := fun f => by simpa [pressure, temperature] using (fault_sensor.mp f).2
  exact ⟨if_pos ⟨sensor, good⟩, sensor⟩

theorem sensorIfNew_stands {k' : Bank} (stale : ¬ ((s.bank b).entry.valid = true ∧ (s.bank b).pressureGood = true ∧
      (s.bank b).temperatureGood = true)) (h : k'.entry = (s.bank b).entry) (e : u.bank b = k') : sensorIfNew b s u = u := by
  refine if_neg fun ⟨sensor, good⟩ => ?_
  obtain ⟨valid, _⟩ := fault_sensor.mp sensor
  rw [e, h] at valid
  refine stale ⟨valid, ?_, ?_⟩
  · exact Bool.not_eq_false _ |>.mp fun p => good (fault_sensor.mpr ⟨valid, .inl p⟩)
  · exact Bool.not_eq_false _ |>.mp fun p => good (fault_sensor.mpr ⟨valid, .inr p⟩)

/-- A quantity of bank `b` falls HELD: the bank takes record `k'`. -/
def HeldBank (s : State) (b : BankId) (bd : Binding) (x : Channel) (k' : Bank) : Prop :=
  (bd = .bankP b ∧ k' = { s.bank b with pressure := x.value, pressureGood := false }) ∨
    (bd = .bankT b ∧ k' = { s.bank b with temperature := x.value, temperatureGood := false })

theorem HeldBank.exec {bd : Binding} {k' : Bank} (h : HeldBank s b bd x k') (fall : s.FallsHeld ch bd i x) : exec i s =
    .next (settle (sensorIfNew b (s.fallen ch x) { s.fallen ch x with banks := upd s.banks b k' })) := by
  rcases h with ⟨rfl, rfl⟩ | ⟨rfl, rfl⟩ <;> exact exec_falls fall nofun

theorem HeldBank.fixed {bd : Binding} {k' : Bank} (h : HeldBank s b bd x k') :
    (settle (sensorIfNew b (s.fallen ch x) { s.fallen ch x with banks := upd s.banks b k' })).fixed =
      { s.fixed with chans := upd s.chans ch x } := by
  have pressure : Runs true (s.fallen ch x) (settle (bankPressureHeld b x.value (s.fallen ch x))) :=
    Runs.settle (Runs.bankPressureHeld (Runs.refl _))
  have temperature : Runs true (s.fallen ch x) (settle (bankTemperatureHeld b x.value (s.fallen ch x))) :=
    Runs.settle (Runs.bankTemperatureHeld (Runs.refl _))
  rcases h with ⟨rfl, rfl⟩ | ⟨rfl, rfl⟩
  · exact pressure.fixed
  · exact temperature.fixed

theorem HeldBank.entry {bd : Binding} {k' : Bank} (h : HeldBank s b bd x k') : k'.entry = (s.bank b).entry := by
  rcases h with ⟨-, rfl⟩ | ⟨-, rfl⟩ <;> rfl

theorem HeldBank.held {bd : Binding} {k' : Bank} (h : HeldBank s b bd x k') :
    k'.pressureGood = false ∨ k'.temperatureGood = false := by
  rcases h with ⟨-, rfl⟩ | ⟨-, rfl⟩
  · exact .inl rfl
  · exact .inr rfl

/-- The bank that a clearing or a temperature leaves is listed again where it now needs filling. -/
theorem settle_lists {listed : Prop} (h : u.refillStays b = true ↔ listed) (r : u.refill = s.refill) :
    (listed → b ∈ (settle (refillEval b u)).refill ∧ ∀ d, d ≠ b → (d ∈ (settle (refillEval b u)).refill ↔ d ∈ s.refill)) ∧
      (¬ listed → (settle (refillEval b u)).refill = s.refill.erase b) := by
  obtain ⟨on, off⟩ := refillEval_lists (s := u) (b := b)
  rw [settle_refill, ← r]
  exact ⟨fun l => on (h.mpr l), fun l => off fun st => l (h.mp st)⟩

theorem clearBankFault_clears :
    let k := s.bank b
    let u := settle (clearBankFault b s)
    let listed := k.entry.valid = true ∧ k.entry.fillPermit = true ∧ k.pressureGood = true ∧ k.temperatureGood = true ∧
      k.pressure < (if b ∈ s.refill then k.entry.refillOff else k.entry.refillOn)
    u.banks = upd s.banks b { k with protect := false, reload := false } ∧ u.fixed = s.fixed ∧
      u.sli.summary.getLsbD 6 = true ∧
      (listed → b ∈ u.refill ∧ ∀ c, c ≠ b → (c ∈ u.refill ↔ c ∈ s.refill)) ∧ (¬ listed → u.refill = s.refill.erase b) := by
  intro k u listed
  have fixed : u.fixed = s.fixed := (Runs.settle (w := true) (Runs.clearBankFault (Runs.refl s))).fixed
  have e : u = settle (refillEval b (post flagBank (modBank b (fun k => { k with protect := false, reload := false }) s))) := rfl
  have posted : (post flagBank (modBank b (fun k => { k with protect := false, reload := false }) s)).sli.summary.getLsbD 6 =
      true := by
    rw [post_sli]
    simp [flagBank]
  have banks : (post flagBank (modBank b (fun k => { k with protect := false, reload := false }) s)).banks =
      upd s.banks b { k with protect := false, reload := false } := rfl
  have refill : (post flagBank (modBank b (fun k => { k with protect := false, reload := false }) s)).refill = s.refill := rfl
  generalize post flagBank (modBank b (fun k => { k with protect := false, reload := false }) s) = w at *
  have ran : Runs false w u := by
    rw [e]
    exact Runs.settle (Runs.refillEval (Runs.refl w))
  have bank := (upd_banks_bank banks).1
  have stays : w.refillStays b = true ↔ listed := by
    rw [refillStays_iff, bank, usableFill_iff, refill]
    exact ⟨fun ⟨⟨v, f, p, t, _⟩, low⟩ => ⟨v, f, p, t, low⟩, fun ⟨v, f, p, t, low⟩ => ⟨⟨v, f, p, t, rfl⟩, low⟩⟩
  rw [e] at ran ⊢
  exact ⟨(ran.banks rfl).trans banks, e ▸ fixed, ran.posts _ posted, settle_lists stays refill⟩

/-- A delivery of the temperature of bank `b`. -/
theorem bankTemperatureSample_takes :
    let k := s.bank b
    let clears := k.entry.valid = true ∧ k.temperatureGood = false ∧ k.pressureGood = true
    let listed := k.entry.valid = true ∧ k.entry.fillPermit = true ∧ k.protect = false ∧
      k.pressure < (if b ∈ s.refill then k.entry.refillOff else k.entry.refillOn)
    let k' := s.recomputed { k with temperature := n, temperatureGood := true }
    let t := settle (bankTemperatureSample b n s)
    t.banks = upd s.banks b k' ∧
      (clears → t.sli.summary.getLsbD 6 = true ∧
        (listed → b ∈ t.refill ∧ ∀ d, d ≠ b → (d ∈ t.refill ↔ d ∈ s.refill)) ∧ (¬ listed → t.refill = s.refill.erase b)) ∧
      (¬ clears → s.csInbox = [] → t = { s with banks := upd s.banks b k' }) := by
  intro k clears listed k' t
  have fault : Bank.fault k' = Bank.fault { k with temperature := n, temperatureGood := true } := recomputed_fault _
  have sample := bankTemperatureSample_eq b n s
  dsimp only at sample
  by_cases cl : clears
  · have changes := temperature_clears (n := n).mpr cl
    rw [if_pos changes] at sample
    have e : t = settle (refillEval b (s.rebanked b k')) := congrArg settle sample
    have ran : Runs false (s.rebanked b k') t := by
      rw [e]
      exact Runs.settle (Runs.refillEval (Runs.refl _))
    have posted := rebanked_posts (s := s) (b := b) (k := k') (by rw [fault, changes.1]; exact changes.2.symm)
    have stays : (s.rebanked b k').refillStays b = true ↔ listed := by
      obtain ⟨valid, -, pressure⟩ := cl
      have good : k' = _ := recomputed_good (s := s) (k := { k with temperature := n, temperatureGood := true }) pressure rfl
      rw [refillStays_iff, rebanked_bank, usableFill_iff, good]
      exact ⟨fun ⟨⟨v, f, _, _, p⟩, low⟩ => ⟨v, f, p, low⟩, fun ⟨v, f, p, low⟩ => ⟨⟨v, f, pressure, rfl, p⟩, low⟩⟩
    refine ⟨ran.banks rfl, fun _ => ⟨ran.posts _ posted, ?_⟩, fun no => absurd cl no⟩
    rw [e]
    exact settle_lists stays rfl
  · have same := temperature_keeps (n := n) cl
    rw [if_neg fun h => cl (temperature_clears.mp h), rebanked_same (same.trans fault.symm)] at sample
    have e : t = settle { s with banks := upd s.banks b k' } := congrArg settle sample
    have ran : Runs false { s with banks := upd s.banks b k' } t := by
      rw [e]
      exact Runs.settle (Runs.refl _)
    exact ⟨ran.banks rfl, fun h => absurd h cl, fun _ box => e.trans (settle_nil _ box)⟩

/-- A delivery of the pressure of bank `b`. -/
theorem bankPressureSample_takes :
    let k := s.bank b
    let held := ∃ c : CompId, s.holderOf b = some (csReq c)
    let t := settle (bankPressureSample b n s)
    (∀ c, c ≠ b → t.bank c = s.bank c) ∧
      (t.bank b).pressure = n ∧ (t.bank b).pressureGood = true ∧ (t.bank b).temperature = k.temperature ∧
      (k.temperatureGood = true → (t.bank b).inventory = massOf (s.lookup n k.temperature).density k.entry.volume ∧
        (t.bank b).indication = (s.lookup n k.temperature).indication) ∧
      (k.temperatureGood = false → (t.bank b).inventory = k.inventory ∧ (t.bank b).indication = k.indication) ∧
      (held → k.entry.rated ≤ n → (t.bank b).protect = true ∧ (t.bank b).reload = false ∧
        t.sli.summary.getLsbD 6 = true ∧ (s.refill.Nodup → b ∉ t.refill)) ∧
      (¬ held ∨ n < k.entry.rated → (t.bank b).protect = k.protect ∧ (t.bank b).reload = k.reload) := by
  intro k held t
  obtain ⟨trips, keeps⟩ := bankPressureSample_rebanks b n s
  have e : settle (bankPressureSample b n s) = t := rfl
  rw [e] at trips keeps
  clear_value t
  obtain ⟨pressure, good, temperature, protect, reload⟩ := pressed_kept (s := s) (b := b) (n := n)
  obtain ⟨fresh, stale⟩ := pressed_inventory (s := s) (b := b) (n := n)
  by_cases trip : held ∧ k.entry.rated ≤ n
  · obtain ⟨banks, posted, unlisted⟩ := trips trip
    obtain ⟨bank, others⟩ := upd_banks_bank banks
    have same : t.bank b = (s.pressed b n).tripped := bank
    rw [same]
    exact ⟨others, pressure, good, temperature, fresh, stale, fun _ _ => ⟨rfl, rfl, posted trivial, unlisted trivial⟩,
      fun no => absurd trip fun ⟨h, r⟩ => no.elim (· h) fun l => absurd r (Nat.not_le.mpr l)⟩
  · obtain ⟨bank, others⟩ := upd_banks_bank (keeps trip).banks
    have same : t.bank b = s.pressed b n := bank
    rw [same]
    exact ⟨others, pressure, good, temperature, fresh, stale, fun h r => absurd ⟨h, r⟩ trip, fun _ => ⟨protect, reload⟩⟩

/-- A quantity of bank `b` falls HELD, the bank taking record `k'`. -/
theorem HeldBank.falls {bd : Binding} {k' : Bank} (h : HeldBank s b bd x k') :
    let fresh := (s.bank b).entry.valid = true ∧ (s.bank b).pressureGood = true ∧ (s.bank b).temperatureGood = true
    let t := settle (sensorIfNew b (s.fallen ch x) { s.fallen ch x with banks := upd s.banks b k' })
    t.banks = upd s.banks b k' ∧ t.sli.summary.getLsbD 11 = true ∧
      (fresh → t.holderOf b = none ∧ t.stackedAt b = [] ∧ (s.refill.Nodup → b ∉ t.refill) ∧ t.sli.summary.getLsbD 6 = true) ∧
      (¬ fresh → s.csInbox = [] → t = { s.fallen ch x with banks := upd s.banks b k' }) := by
  intro fresh t
  have et : t = settle (sensorIfNew b (s.fallen ch x) { s.fallen ch x with banks := upd s.banks b k' }) := rfl
  clear_value t
  generalize e : ({ s.fallen ch x with banks := upd s.banks b k' } : State) = u at *
  have bank : u.bank b = k' := by
    rw [← e]
    exact sel_upd_self ..
  have banks : u.banks = upd s.banks b k' := by rw [← e]
  have posted : u.sli.summary.getLsbD 11 = true := by
    rw [← e]
    simp [State.fallen]
  have refill : u.refill = s.refill := by
    rw [← e]
    rfl
  have ran : Runs false u t := by
    rw [et]
    exact Runs.settle (Runs.sensorIfNew (Runs.refl u))
  refine ⟨(ran.banks rfl).trans banks, ran.posts _ posted, fun f => ?_, fun f box => ?_⟩
  · obtain ⟨takes, sensor⟩ := sensorIfNew_fresh (s := s.fallen ch x) f h.entry h.held bank
    have same : t = settle (takeSensor b u) := et.trans (congrArg settle takes)
    obtain ⟨barred, unlisted, flagged⟩ := takeSensor_takes sensor
    rw [same]
    exact ⟨barred.free, barred.empty trivial, refill ▸ unlisted, flagged⟩
  · have stands : sensorIfNew b (s.fallen ch x) u = u := sensorIfNew_stands f h.entry bank
    have same : t = settle u := et.trans (congrArg settle stands)
    rw [same]
    refine settle_nil u ?_
    rw [← e]
    exact box

/-- Settles O41. -/
theorem bankDeliveriesAndClearFault : Obligations.BankDeliveriesAndClearFault := by
  unfold Obligations.BankDeliveriesAndClearFault
  intro s
  refine ⟨?_, ?_, ?_, fun n h => ?_, fun b => ?_⟩
  · intro ch raw b v bd value plausible k held
    subst value
    have del : s.Delivers ch (.bankP b) (.sampleArrival ch raw) _ _ := ⟨⟨raw, rfl, rfl⟩, bd, plausible, rfl⟩
    exact ⟨_, exec_delivers del nofun, bankPressureSample_takes (s := { s with chans := upd s.chans ch _ })⟩
  · intro ch b i v x del k clears listed
    have e := exec_delivers del nofun
    obtain ⟨banks, cleared, kept⟩ := bankTemperatureSample_takes (s := { s with chans := upd s.chans ch x }) (b := b) (n := v)
    have ran : Runs true { s with chans := upd s.chans ch x }
        (settle (bankTemperatureSample b v { s with chans := upd s.chans ch x })) :=
      Runs.settle (Runs.bankTemperatureSample (Runs.refl _))
    have fixed := ran.fixed
    change exec i s = .next (settle (bankTemperatureSample b v { s with chans := upd s.chans ch x })) at e
    generalize settle (bankTemperatureSample b v { s with chans := upd s.chans ch x }) = t at *
    obtain ⟨bank, others⟩ := upd_banks_bank banks
    refine ⟨t, e, others, fixed, fun p => bank.trans (recomputed_good p rfl), fun p => bank.trans (recomputed_held (.inl p)),
      cleared, fun no box => ?_⟩
    rw [kept no box]
  · intro ch b bd i x k' fall k fresh h
    have held : HeldBank s b bd x k' := h
    obtain ⟨banks, posted, forced, stands⟩ := held.falls (ch := ch)
    exact ⟨_, held.exec fall, banks, held.fixed, posted, forced, stands⟩
  · refine refuses_of rfl ?_
    simp [ownBankClearFault, unitOf_ge h]
  · intro k listed
    refine ⟨fun h => refuses_of rfl ?_, fun p r => ⟨_, answers_of rfl ?_, clearBankFault_clears⟩⟩
    · rw [ownBankClearFault, unitOf_val]
      refine if_neg fun ⟨p, r⟩ => ?_
      exact h.elim (fun h => nomatch h.symm.trans p) fun h => nomatch h.symm.trans r
    · rw [ownBankClearFault, unitOf_val]
      exact if_pos ⟨p, r⟩

end Deliveries

end Sys2Proof.Machine
end

section
/-!
PROOFS. The compressors: their timers, the choice of a bank, deliveries and trips (chapter 4, O44).
-/
namespace Sys2Proof.Machine

variable {k j : CompId} {s t u v : State} {b d : BankId} {i : Instr} {n : Nat} {ch : ChanId} {x : Channel} {good : Bool}

/-! ### The notices of an event, where they find no listener (R47, R60) -/

/-- A machine that takes no notice (R69, R71). -/
def Deaf (c : Compressor) : Prop := c.state = .disabled ∨ c.state = .filling ∨ c.state = .stopping ∨ c.state = .tripped

theorem csNotice_deaf (h : Deaf (s.comp k)) : csNotice k s = s := by
  unfold csNotice
  rcases h with h | h | h | h <;> rw [h]

/-- Notices that find no listener are taken, and change nothing. -/
theorem settle_unheard (h : ∀ c ∈ s.csInbox, Deaf (s.comp c.unit)) :
    ∃ box n, settle s = { s with csInbox := box, orderCount := n } := by
  have all : ∀ (m : Nat) (u : State), (∀ c ∈ u.csInbox, Deaf (u.comp c.unit)) →
      ∃ box n, settleFor m u = { u with csInbox := box, orderCount := n } := by
    intro m
    induction m with
    | zero => exact fun u _ => ⟨_, _, rfl⟩
    | succ m ih =>
      intro u q
      unfold settleFor
      split
      · exact ⟨_, _, rfl⟩
      · next c box =>
        rw [csNotice_deaf (s := { u with csInbox := [] }) (q c (by rw [box]; exact List.mem_cons_self))]
        exact ih _ nofun
      · next c rest _ box =>
        dsimp only
        have member (n : Nat) : (c :: rest)[n]?.getD c ∈ c :: rest := by
          cases e : (c :: rest)[n]? with
          | none => exact List.mem_cons_self
          | some x => exact List.mem_of_getElem? e
        rw [csNotice_deaf (s := { (freeChoice (rest.length + 1) u).2 with csInbox := (c :: rest).eraseIdx _ })
          (q _ (by rw [box]; exact member _))]
        obtain ⟨box', n', e⟩ := ih { (freeChoice (rest.length + 1) u).2 with
            csInbox := (c :: rest).eraseIdx (freeChoice (rest.length + 1) u).1 }
          fun x m => q x (by rw [box]; exact List.mem_of_mem_eraseIdx m)
        exact ⟨box', n', e⟩
  exact all 64 s h

/-- A starting machine whose target stands on the list keeps it (R65). -/
theorem settle_starting (h : (s.comp k).state = .starting) (p : (s.comp k).target = some b) (m : b ∈ s.refill) :
    CompSpares k s (settle s) := by
  have quiet : ∀ u : State, u.comp k = s.comp k → ∀ c, (u.comp k).waitsFor c = false := fun u e c => by
    rw [e, Compressor.waitsFor, h]
    rfl
  refine settle_keeps (P := fun u => CompSpares k s u) (fun u w => ?_) (fun u v w o => w.trans o) (fun u w => quiet u w.comp)
    (.refl (quiet s rfl))
  have listed : b ∈ u.refill := by
    rw [w.refill]
    exact m
  unfold csNotice recheckStarting
  rw [w.comp, h, p]
  simpa [listed] using w

/-! ### Need and permission (R60 to R65) -/

theorem chooseBank_listed {e : Option BankId} (h : s.chooseBank k e = some b) : b ∈ s.refill := List.mem_of_find?_eq_some h

theorem chooseBank_other (h : s.chooseBank k (some d) = some b) : b ≠ d := by
  have found := List.find?_some h
  simp only [Bool.and_eq_true, bne_iff_ne, ne_eq, Option.some.injEq] at found
  exact fun e => found.2 e.symm

/-- The record of a machine that starts for bank `b`. -/
def Compressor.starts (c : Compressor) (now : Clock) (b : BankId) : Compressor :=
  { c with state := .starting, target := some b, minOff := none, start := some c.entry.startTime
           history := if c.history.contains now then c.history else c.history ++ [now] }

theorem enterStarting_comp : (enterStarting k b s).comp k = (s.comp k).starts s.site.clock b := by
  unfold enterStarting
  rw [setTarget_comp_self, setCompState_comp_self, modComp_comp_self]
  rfl

/-- What a permission evaluation does, with the notices that follow (R62). -/
structure Decided (k : CompId) (s t : State) : Prop where
  stays : (s.comp k).state ≠ .startDeferred → t = s
  banks : t.banks = s.banks
  fixed : t.fixed = s.fixed
  drops : (s.comp k).state = .startDeferred → s.chooseBank k none = none →
    t.comp k = { s.comp k with state := .off }
  waits : (s.comp k).state = .startDeferred → ∀ b, s.chooseBank k none = some b → s.permitted k = false → t = s
  starts : (s.comp k).state = .startDeferred → ∀ b, s.chooseBank k none = some b → s.permitted k = true →
    t.comp k = (s.comp k).starts s.site.clock b

theorem setCompState_csInbox {st : CompState} : (setCompState k st s).csInbox = s.csInbox := by
  unfold setCompState
  rw [postIf_eq]
  split <;> rfl

theorem evalPermission_other (h : (s.comp k).state ≠ .startDeferred) : evalPermission k s = s := by
  unfold evalPermission
  split
  · next e => exact absurd e h
  all_goals rfl

/-- In START_DEFERRED permission is the need's question (R61, R62). -/
theorem evalPermission_deferred (h : (s.comp k).state = .startDeferred) : evalPermission k s =
    match s.chooseBank k none with
    | some b => if s.permitted k then enterStarting k b s else s
    | none => setCompState k .off s := by
  unfold evalPermission
  rw [h]
  dsimp only
  unfold evalNeed
  rw [h]
  cases s.chooseBank k none <;> rfl

theorem evalPermission_starts (h : (s.comp k).state = .startDeferred) (b : BankId) (c : s.chooseBank k none = some b)
    (p : s.permitted k = true) : evalPermission k s = enterStarting k b s := by
  rw [evalPermission_deferred h, c]
  exact if_pos p

/-- A machine that has just started for a listed bank is not turned round by the notices. -/
theorem settle_enterStarting (c : s.chooseBank k none = some b) :
    (settle (enterStarting k b s)).comp k = (s.comp k).starts s.site.clock b := by
  have refill : (enterStarting k b s).refill = s.refill := (sparesNone s).enterStarting.refill
  rw [(settle_starting (s := enterStarting k b s) (k := k) (b := b) (by rw [enterStarting_comp]; rfl)
    (by rw [enterStarting_comp]; rfl) (by rw [refill]; exact chooseBank_listed c)).comp, enterStarting_comp]

theorem evalPermission_decides (box : s.csInbox = []) : Decided k s (settle (evalPermission k s)) := by
  have ran : Runs false s (settle (evalPermission k s)) := Runs.settle (Runs.evalPermission (Runs.refl s))
  refine ⟨fun h => ?_, ran.banks rfl, ran.fixed, fun h c => ?_, fun h b c p => ?_, fun h b c p => ?_⟩
  · rw [evalPermission_other h, settle_nil s box]
  · rw [evalPermission_deferred h, c]
    dsimp only
    rw [settle_nil _ (setCompState_csInbox.trans box), setCompState_comp_self]
  · rw [evalPermission_deferred h, c]
    dsimp only
    rw [p]
    exact settle_nil s box
  · rw [evalPermission_starts h b c p, settle_enterStarting c]

/-! ### A compressor's record and target move (R58, R60) -/

/-- Compressor `k` with a new record, its change of state posted. -/
def State.recomped (s : State) (k : CompId) (c : Compressor) : State :=
  { s with cs := upd s.cs k c
           sli := { s.sli with summary := s.sli.summary |||
             if (s.comp k).state = c.state then 0 else BitVec.twoPow 15 (7 + k.val) } }

theorem recomped_comp {c : Compressor} : (s.recomped k c).comp k = c := sel_upd_self ..
theorem recomped_other {c : Compressor} (n : j ≠ k) : (s.recomped k c).comp j = s.comp j := sel_upd_ne _ _ _ _ n.symm

theorem setCompState_modComp {f : Compressor → Compressor} {st : CompState} (h : (f (s.comp k)).state = (s.comp k).state) :
    setCompState k st (modComp k f s) = s.recomped k { f (s.comp k) with state := st } := by
  unfold setCompState
  rw [postIf_eq, modComp_comp_self, h]
  have cs : (modComp k (fun c => { c with state := st }) (modComp k f s)) =
      { s with cs := upd s.cs k { f (s.comp k) with state := st } } := by
    have twice := upd_upd s.cs k (f (s.comp k)) { f (s.comp k) with state := st }
    have record := modComp_comp_self (s := s) k f
    show ({ modComp k f s with cs := upd (upd s.cs k (f (s.comp k))) k { (modComp k f s).comp k with state := st } } : State) = _
    rw [record, twice]
    rfl
  rw [cs]
  unfold State.recomped
  have none : s.sli.summary ||| 0 = s.sli.summary := BitVec.or_zero
  by_cases e : (s.comp k).state = st
  · rw [if_pos e, if_neg (by simp [e]), none]
  · rw [if_neg e, if_pos (by simpa using e)]
    rfl

theorem otherComp_ne (k : CompId) : otherComp k ≠ k := by
  revert k
  decide

/-- Waiting notices go to the other compressor alone, and it does not listen. -/
structure Unheard (k : CompId) (s : State) : Prop where
  box : ∀ c ∈ s.csInbox, c.unit = otherComp k
  deaf : Deaf (s.comp (otherComp k))

theorem Unheard.local (h : Unheard k s) (l : CompLocal k s t) (box : t.csInbox = s.csInbox) : Unheard k t :=
  ⟨by rw [box]; exact h.box, by rw [l.comp _ (otherComp_ne k)]; exact h.deaf⟩

theorem Unheard.same (h : Unheard k s) (cs : t.cs = s.cs := by rfl) (box : t.csInbox = s.csInbox := by rfl) : Unheard k t :=
  ⟨by rw [box]; exact h.box, by rw [State.comp, cs]; exact h.deaf⟩

theorem Unheard.modComp {f : Compressor → Compressor} (h : Unheard k s) : Unheard k (modComp k f s) :=
  h.local (CompLocal.refl s).modComp rfl
theorem Unheard.setCompState {st : CompState} (h : Unheard k s) : Unheard k (setCompState k st s) :=
  h.local (CompLocal.refl s).setCompState setCompState_csInbox

theorem Unheard.setTarget {p : Option BankId} (h : Unheard k s) : Unheard k (setTarget k p s) := by
  refine ⟨fun c m => ?_, by rw [(CompLocal.refl s).setTarget.comp _ (otherComp_ne k)]; exact h.deaf⟩
  unfold Machine.setTarget at m
  split at m
  · exact h.box c m
  · rcases List.mem_append.mp m with m | m
    · exact h.box c m
    · rw [List.mem_singleton.mp m]
      rfl

theorem Unheard.settles (h : Unheard k s) : ∃ box n, settle s = { s with csInbox := box, orderCount := n } :=
  settle_unheard fun c m => by rw [h.box c m]; exact h.deaf

theorem setTarget_same {p : Option BankId} (h : (s.comp k).target = p) : setTarget k p s = s := if_pos h

/-- The choice looks at the list, the rated pressures, the other target and the own limit alone (R60). -/
theorem chooseBank_congr {e : Option BankId} (r : t.refill = s.refill) (bk : t.banks = s.banks)
    (o : (t.comp (otherComp k)).target = (s.comp (otherComp k)).target) (en : (t.comp k).entry = (s.comp k).entry) :
    t.chooseBank k e = s.chooseBank k e := by
  have bank (x : BankId) : t.bank x = s.bank x := by rw [State.bank, bk]; rfl
  unfold State.chooseBank State.qualifies
  simp only [r, o, en, bank]

theorem setTarget_arbiter {p : Option BankId} : (setTarget k p s).holder = s.holder ∧ (setTarget k p s).stacked = s.stacked ∧
    (setTarget k p s).banks = s.banks ∧ (setTarget k p s).refill = s.refill ∧ (setTarget k p s).site = s.site := by
  have l := (CompLocal.refl s).setTarget (k := k) (b := p)
  exact ⟨by rw [l.rest], by rw [l.rest], by rw [l.rest], by rw [l.rest], by rw [l.rest]⟩

/-! ### A compressor asks for its target (R50, R51, R66) -/

/-- Compressor `k`, engaged nowhere, has asked for bank `b`, which is usable. -/
structure AskedFor (k : CompId) (b : BankId) (s t : State) : Prop where
  takes : s.holderOf b = none → s.stackedAt b = [] → t.holder = upd s.holder b (some (csReq k)) ∧
    t.comp k = { s.comp k with state := .filling }
  waits : s.holderOf b ≠ none ∨ s.stackedAt b ≠ [] → t.holder = s.holder ∧ csReq k ∈ t.stackedAt b ∧
    t.comp k = { s.comp k with bankWait := some s.site.params.bankWait }
  others : ∀ c, c ≠ b → t.holderOf c = s.holderOf c ∧ t.stackedAt c = s.stackedAt c

theorem usableFor_cs : (s.bank b).usableFor (csReq k) = (s.bank b).usableFill := by
  unfold Bank.usableFor
  rw [reqUnit_csReq]

theorem requestTarget_free (us : (s.bank b).usableFill = true) (e : s.engaged (csReq k) = false)
    (free : s.holderOf b = none ∧ s.stackedAt b = []) :
    requestTarget (n + 1) k b s = setCompState k .filling (setHolder b (some (csReq k)) s) := by
  unfold requestTarget requestBank
  simp [usableFor_cs, us, e, free]

theorem requestTarget_taken (us : (s.bank b).usableFill = true) (e : s.engaged (csReq k) = false)
    (taken : ¬ (s.holderOf b = none ∧ s.stackedAt b = [])) :
    requestTarget (n + 1) k b s = modComp k (fun c => { c with bankWait := some s.site.params.bankWait })
      (setStacked b (insertReq (csReq k) (s.stackedAt b)) s) := by
  have full : ((s.holderOf b).isNone && (s.stackedAt b).isEmpty) = false := by
    rw [Bool.eq_false_iff]
    simpa using taken
  unfold requestTarget requestBank
  simp [usableFor_cs, us, e, full]

theorem requestTarget_idles (us : (s.bank b).usableFill = false) (c : s.chooseBank k (some b) = none) :
    requestTarget (n + 1) k b s = becomeIdle k s := by
  rw [requestTarget]
  unfold requestBank
  simp only [usableFor_cs, us, Bool.not_false, Bool.true_or, if_true, c]

theorem requestTarget_goesOn (us : (s.bank b).usableFill = false) (c : s.chooseBank k (some b) = some d) :
    requestTarget (n + 1) k b s = requestTarget n k d (setTarget k (some d) s) := by
  rw [requestTarget]
  unfold requestBank
  simp only [usableFor_cs, us, Bool.not_false, Bool.true_or, if_true, c]

theorem requestTarget_asks (us : (s.bank b).usableFill = true) (e : s.engaged (csReq k) = false) :
    AskedFor k b s (requestTarget (n + 1) k b s) := by
  by_cases free : s.holderOf b = none ∧ s.stackedAt b = []
  · rw [requestTarget_free us e free]
    have l : CompLocal k (setHolder b (some (csReq k)) s) (setCompState k .filling (setHolder b (some (csReq k)) s)) :=
      (CompLocal.refl _).setCompState
    have holder : (setCompState k .filling (setHolder b (some (csReq k)) s)).holder = upd s.holder b (some (csReq k)) := by
      rw [l.rest]
      rfl
    have stacked : (setCompState k .filling (setHolder b (some (csReq k)) s)).stacked = s.stacked := by
      rw [l.rest]
      rfl
    refine ⟨fun _ _ => ⟨holder, setCompState_comp_self ..⟩, fun no => ?_, fun c n => ⟨?_, ?_⟩⟩
    · exact (no.elim (· free.1) (· free.2)).elim
    · rw [State.holderOf, holder, sel_upd_ne _ _ _ _ n.symm]
      rfl
    · rw [State.stackedAt, stacked]
      rfl
  · rw [requestTarget_taken us e free]
    refine ⟨fun h w => absurd ⟨h, w⟩ free, fun _ => ⟨rfl, ?_, modComp_comp_self ..⟩, fun c n => ⟨rfl, ?_⟩⟩
    · rw [modComp_stackedAt, setStacked_stackedAt_self]
      exact (mem_insertReq _ _ _).mpr (.inl rfl)
    · rw [modComp_stackedAt]
      exact setStacked_stackedAt_ne _ _ _ _ n.symm

theorem requestTarget_csInbox (us : (s.bank b).usableFill = true) (e : s.engaged (csReq k) = false) :
    (requestTarget (n + 1) k b s).csInbox = s.csInbox := by
  by_cases free : s.holderOf b = none ∧ s.stackedAt b = []
  · rw [requestTarget_free us e free]
    exact setCompState_csInbox
  · rw [requestTarget_taken us e free]
    rfl

theorem Unheard.requestTarget (h : Unheard k s) (us : (s.bank b).usableFill = true) (e : s.engaged (csReq k) = false) :
    Unheard k (requestTarget (n + 1) k b s) := by
  by_cases free : s.holderOf b = none ∧ s.stackedAt b = []
  · rw [requestTarget_free us e free]
    exact Unheard.setCompState h.same
  · rw [requestTarget_taken us e free]
    exact Unheard.modComp h.same

/-- Notices that nobody hears change nothing of it. -/
theorem AskedFor.later (h : AskedFor k b s t) (e : ∃ box n, u = { t with csInbox := box, orderCount := n }) : AskedFor k b s u := by
  obtain ⟨_, _, rfl⟩ := e
  exact ⟨h.takes, h.waits, h.others⟩

/-! ### The start timer (R65, R66) -/

/-- RECIRC is entered as the start ends. -/
def recirculates (k : CompId) (s : State) : State :=
  s.recomped k { s.comp k with state := .recirc, start := none, minRun := some (s.comp k).entry.minRun }

theorem endStart_eq : endStart k s = match (s.comp k).target with
    | some b => requestTarget 16 k b (recirculates k s)
    | none => becomeIdle k (recirculates k s) := by
  unfold endStart
  rw [setCompState_modComp rfl]
  show (match ((recirculates k s).comp k).target with
    | some b => requestTarget 16 k b (recirculates k s)
    | none => becomeIdle k (recirculates k s)) = _
  rw [recirculates, recomped_comp]

theorem recirculates_comp : (recirculates k s).comp k =
    { s.comp k with state := .recirc, start := none, minRun := some (s.comp k).entry.minRun } := recomped_comp

theorem recirculates_chooses {e : Option BankId} : (recirculates k s).chooseBank k e = s.chooseBank k e :=
  chooseBank_congr rfl rfl (by rw [recirculates, recomped_other (otherComp_ne k)]) (by rw [recirculates_comp])

theorem recirculates_unheard (box : s.csInbox = []) (d : Deaf (s.comp (otherComp k))) : Unheard k (recirculates k s) := by
  refine ⟨fun c m => ?_, ?_⟩
  · rw [show (recirculates k s).csInbox = [] from box] at m
    cases m
  · rw [recirculates, recomped_other (otherComp_ne k)]
    exact d

/-- A machine whose minimum run has not ended stays idle in RECIRC (R68). -/
theorem becomeIdle_waits {m : Nat} (h : (s.comp k).minRun = some m) : becomeIdle k s = setTarget k none s := by
  unfold becomeIdle
  refine if_neg ?_
  rw [setTarget_comp_self, h]
  nofun

/-- The record of the machine as its choice leaves it. -/
theorem endStart_rejected (p : (s.comp k).target = some b) (us : (s.bank b).usableFill = false) (box : s.csInbox = [])
    (o : Deaf (s.comp (otherComp k))) :
    let t := settle (endStart k s)
    let c := s.comp k
    (s.chooseBank k (some b) = none → t.holder = s.holder ∧ t.stacked = s.stacked ∧
      t.comp k = { c with state := .recirc, target := none, start := none, minRun := some c.entry.minRun }) ∧
    (∀ d, s.chooseBank k (some b) = some d → (s.bank d).usableFill = true → s.engaged (csReq k) = false →
      (s.holderOf d = none → s.stackedAt d = [] → t.holder = upd s.holder d (some (csReq k)) ∧
        t.comp k = { c with state := .filling, target := some d, start := none, minRun := some c.entry.minRun }) ∧
      (s.holderOf d ≠ none ∨ s.stackedAt d ≠ [] → t.holder = s.holder ∧ csReq k ∈ t.stackedAt d ∧
        t.comp k = { c with state := .recirc, target := some d, start := none, minRun := some c.entry.minRun
                            bankWait := some s.site.params.bankWait })) := by
  intro t c
  have e : endStart k s = requestTarget 16 k b (recirculates k s) := by
    rw [endStart_eq, p]
  have us' : ((recirculates k s).bank b).usableFill = false := us
  have choose := recirculates_chooses (k := k) (s := s) (e := some b)
  have unheard := recirculates_unheard box o
  have comp := recirculates_comp (k := k) (s := s)
  have et : t = settle (endStart k s) := rfl
  clear_value t
  have holder : (recirculates k s).holder = s.holder := rfl
  have stacked : (recirculates k s).stacked = s.stacked := rfl
  have banks : (recirculates k s).banks = s.banks := rfl
  have site : (recirculates k s).site = s.site := rfl
  generalize recirculates k s = u at *
  refine ⟨fun none => ?_, fun d choice usable engaged => ?_⟩
  · rw [requestTarget_idles us' (choose.trans none), becomeIdle_waits (by rw [comp])] at e
    obtain ⟨_, _, quiet⟩ := unheard.setTarget (p := Option.none).settles
    rw [e, quiet] at et
    obtain ⟨ho, st, -⟩ := setTarget_arbiter (k := k) (p := Option.none) (s := u)
    have record := setTarget_comp_self k Option.none u
    rw [et]
    exact ⟨ho.trans holder, st.trans stacked, record.trans (by rw [comp])⟩
  · rw [requestTarget_goesOn us' (choose.trans choice)] at e
    obtain ⟨ho, st, bk, -, si⟩ := setTarget_arbiter (k := k) (p := some d) (s := u)
    have record := setTarget_comp_self k (some d) u
    have quiet := unheard.setTarget (p := some d)
    generalize setTarget k (some d) u = v at *
    have usable' : (v.bank d).usableFill = true := by
      rw [State.bank, bk, banks]
      exact usable
    have engaged' : v.engaged (csReq k) = false := by
      unfold State.engaged State.holderOf State.stackedAt
      rw [ho, st, holder, stacked]
      exact engaged
    have asked := (requestTarget_asks (n := 14) usable' engaged').later (u := t) (by
      rw [et, e]
      exact (quiet.requestTarget usable' engaged').settles)
    obtain ⟨takes, waits, -⟩ := asked
    rw [State.holderOf, State.stackedAt, ho, st, holder, stacked, record, comp] at takes waits
    rw [si, site] at waits
    exact ⟨takes, waits⟩

/-- The start has ended with a target that is usable. -/
theorem endStart_asks (p : (s.comp k).target = some b) (us : (s.bank b).usableFill = true) (e : s.engaged (csReq k) = false)
    (box : s.csInbox = []) :
    let t := settle (endStart k s)
    let c := s.comp k
    (s.holderOf b = none → s.stackedAt b = [] → t.holder = upd s.holder b (some (csReq k)) ∧
      t.comp k = { c with state := .filling, start := none, minRun := some c.entry.minRun }) ∧
    (s.holderOf b ≠ none ∨ s.stackedAt b ≠ [] → t.holder = s.holder ∧ csReq k ∈ t.stackedAt b ∧
      t.comp k = { c with state := .recirc, start := none, minRun := some c.entry.minRun
                          bankWait := some s.site.params.bankWait }) := by
  intro t c
  have start : endStart k s = requestTarget 16 k b (recirculates k s) := by
    rw [endStart_eq, p]
  have quiet := (requestTarget_csInbox (n := 15) (s := recirculates k s) us e).trans box
  have et : t = requestTarget 16 k b (recirculates k s) := by
    show settle (endStart k s) = _
    rw [start, settle_nil _ quiet]
  obtain ⟨takes, waits, -⟩ := requestTarget_asks (n := 15) (s := recirculates k s) us e
  rw [← et, recirculates_comp] at takes waits
  exact ⟨takes, waits⟩

/-- The start has ended without a target. -/
theorem endStart_idle (p : (s.comp k).target = none) (box : s.csInbox = []) : settle (endStart k s) = recirculates k s := by
  have start : endStart k s = becomeIdle k (recirculates k s) := by
    rw [endStart_eq, p]
  rw [start, becomeIdle_waits (by rw [recirculates_comp]), setTarget_same (by rw [recirculates_comp]; exact p)]
  exact settle_nil _ box

/-! ### The bank wait (R66) -/

/-- Compressor `k` has let go of bank `b`, which it waited for. -/
def withdrawn (k : CompId) (b : BankId) (s : State) : State :=
  setTarget k none (withdrawBank (csReq k) b (modComp k (fun c => { c with bankWait := none }) s))

theorem withdrawn_comp : (withdrawn k b s).comp k = { s.comp k with bankWait := none, target := none } := by
  unfold withdrawn
  rw [setTarget_comp_self]
  exact congrArg (fun c : Compressor => { c with target := none })
    (modComp_comp_self (s := s) k fun c => { c with bankWait := none })

theorem withdrawn_arbiter : (withdrawn k b s).holder = s.holder ∧
    (withdrawn k b s).stacked = upd s.stacked b ((s.stackedAt b).erase (csReq k)) ∧ (withdrawn k b s).banks = s.banks ∧
    (withdrawn k b s).refill = s.refill := by
  obtain ⟨ho, st, bk, rf, -⟩ := setTarget_arbiter (k := k) (p := none)
    (s := withdrawBank (csReq k) b (modComp k (fun c => { c with bankWait := none }) s))
  exact ⟨ho, st, bk, rf⟩

/-- It stands nowhere, then. -/
theorem withdrawn_free (a : s.ArbiterOk) (m : csReq k ∈ s.stackedAt b) : (withdrawn k b s).engaged (csReq k) = false ∧
    csReq k ∉ (withdrawn k b s).stackedAt b := by
  obtain ⟨ho, st, -, -⟩ := withdrawn_arbiter (k := k) (b := b) (s := s)
  obtain ⟨holds, stands⟩ := member_alone a m
  have out : csReq k ∉ (withdrawn k b s).stackedAt b := by
    rw [State.stackedAt, st, sel_upd_self]
    exact (List.Nodup.not_mem_erase (a.once b))
  refine ⟨engaged_false fun c => ⟨?_, ?_⟩, out⟩
  · rw [State.holderOf, ho]
    exact holds c
  · by_cases e : c = b
    · rw [e]
      exact out
    · rw [State.stackedAt, st, sel_upd_ne _ _ _ _ fun h => e h.symm]
      exact stands c e

theorem withdrawn_unheard (box : s.csInbox = []) (o : Deaf (s.comp (otherComp k))) : Unheard k (withdrawn k b s) := by
  have start : Unheard k s := ⟨fun c m => by { rw [box] at m; cases m }, o⟩
  have aside : Unheard k (modComp k (fun c => { c with bankWait := none }) s) := start.modComp
  unfold withdrawn
  exact Unheard.setTarget aside.same

/-! ### Stopping idle (R68, R69) -/

theorem letGoOfTarget_none {q : Option BankId} (p : q = none) : letGoOfTarget k q s = s := by
  rw [p, letGoOfTarget]

theorem enterStopping_idle (p : (s.comp k).target = none) : enterStopping k s =
    s.recomped k { s.comp k with
      state := .stopping, start := none, minRun := none, bankWait := none, runDown := some (s.comp k).entry.runDown } := by
  unfold enterStopping
  rw [setCompState_modComp rfl, setTarget_same (by rw [recomped_comp]; exact p), letGoOfTarget_none p]

/-- The bank wait has ended: another bank, or none. -/
theorem csBankWaitEnd_leaves (a : s.ArbiterOk) (m : csReq k ∈ s.stackedAt b)
    (r : (s.comp k).state = .recirc) (listed : ∀ x ∈ s.refill, (s.bank x).usableFill = true) (box : s.csInbox = [])
    (o : Deaf (s.comp (otherComp k))) :
    let t := settle (csBankWaitEnd k b s)
    (t.comp k).target ≠ some b ∧ csReq k ∉ t.stackedAt b ∧ t.holderOf b = s.holderOf b ∧
      ((t.comp k).target = none → ((s.comp k).minRun = none → (t.comp k).state = .stopping) ∧
        ((s.comp k).minRun ≠ none → (t.comp k).state = .recirc ∧ (t.comp k).minRun = (s.comp k).minRun)) := by
  intro t
  have et : t = settle (seek k (some b) (withdrawn k b s)) := rfl
  clear_value t
  have comp := withdrawn_comp (k := k) (b := b) (s := s)
  obtain ⟨ho, st, bk, rf⟩ := withdrawn_arbiter (k := k) (b := b) (s := s)
  obtain ⟨free, out⟩ := withdrawn_free a m
  have quiet := withdrawn_unheard (b := b) box o
  generalize withdrawn k b s = u at *
  have holder : u.holderOf b = s.holderOf b := by rw [State.holderOf, ho]; rfl
  unfold seek at et
  cases choice : u.chooseBank k (some b) with
  | none =>
    rw [choice] at et
    dsimp only at et
    have same : setTarget k none u = u := setTarget_same (by rw [comp])
    cases run : (s.comp k).minRun with
    | none =>
      have idle : becomeIdle k u = enterStopping k u := by
        unfold becomeIdle
        rw [same]
        exact if_pos (by rw [comp]; exact run)
      rw [idle, enterStopping_idle (by rw [comp])] at et
      have quiet' : Unheard k (u.recomped k { u.comp k with
          state := .stopping, start := none, minRun := none, bankWait := none, runDown := some (u.comp k).entry.runDown }) :=
        ⟨quiet.box, by rw [recomped_other (otherComp_ne k)]; exact quiet.deaf⟩
      obtain ⟨_, _, e⟩ := quiet'.settles
      have record := et.trans e
      have now : t.comp k = { u.comp k with
          state := .stopping, start := none, minRun := none, bankWait := none, runDown := some (u.comp k).entry.runDown } := by
        rw [record]
        exact recomped_comp
      rw [now, comp]
      refine ⟨nofun, ?_, ?_, fun _ => ⟨fun _ => rfl, fun no => absurd rfl no⟩⟩
      · rw [record]
        exact out
      · rw [record]
        exact holder
    | some m' =>
      have idle : becomeIdle k u = u := (becomeIdle_waits (by rw [comp]; exact run)).trans same
      rw [idle] at et
      obtain ⟨_, _, e⟩ := quiet.settles
      have record := et.trans e
      have now : t.comp k = u.comp k := by rw [record]; rfl
      rw [now, comp]
      refine ⟨nofun, ?_, ?_, fun _ => ⟨nofun, fun _ => ⟨r, run⟩⟩⟩
      · rw [record]
        exact out
      · rw [record]
        exact holder
  | some d =>
    rw [choice] at et
    dsimp only at et
    have n := chooseBank_other choice
    obtain ⟨ho', st', bk', -, -⟩ := setTarget_arbiter (k := k) (p := some d) (s := u)
    have comp' := setTarget_comp_self k (some d) u
    have quiet' := quiet.setTarget (p := some d)
    generalize setTarget k (some d) u = v at *
    have us : (v.bank d).usableFill = true := by
      rw [State.bank, bk', bk]
      exact listed d (rf ▸ chooseBank_listed choice)
    have e : v.engaged (csReq k) = false := by
      unfold State.engaged State.holderOf State.stackedAt at free ⊢
      rw [ho', st']
      exact free
    have asked := (requestTarget_asks (n := 15) us e).later (u := t) (et ▸ (quiet'.requestTarget us e).settles)
    have target : (t.comp k).target = some d := by
      by_cases c : v.holderOf d = none ∧ v.stackedAt d = []
      · rw [(asked.takes c.1 c.2).2, comp']
      · rw [(asked.waits (by rwa [not_and_or] at c)).2.2, comp']
    obtain ⟨holds, stands⟩ := asked.others b n.symm
    rw [target]
    refine ⟨fun h => n (Option.some.inj h), ?_, ?_, nofun⟩
    · rw [stands, State.stackedAt, st']
      exact out
    · rw [holds, State.holderOf, ho']
      exact holder

/-! ### Deliveries of the discharge temperature (R62, R71) -/

/-- The discharge temperature stands at `n`, GOOD or HELD. -/
def State.discharged (s : State) (k : CompId) (n : Nat) (good : Bool) : State :=
  { s with cs := upd s.cs k { s.comp k with discharge := n, dischargeGood := good } }

theorem discharged_comp {good : Bool} : (s.discharged k n good).comp k =
    { s.comp k with discharge := n, dischargeGood := good } := sel_upd_self ..

theorem dischargeSample_within (h : n ≤ (s.comp k).entry.dischargeLimit) :
    dischargeSample n k s = evalPermission k (s.discharged k n true) := by
  unfold dischargeSample
  refine if_neg ?_
  rw [modComp_comp_self]
  exact Nat.not_lt.mpr h

theorem dischargeSample_beyond (h : (s.comp k).entry.dischargeLimit < n) (d : (s.comp k).state ≠ .startDeferred) :
    dischargeSample n k s = tripIfRunning k .dischargeTemp (s.discharged k n true) := by
  have other : evalPermission k (s.discharged k n true) = s.discharged k n true :=
    evalPermission_other (by rw [discharged_comp]; exact d)
  have on : ((s.discharged k n true).comp k).entry.dischargeLimit < n := by
    rw [discharged_comp]
    exact h
  have e : dischargeSample n k s = tripIfRunning k .dischargeTemp (evalPermission k (s.discharged k n true)) := if_pos on
  rw [e, other]

/-- A machine that runs (R71). -/
theorem running_iff_states {c : Compressor} : c.state.running = true ↔
    c.state = .starting ∨ c.state = .recirc ∨ c.state = .filling ∨ c.state = .stopping := by
  unfold CompState.running
  cases c.state <;> simp

/-- What a trip leaves, with the notices after it. -/
theorem settle_tripped {cause : TripCause} (h : (s.comp k).state.running = true) :
    let t := settle (tripIfRunning k cause s)
    t.banks = s.banks ∧ t.fixed = s.fixed ∧ t.sli.summary.getLsbD (7 + k.val) = true ∧
      t.comp k = (s.comp k).trippedBy cause ∧ ∀ b, (s.comp k).target = some b → t.holderOf b ≠ some (csReq k) := by
  have trips : tripIfRunning k cause s = enterTripped k cause s := if_pos h
  have ran : Runs false s (settle (enterTripped k cause s)) := Runs.settle (Runs.enterTripped (Runs.refl s))
  obtain ⟨record, posted, freed⟩ := (enterTripped_leaves k cause s).settle (.inr rfl)
  rw [trips]
  refine ⟨ran.banks rfl, ran.fixed, posted fun e => ?_, record, freed⟩
  rw [show (s.comp k).state = .tripped from e] at h
  cases h

theorem settle_untripped {cause : TripCause} (h : ¬ (s.comp k).state.running = true) (box : s.csInbox = []) :
    settle (tripIfRunning k cause s) = s := by
  rw [tripIfRunning, if_neg h, settle_nil s box]

/-! ### Deliveries of the supply pressure (R62, R70) -/

/-- From `s` to `t` compressor `k` is as it was, or was granted the bank it waited for. -/
def Awarded (k : CompId) (s t : State) : Prop :=
  t.comp k = s.comp k ∨ ((s.comp k).state = .recirc ∧ t.comp k = { s.comp k with state := .filling, bankWait := none })

theorem Awarded.refl (s : State) : Awarded k s s := .inl rfl

theorem Awarded.trans (h : Awarded k s t) (m : Awarded k t u) : Awarded k s u := by
  rcases h with h | ⟨r, h⟩
  · unfold Awarded at m ⊢
    rwa [h] at m
  · rcases m with m | ⟨r', -⟩
    · exact .inr ⟨r, m.trans h⟩
    · rw [h] at r'
      cases r'

theorem Awarded.same (h : Awarded k s t) (e : u.comp k = t.comp k := by rfl) : Awarded k s u := h.trans (.inl e)

theorem fpsTake_cs {f : FpId} : (fpsTake f b s).cs = s.cs := by
  have r (w : State) : (rederive f w).cs = w.cs := by rw [rederive_rest]
  unfold fpsTake
  dsimp only
  split
  · split <;> rfl
  · exact r _
  all_goals rfl

theorem Awarded.tellGranted {r : Requester} (h : Awarded k s t) : Awarded k s (tellGranted r b t).1 := by
  unfold Machine.tellGranted
  split
  · split
    · exact h.same (by rw [State.comp, fpsTake_cs]; rfl)
    · exact h
  · next l unit =>
    split
    · next waits =>
      refine h.trans ?_
      by_cases e : l = k
      · subst e
        refine .inr ⟨?_, by rw [setCompState_comp_self, modComp_comp_self]⟩
        simp only [Compressor.waitsFor, Bool.and_eq_true, beq_iff_eq] at waits
        exact waits.1
      · exact .inl ((CompLocal.refl t).modComp.setCompState.comp k fun q => e q.symm)
    · exact h

theorem Awarded.competeFor {m : Nat} (h : Awarded k s t) : Awarded k s (competeFor m b t) := by
  induction m generalizing t with
  | zero => exact h
  | succ m ih =>
    unfold Machine.competeFor
    split
    · exact h
    · next r _ =>
      have told : Awarded k s (Machine.tellGranted r b (setHolder b (some r) (setStacked b ((t.stackedAt b).erase r) t))).1 :=
        (h.same (u := setHolder b (some r) (setStacked b ((t.stackedAt b).erase r) t))).tellGranted
      dsimp only
      split
      · exact ih (told.same (u := setHolder b none _))
      · exact told

theorem Awarded.letGo {r : Requester} (h : Awarded k s t) : Awarded k s (letGo r b t) := by
  refine Awarded.same (t := releaseBank r b t) ?_
  unfold releaseBank
  split
  · unfold compete
    split
    · exact (h.same (u := setHolder b none t)).competeFor
    · exact h.same
  · exact h

theorem Awarded.local (h : Awarded k s t) (l : CompLocal j t u) (n : j ≠ k) : Awarded k s u := h.same (l.comp k n.symm)

theorem Awarded.enterStopping (h : Awarded k s t) (n : j ≠ k) : Awarded k s (enterStopping j t) := by
  have before : Awarded k s (Machine.setTarget j none (Machine.setCompState j .stopping (Machine.modComp j (fun c => { c with
      start := none, minRun := none, bankWait := none, runDown := some c.entry.runDown }) t))) :=
    h.local (CompLocal.refl t).modComp.setCompState.setTarget n
  unfold Machine.enterStopping letGoOfTarget
  split
  · exact before.letGo
  · exact before

/-- The supply pressure stands at `n` in a machine's record. -/
def Compressor.supplied (n : Nat) (good : Bool) (c : Compressor) : Compressor := { c with supply := n, supplyGood := good }

/-- What a delivery of the supply pressure does at one machine: it stops it, or evaluates its permission. -/
def supplyActs (n : Nat) (good : Bool) (j : CompId) (s : State) : State :=
  if good then supplySample n j s else supplyHeld n j s

theorem supplyActs_eq : supplyActs n good j s =
    let u := modComp j (Compressor.supplied n good) s
    if (s.comp j).state.stoppable = true ∧ (good = true → n < s.site.params.supplyMin) then enterStopping j u
    else if good then evalPermission j u else u := by
  have state : ((modComp j (Compressor.supplied n good) s).comp j).state = (s.comp j).state := by
    rw [modComp_comp_self]
    rfl
  cases good with
  | true =>
    show (if ((modComp j (Compressor.supplied n true) s).comp j).state.stoppable = true ∧ n < s.site.params.supplyMin then _
      else _) = _
    rw [state]
    simp only [true_imp_iff, if_true]
    rfl
  | false =>
    show (if ((modComp j (Compressor.supplied n false) s).comp j).state.stoppable = true then _ else _) = _
    rw [state]
    simp only [Bool.false_eq_true, false_imp_iff, and_true, if_false]
    rfl

theorem supplyActs_runs : Runs false s (supplyActs n good j s) := by
  have told : Runs false s (modComp j (Compressor.supplied n good) s) := Runs.modComp (Runs.refl s) fun _ => ⟨rfl, rfl⟩
  rw [supplyActs_eq]
  exact Runs.ite told.enterStopping (Runs.ite told.evalPermission told)

theorem supplyActs_local (no : ¬ ((s.comp j).state.stoppable = true ∧ (good = true → n < s.site.params.supplyMin))) :
    CompLocal j s (supplyActs n good j s) := by
  have told : CompLocal j s (modComp j (Compressor.supplied n good) s) := (CompLocal.refl s).modComp
  rw [supplyActs_eq]
  dsimp only
  rw [if_neg no]
  exact .ite (by unfold evalPermission; split <;> simp [told]) told

/-- A machine that waits is left as it is, or is granted its bank. -/
theorem supplyActs_awards (ne : j ≠ k) : Awarded k s (supplyActs n good j s) := by
  by_cases stops : (s.comp j).state.stoppable = true ∧ (good = true → n < s.site.params.supplyMin)
  · rw [supplyActs_eq]
    dsimp only
    rw [if_pos stops]
    exact ((Awarded.refl s).local (CompLocal.refl s).modComp ne).enterStopping ne
  · exact (Awarded.refl s).local (supplyActs_local stops) ne

/-- A machine that waits for no bank is left as it is. -/
theorem supplyActs_spares (ne : j ≠ k) (q : ∀ b, (s.comp k).waitsFor b = false) : CompSpares k s (supplyActs n good j s) := by
  have told : CompSpares k s (modComp j (Compressor.supplied n good) s) := (CompSpares.refl q).modComp ne
  rw [supplyActs_eq]
  refine CompSpares.ite (told.enterStopping ne) (CompSpares.ite ?_ told)
  unfold evalPermission
  split <;> simp [told, ne]

/-- Both machines hear of it, one after the other. -/
theorem inAnyOrder_comps (f : CompId → State → State) (k : CompId) (s : State) :
    inAnyOrder (allComps.map f) s = f (otherComp k) (f k { s with orderCount := s.orderCount + 1 }) ∨
      inAnyOrder (allComps.map f) s = f k (f (otherComp k) { s with orderCount := s.orderCount + 1 }) := by
  have two := inAnyOrder_two (f 0) (f 1) s
  have either : k = 0 ∨ k = 1 := by
    revert k
    decide
  rcases either with rfl | rfl
  · exact two
  · exact two.symm

/-- The supply pressure, GOOD or HELD, has been told to both. -/
def toldSupply (n : Nat) (good : Bool) (s : State) : State := inAnyOrder (allComps.map (supplyActs n good)) s

theorem stoppable_iff {c : Compressor} :
    c.state.stoppable = true ↔ c.state = .starting ∨ c.state = .recirc ∨ c.state = .filling := by
  unfold CompState.stoppable
  cases c.state <;> simp

/-- A machine that must stop stops, whichever is told first (R70). -/
theorem toldSupply_stops (st : (s.comp k).state.stoppable = true) (low : good = true → n < s.site.params.supplyMin) :
    LeftBank k ((s.comp k).supplied n good).stopped s (settle (toldSupply n good s)) := by
  have stops (u : State) (e : u.site = s.site) (m : (u.comp k).state.stoppable = true) :
      supplyActs n good k u = enterStopping k (modComp k (Compressor.supplied n good) u) := by
    rw [supplyActs_eq]
    exact if_pos ⟨m, by rw [e]; exact low⟩
  have left (u : State) := enterStopping_leaves k (modComp k (Compressor.supplied n good) u)
  refine LeftBank.settle ?_ (.inl rfl)
  have start : State.comp { s with orderCount := s.orderCount + 1 } k = s.comp k := rfl
  have site : State.site { s with orderCount := s.orderCount + 1 } = s.site := rfl
  unfold toldSupply
  rcases inAnyOrder_comps (supplyActs n good) k s with e | e <;> rw [e] <;>
    generalize ({ s with orderCount := s.orderCount + 1 } : State) = w at start site
  · obtain ⟨record, posted, freed⟩ := left w
    rw [stops w site (by rw [start]; exact st)]
    rw [modComp_comp_self, start] at record posted freed
    have spares : CompSpares k (enterStopping k (modComp k (Compressor.supplied n good) w)) (supplyActs n good (otherComp k)
        (enterStopping k (modComp k (Compressor.supplied n good) w))) := by
      refine supplyActs_spares (otherComp_ne k) fun b => ?_
      rw [record]
      rfl
    exact ⟨spares.comp.trans record, fun m => supplyActs_runs.posts _ (posted m), fun b p => spares.grant b (freed b p)⟩
  · have aside := supplyActs_awards (n := n) (good := good) (s := w) (otherComp_ne k)
    have kept : (supplyActs n good (otherComp k) w).site = s.site :=
      (congrArg Fixed.site supplyActs_runs.fixed).trans site
    generalize supplyActs n good (otherComp k) w = u at *
    obtain ⟨record, posted, freed⟩ := left u
    rw [modComp_comp_self] at record posted freed
    rw [Awarded, start] at aside
    rcases aside with same | ⟨recirc, same⟩
    · rw [stops u kept (by rw [same]; exact st)]
      rw [same] at record posted freed
      exact ⟨record, posted, freed⟩
    · rw [stops u kept (by rw [same]; rfl)]
      rw [same] at record posted freed
      exact ⟨record, fun _ => posted nofun, freed⟩

/-- A machine that takes no notice keeps its figure alone. -/
theorem toldSupply_rests (h : (s.comp k).state = .disabled ∨ (s.comp k).state = .tripped ∨ (s.comp k).state = .stopping) :
    (settle (toldSupply n good s)).comp k = (s.comp k).supplied n good := by
  have own (u : State) (e : u.comp k = s.comp k) : supplyActs n good k u = modComp k (Compressor.supplied n good) u := by
    have stays : (modComp k (Compressor.supplied n good) u).comp k = (s.comp k).supplied n good := by
      rw [modComp_comp_self, e]
    rw [supplyActs_eq]
    dsimp only
    rw [if_neg fun m => ?_, evalPermission_other ?_, ite_self]
    · rw [stays, Compressor.supplied]
      rcases h with h | h | h <;> rw [h] <;> nofun
    · have := stoppable_iff.mp m.1
      rw [e] at this
      rcases h with h | h | h <;> rw [h] at this <;> simp at this
  have quiet (u : State) (e : (u.comp k).state = (s.comp k).state) (b : BankId) : (u.comp k).waitsFor b = false := by
    unfold Compressor.waitsFor
    rcases h with h | h | h <;> rw [e, h] <;> rfl
  have told : (toldSupply n good s).comp k = (s.comp k).supplied n good := by
    have start : State.comp { s with orderCount := s.orderCount + 1 } k = s.comp k := rfl
    unfold toldSupply
    rcases inAnyOrder_comps (supplyActs n good) k s with e | e <;> rw [e] <;>
      generalize ({ s with orderCount := s.orderCount + 1 } : State) = w at start
    · rw [own w start]
      have record : (modComp k (Compressor.supplied n good) w).comp k = (s.comp k).supplied n good := by
        rw [modComp_comp_self, start]
      rw [(supplyActs_spares (otherComp_ne k) (quiet _ (by rw [record]; rfl))).comp, record]
    · have aside := (supplyActs_spares (n := n) (good := good) (otherComp_ne k) (quiet w (by rw [start]))).comp.trans start
      rw [own _ aside, modComp_comp_self, aside]
  have deaf : Deaf ((s.comp k).supplied n good) := by
    rcases h with h | h | h
    · exact .inl h
    · exact .inr (.inr (.inr h))
    · exact .inr (.inr (.inl h))
  rw [(settle_deaf (by rw [told]; exact deaf)).comp, told]

/-- Every machine's record with the supply pressure. -/
def State.supplied (s : State) (n : Nat) (good : Bool) : State := { s with cs := s.cs.map (Compressor.supplied n good) }

theorem supplied_comp : (s.supplied n good).comp k = (s.comp k).supplied n good := sel_map _ _ _

/-- A machine that neither stops nor waits for its start takes the figure alone. -/
theorem supplyActs_figure (h : good = true → s.site.params.supplyMin ≤ n) (g : good = true) (d : (s.comp j).state ≠ .startDeferred) :
    supplyActs n good j s = modComp j (Compressor.supplied n good) s := by
  rw [supplyActs_eq]
  dsimp only
  rw [if_neg fun m => absurd (m.2 g) (Nat.not_lt.mpr (h g)), evalPermission_other, ite_self]
  rw [modComp_comp_self]
  exact d

theorem toldSupply_figures (h : s.site.params.supplyMin ≤ n) (d : ∀ j, (s.comp j).state ≠ .startDeferred) :
    toldSupply n true s = { s.supplied n true with orderCount := s.orderCount + 1 } := by
  have acts (j : CompId) (u : State) (e : u.site = s.site) (f : (u.comp j).state ≠ .startDeferred) :
      supplyActs n true j u = modComp j (Compressor.supplied n true) u := supplyActs_figure (fun _ => by rw [e]; exact h) rfl f
  have both (a b : CompId) (ne : a ≠ b) : supplyActs n true b (supplyActs n true a { s with orderCount := s.orderCount + 1 }) =
      { s.supplied n true with orderCount := s.orderCount + 1 } := by
    rw [acts a { s with orderCount := s.orderCount + 1 } rfl (d a)]
    have other : (modComp a (Compressor.supplied n true) { s with orderCount := s.orderCount + 1 }).comp b = s.comp b :=
      sel_upd_ne _ _ _ _ ne
    rw [acts b (modComp a (Compressor.supplied n true) { s with orderCount := s.orderCount + 1 }) rfl (by rw [other]; exact d b)]
    have cs : upd (upd s.cs a ((s.comp a).supplied n true)) b ((s.comp b).supplied n true) =
        s.cs.map (Compressor.supplied n true) := by
      refine Vector.ext fun m hm => ?_
      have pick (v : Vector Compressor 2) : v[m] = sel v ⟨m, hm⟩ := rfl
      rw [pick, pick, sel_map]
      have either : (⟨m, hm⟩ : CompId) = a ∨ (⟨m, hm⟩ : CompId) = b := by
        have apart := Fin.val_ne_of_ne ne
        rw [Fin.ext_iff, Fin.ext_iff]
        omega
      rcases either with e | e <;> rw [e]
      · rw [sel_upd_ne _ _ _ _ ne.symm, sel_upd_self]
        rfl
      · rw [sel_upd_self]
        rfl
    have second : modComp b (Compressor.supplied n true) (modComp a (Compressor.supplied n true)
        { s with orderCount := s.orderCount + 1 }) = { s with
          cs := upd (upd s.cs a ((s.comp a).supplied n true)) b
            (((modComp a (Compressor.supplied n true) { s with orderCount := s.orderCount + 1 }).comp b).supplied n true)
          orderCount := s.orderCount + 1 } := rfl
    rw [second, other, cs]
    rfl
  unfold toldSupply
  rcases inAnyOrder_comps (supplyActs n true) 0 s with e | e <;> rw [e]
  · exact both _ _ (otherComp_ne 0).symm
  · exact both _ _ (otherComp_ne 0)

/-- Permission looks at the site, the machine and its trip line alone (R62). -/
theorem permitted_congr (si : t.site = s.site) (c : t.comp k = s.comp k) (l : t.lines = s.lines) :
    t.permitted k = s.permitted k := by
  unfold State.permitted State.combined
  rw [si, c, l]

/-- A deferred machine that may now start does, while the other takes the figure. -/
theorem toldSupply_starts (h : s.site.params.supplyMin ≤ n) (d : (s.comp k).state = .startDeferred)
    (o : (s.comp (otherComp k)).state ≠ .startDeferred) (c : (s.supplied n true).chooseBank k none = some b)
    (p : (s.supplied n true).permitted k = true) :
    (settle (toldSupply n true s)).comp k = ((s.comp k).supplied n true).starts s.site.clock b := by
  have own (u : State) (same : u = { s with cs := u.cs, orderCount := u.orderCount }) (mine : u.comp k = s.comp k)
      (their : (u.comp (otherComp k)).target = (s.comp (otherComp k)).target) :
      let w := modComp k (Compressor.supplied n true) u
      supplyActs n true k u = enterStarting k b w ∧ w.comp k = (s.comp k).supplied n true ∧ w.site = s.site ∧
        w.refill = s.refill := by
    intro w
    have record : w.comp k = (s.comp k).supplied n true := (modComp_comp_self ..).trans (by rw [mine])
    have site : w.site = s.site := by
      show u.site = s.site
      rw [same]
    have refill : w.refill = s.refill := by
      show u.refill = s.refill
      rw [same]
    have banks : w.banks = s.banks := by
      show u.banks = s.banks
      rw [same]
    have lines : w.lines = s.lines := by
      show u.lines = s.lines
      rw [same]
    have target : (w.comp (otherComp k)).target = ((s.supplied n true).comp (otherComp k)).target := by
      rw [supplied_comp, (CompLocal.refl u).modComp.comp _ (otherComp_ne k)]
      exact their
    have choice : w.chooseBank k none = some b := by
      rw [← c]
      exact chooseBank_congr refill banks target (by rw [record, supplied_comp])
    have allowed : w.permitted k = true := by
      rw [← p]
      exact permitted_congr site (by rw [record, supplied_comp]) lines
    have low : ¬ ((u.comp k).state.stoppable = true ∧ (true = true → n < u.site.params.supplyMin)) := fun m => by
      rw [mine, d] at m
      exact nomatch m.1
    refine ⟨?_, record, site, refill⟩
    rw [supplyActs_eq]
    dsimp only
    rw [if_neg low]
    exact evalPermission_starts (by rw [record]; exact d) b choice allowed
  have listed : b ∈ (s.supplied n true).refill := chooseBank_listed c
  have finish (v : State) (rec : v.comp k = ((s.comp k).supplied n true).starts s.site.clock b) (rf : v.refill = s.refill) :
      (settle v).comp k = ((s.comp k).supplied n true).starts s.site.clock b := by
    rw [(settle_starting (k := k) (b := b) (by rw [rec]; rfl) (by rw [rec]; rfl) (by rw [rf]; exact listed)).comp, rec]
  have figure (u : State) (e : u.site = s.site) (st : (u.comp (otherComp k)).state ≠ .startDeferred) :
      supplyActs n true (otherComp k) u = modComp (otherComp k) (Compressor.supplied n true) u :=
    supplyActs_figure (fun _ => by rw [e]; exact h) rfl st
  unfold toldSupply
  rcases inAnyOrder_comps (supplyActs n true) k s with e | e <;> rw [e]
  · obtain ⟨starts, record, site, refill⟩ := own { s with orderCount := s.orderCount + 1 } rfl rfl rfl
    have l : CompLocal k { s with orderCount := s.orderCount + 1 } (enterStarting k b
        (modComp k (Compressor.supplied n true) { s with orderCount := s.orderCount + 1 })) :=
      (CompLocal.refl _).modComp.enterStarting
    rw [starts, figure _ (by rw [l.site]) (by rw [l.comp _ (otherComp_ne k)]; exact o)]
    refine finish _ ?_ l.refill
    rw [(CompLocal.refl _).modComp.comp k (otherComp_ne k).symm, enterStarting_comp, record, site]
  · rw [figure { s with orderCount := s.orderCount + 1 } rfl o]
    have mine : (modComp (otherComp k) (Compressor.supplied n true) { s with orderCount := s.orderCount + 1 }).comp k = s.comp k :=
      (CompLocal.refl _).modComp.comp k (otherComp_ne k).symm
    obtain ⟨starts, record, site, refill⟩ := own
      (modComp (otherComp k) (Compressor.supplied n true) { s with orderCount := s.orderCount + 1 }) rfl mine
      (by rw [modComp_comp_self]; rfl)
    rw [starts]
    refine finish _ (by rw [enterStarting_comp, record, site]) ?_
    exact (CompLocal.refl _).enterStarting.refill.trans refill

/-! ### The other expiries (R63, R68, R69) -/

theorem historyAged_iff : s.historyAged k = true ↔
    ∃ h rest, (s.comp k).history = h :: rest ∧ 36000 ≤ (s.site.clock - h).toNat := by
  unfold State.historyAged
  cases (s.comp k).history with
  | nil => simp
  | cons h rest =>
    simp only [decide_eq_true_eq, List.cons.injEq]
    exact ⟨fun old => ⟨h, rest, ⟨rfl, rfl⟩, old⟩, fun ⟨_, _, ⟨e, _⟩, old⟩ => e ▸ old⟩

theorem minRunExpiry_idles (d : (s.comp k).minRun = some 0) (r : (s.comp k).state = .recirc) (p : (s.comp k).target = none)
    (box : s.csInbox = []) : exec (.minRunExpiry k) s = .next
      { s with cs := upd s.cs k { s.comp k with
                 state := .stopping, start := none, minRun := none, bankWait := none
                 runDown := some (s.comp k).entry.runDown }
               sli := { s.sli with summary := s.sli.summary ||| BitVec.twoPow 15 (7 + k.val) } } := by
  have e := exec_pos (c := .minRunExpiry k) (s := s) rfl ((due_iff _).mpr d)
  dsimp only at e
  rw [if_pos ⟨r, p⟩] at e
  have record : (modComp k (fun c => { c with minRun := none }) s).comp k = { s.comp k with minRun := none } := modComp_comp_self ..
  have stops : enterStopping k (modComp k (fun c => { c with minRun := none }) s) = _ :=
    enterStopping_idle (by rw [record]; exact p)
  rw [stops, record] at e
  refine (exec_settled e box).trans (congrArg _ ?_)
  unfold State.recomped
  rw [record, if_neg (by rw [r]; nofun)]
  have twice := upd_upd s.cs k { s.comp k with minRun := none } { s.comp k with
    state := .stopping, start := none, minRun := none, bankWait := none, runDown := some (s.comp k).entry.runDown }
  rw [← twice]
  rfl

/-- The run-down has ended. -/
theorem runDownEnd_rests :
    let t := settle (if (s.comp k).disablePending then enterDisabled k s else enterOff k s)
    t.banks = s.banks ∧ t.fixed = s.fixed ∧ (t.comp k).target = none ∧ (t.comp k).runDown = none ∧
      (t.comp k).disablePending = false ∧
      ((s.comp k).disablePending = true → (t.comp k).state = .disabled ∧ (t.comp k).minOff = none) ∧
      ((s.comp k).disablePending = false → ((t.comp k).state = .off ∨ (t.comp k).state = .startDeferred) ∧
        (t.comp k).minOff = some (s.comp k).entry.minOff) := by
  intro t
  have ran : Runs false s t := Runs.settle (Runs.ite (Runs.enterDisabled (Runs.refl s)) (Runs.enterOff (Runs.refl s)))
  have ends : t = if (s.comp k).disablePending then settle (enterDisabled k s) else settle (enterOff k s) := apply_ite settle _ _ _
  refine ⟨ran.banks rfl, ran.fixed, ?_⟩
  clear_value t
  cases pending : (s.comp k).disablePending with
  | true =>
    have record : t.comp k = { (s.comp k).rested with state := .disabled } := by
      rw [ends, pending]
      exact enterDisabled_rests k s
    rw [record]
    exact ⟨rfl, rfl, rfl, fun _ => ⟨rfl, rfl⟩, nofun⟩
  | false =>
    rw [pending] at ends
    have rests := enterOff_rests k s
    rw [← show t = settle (enterOff k s) from ends] at rests
    rcases rests with record | record <;> rw [record]
    · exact ⟨rfl, rfl, rfl, nofun, fun _ => ⟨.inl rfl, rfl⟩⟩
    · exact ⟨rfl, rfl, rfl, nofun, fun _ => ⟨.inr rfl, rfl⟩⟩

theorem exec_csBankWait (p : (s.comp k).target = some b) : exec (.csBankWaitExpiry k) s =
    .next (if due (s.comp k).bankWait = true ∧ (s.comp k).state = .recirc then settle (csBankWaitEnd k b s) else s) := by
  show execCsBankWaitExpiry k s = _
  unfold execCsBankWaitExpiry
  rw [p]
theorem exec_csBankWait_idle (p : (s.comp k).target = none) : exec (.csBankWaitExpiry k) s = .next s := by
  show execCsBankWaitExpiry k s = _
  unfold execCsBankWaitExpiry
  rw [p]

theorem csBankWaitEnd_refill : (csBankWaitEnd k b s).refill = s.refill := by
  have aside : Spares false (fun _ => False) s (modComp k (fun c => { c with bankWait := none }) s) :=
    (sparesNone s).modComp fun _ => ⟨rfl, rfl⟩
  exact aside.withdrawBank.setTarget.seek.refill

theorem toldSupply_runs : Runs false s (toldSupply n good s) := by
  refine Runs.inAnyOrder (fun f m u run => ?_) (Runs.refl s)
  obtain ⟨j, -, rfl⟩ := List.mem_map.mp m
  exact run.trans supplyActs_runs

theorem settle_toldSupply_figures (h : s.site.params.supplyMin ≤ n) (d : ∀ j, (s.comp j).state ≠ .startDeferred)
    (box : s.csInbox = []) :
    settle (toldSupply n true s) = { s.supplied n true with orderCount := s.orderCount + 1 } := by
  rw [toldSupply_figures h d]
  exact settle_nil _ box

/-- What stopping at the supply pressure leaves, with the notices after it. -/
theorem settle_toldSupply_stops (st : (s.comp k).state = .starting ∨ (s.comp k).state = .recirc ∨ (s.comp k).state = .filling)
    (low : good = true → n < s.site.params.supplyMin) :
    let t := settle (toldSupply n good s)
    t.banks = s.banks ∧ t.chans = s.chans ∧ t.sli.summary.getLsbD (7 + k.val) = true ∧
      t.comp k = ((s.comp k).supplied n good).stopped ∧ ∀ b, (s.comp k).target = some b → t.holderOf b ≠ some (csReq k) := by
  have ran : Runs false s (settle (toldSupply n good s)) := Runs.settle toldSupply_runs
  obtain ⟨record, posted, freed⟩ := toldSupply_stops (stoppable_iff.mpr st) low
  refine ⟨ran.banks rfl, congrArg Fixed.chans ran.fixed, posted ?_, record, freed⟩
  rcases st with st | st | st <;> rw [st] <;> nofun

theorem eq_otherComp (n : j ≠ k) : j = otherComp k := by
  revert j k
  decide

/-- Settles O44. -/
theorem compressorTimers : Obligations.CompressorTimers := by
  unfold Obligations.CompressorTimers
  intro s k box c atRest decides
  have decide {i : Instr} {s1 : State} (e : exec i s = .next (settle (evalPermission k s1))) (box : s1.csInbox = [])
      (st : (s1.comp k).state = c.state) (en : (s1.comp k).entry = c.entry) (bk : s1.banks = s.banks)
      (si : s1.site = s.site) : decides i s1 := by
    have dec := evalPermission_decides (k := k) box
    refine ⟨fun n => e.trans (congrArg _ (dec.stays (by rw [st]; exact n))), fun d => ⟨_, e, dec.banks.trans bk, dec.fixed,
      fun no => ?_, fun b ch no => dec.waits (st.trans d) b ch no, fun b ch yes => ?_⟩⟩
    · rw [dec.drops (st.trans d) no]
      exact ⟨rfl, rfl⟩
    · rw [dec.starts (st.trans d) b ch yes, Compressor.starts, en, si]
  have recomp (f : Compressor → Compressor) : State.comp { s with cs := upd s.cs k (f c) } k = f c := sel_upd_self ..
  have timer {t : Timer} (h : t ≠ some 0) : ¬ due t = true := fun d => h ((due_iff _).mp d)
  have start : Runs false s (settle (endStart k s)) := Runs.settle Runs.endStart
  refine ⟨fun d => ?_, fun d => ?_, fun h rest e old => ?_, fun young => ?_, fun b d st p us e => ?_, fun d st p => ?_,
    fun b d st p us o => ?_, fun no => ?_, fun b d r p a m l o => ?_, fun no => ?_, fun d no => ?_,
    fun d r p => minRunExpiry_idles d r p box, fun d => ?_, fun d st _ => ?_, fun no => ?_, ?_⟩
  · refine decide (exec_pos rfl ((due_iff _).mpr d)) box ?_ ?_ rfl rfl <;> rw [recomp fun c => { c with minOff := none }]
  · exact exec_neg rfl (timer d)
  · have aged := exec_pos (c := .startHistoryAgeing k) (s := s) rfl (historyAged_iff.mpr ⟨h, rest, e, old⟩)
    have drop : (modComp k (fun c => { c with history := c.history.drop 1 }) s) =
        { s with cs := upd s.cs k { c with history := rest } } := by
      show ({ s with cs := upd s.cs k { s.comp k with history := (s.comp k).history.drop 1 } } : State) = _
      rw [e]
      rfl
    rw [drop] at aged
    refine decide aged box ?_ ?_ rfl rfl <;> rw [recomp fun c => { c with history := rest }]
  · refine exec_neg rfl fun aged => ?_
    obtain ⟨h, rest, e, old⟩ := historyAged_iff.mp aged
    exact absurd old (Nat.not_le.mpr (young h rest e))
  · obtain ⟨takes, waits⟩ := endStart_asks p us e box
    exact ⟨_, exec_pos rfl ⟨(due_iff _).mpr d, st⟩, start.banks rfl, start.fixed, takes, waits⟩
  · refine (exec_pos (c := .startTimerExpiry k) rfl ⟨(due_iff _).mpr d, st⟩).trans (congrArg _ ((endStart_idle p box).trans ?_))
    unfold recirculates State.recomped
    rw [if_neg (by rw [st]; nofun)]
  · have deaf : Deaf (s.comp (otherComp k)) := by
      rcases o with o | o | o | o
      · exact .inl o
      · exact .inr (.inr (.inr o))
      · exact .inr (.inr (.inl o))
      · exact .inr (.inl o)
    obtain ⟨idle, asks⟩ := endStart_rejected p us box deaf
    exact ⟨_, exec_pos rfl ⟨(due_iff _).mpr d, st⟩, start.banks rfl, start.fixed, idle, asks⟩
  · exact exec_neg rfl fun ⟨d, st⟩ => no.elim (fun h => h ((due_iff _).mp d)) fun h => h st
  · have deaf : Deaf (s.comp (otherComp k)) := by
      rcases o with o | o | o
      · exact .inl o
      · exact .inr (.inr (.inr o))
      · exact .inr (.inr (.inl o))
    have ran : Runs false s (settle (csBankWaitEnd k b s)) := Runs.settle Runs.csBankWaitEnd
    have ex : exec (.csBankWaitExpiry k) s = .next (settle (csBankWaitEnd k b s)) :=
      (exec_csBankWait p).trans (congrArg _ (if_pos ⟨(due_iff _).mpr d, r⟩))
    exact ⟨_, ex, ran.banks rfl, settle_refill.trans csBankWaitEnd_refill, ran.fixed, csBankWaitEnd_leaves a m r l box deaf⟩
  · cases p : (s.comp k).target with
    | none => exact exec_csBankWait_idle p
    | some b => exact (exec_csBankWait p).trans (congrArg _
        (if_neg fun ⟨d, r⟩ => no.elim (fun h => h ((due_iff _).mp d)) fun h => h r))
  · refine (exec_pos (c := .minRunExpiry k) rfl ((due_iff _).mpr d)).trans (congrArg _ ?_)
    exact if_neg fun ⟨r, p⟩ => no.elim (fun h => h r) fun h => h p
  · exact exec_neg rfl (timer d)
  · exact ⟨_, exec_pos rfl ⟨(due_iff _).mpr d, st⟩, runDownEnd_rests⟩
  · exact exec_neg rfl fun ⟨d, st⟩ => no.elim (fun h => h ((due_iff _).mp d)) fun h => h st
  · intro running trips stops
    have trip {i : Instr} {s1 : State} {cause : TripCause} (e : exec i s = .next (settle (tripIfRunning k cause s1)))
        (st : (s1.comp k).state = c.state) (tg : (s1.comp k).target = c.target) (bk : s1.banks = s.banks) :
        trips i s1 cause := by
      intro run
      obtain ⟨banks, fixed, posted, record, freed⟩ := settle_tripped (k := k) (s := s1) (cause := cause)
        (running_iff_states.mpr (by rw [st]; exact run))
      exact ⟨_, e, banks.trans bk, fixed, posted, record, fun b p => freed b (tg.trans p)⟩
    refine ⟨fun ch i v x del => ?_, fun ch i x fall => ?_, fun ch i v x del => ?_, fun ch i x fall => ?_⟩
    · intro s1
      have e : exec i s = .next (settle (dischargeSample v k { s with chans := upd s.chans ch x })) := exec_delivers del nofun
      have record : s1.comp k = { c with discharge := v, dischargeGood := true } := sel_upd_self ..
      refine ⟨fun h => ?_, fun h run => ?_, fun h no d => ?_⟩
      · rw [dischargeSample_within (s := { s with chans := upd s.chans ch x }) h] at e
        exact decide (s1 := s1) e box (by rw [record]) (by rw [record]) rfl rfl
      · have d : c.state ≠ .startDeferred := by
          rcases run with r | r | r | r <;> rw [r] <;> nofun
        rw [dischargeSample_beyond (s := { s with chans := upd s.chans ch x }) h d] at e
        exact trip (s1 := s1) e (by rw [record]) (by rw [record]) rfl run
      · rw [dischargeSample_beyond (s := { s with chans := upd s.chans ch x }) h d] at e
        refine e.trans (congrArg _ (settle_untripped (s := s1) (fun run => no ?_) box))
        rw [record] at run
        exact running_iff_states.mp run
    · intro s1
      have e : exec i s = .next (settle (tripIfRunning k .dischargeSensor s1)) := exec_falls fall nofun
      have record : s1.comp k = { c with discharge := x.value, dischargeGood := false } := sel_upd_self ..
      refine ⟨trip e (by rw [record]) (by rw [record]) rfl, fun no => ?_⟩
      refine e.trans (congrArg _ (settle_untripped (s := s1) (fun run => no ?_) box))
      rw [record] at run
      exact running_iff_states.mp run
    · intro s1 o
      have e : exec i s = .next (settle (toldSupply v true { s with chans := upd s.chans ch x })) := exec_delivers del nofun
      have record : s1.comp k = c.supplied v true := supplied_comp (s := { s with chans := upd s.chans ch x })
      refine ⟨fun low st => ?_, fun ⟨rest, filling⟩ => ⟨_, e, ?_⟩, fun high d d' => ⟨_, e, ?_⟩,
        fun b high d d' choice allowed => ⟨_, e, ?_⟩⟩
      · obtain ⟨banks, chans, posted, rec, freed⟩ := settle_toldSupply_stops (s := { s with chans := upd s.chans ch x })
          (k := k) (n := v) (good := true) st fun _ => low
        rw [record]
        exact ⟨_, e, banks, chans, posted, rec, freed⟩
      · rw [record]
        refine toldSupply_rests (s := { s with chans := upd s.chans ch x }) ?_
        rcases rest with r | r | r | r
        · exact .inl r
        · exact .inr (.inl r)
        · exact .inr (.inr r)
        · exact absurd r filling
      · have all : ∀ j, (State.comp { s with chans := upd s.chans ch x } j).state ≠ .startDeferred := fun j => by
          by_cases same : j = k
          · rw [same]
            exact d
          · rw [eq_otherComp same]
            exact d'
        rw [settle_toldSupply_figures (s := { s with chans := upd s.chans ch x }) high all box]
        rfl
      · rw [record]
        exact toldSupply_starts (s := { s with chans := upd s.chans ch x }) high d d' choice allowed
    · intro c1
      have e : exec i s = .next (settle (toldSupply x.value false (s.fallen ch x))) := exec_falls fall nofun
      refine ⟨fun st => ?_, fun ⟨rest, filling⟩ => ⟨_, e, ?_⟩⟩
      · obtain ⟨banks, chans, posted, rec, freed⟩ := settle_toldSupply_stops (s := s.fallen ch x) (k := k) (n := x.value)
          (good := false) st nofun
        exact ⟨_, e, banks, chans, posted, rec, freed⟩
      · refine toldSupply_rests (s := s.fallen ch x) ?_
        rcases rest with r | r | r | r
        · exact .inl r
        · exact .inr (.inl r)
        · exact .inr (.inr r)
        · exact absurd r filling

end Sys2Proof.Machine
end

section
/-!
PROOFS. The supply fails: every fill is saved, and the part stands halted (11.5, for O47).
-/
namespace Sys2Proof.Machine

variable {i j : FpId} {k : CompId} {s t u v : State} {r : Reason}

/-! ### A fill wound up as the supply fails (R117, R194) -/

/-- A fill as its record is handed over where BKA is empty: nothing else has moved, and its reason stands. -/
structure WoundAlone (i : FpId) (r : Reason) (u y : State) : Prop where
  alone : Local i u y
  wound : WoundUp i u y
  auth : (y.meter i).auth = (u.meter i).auth
  reason : (y.fp i).reason = if (u.fp i).fill = .settling then (u.fp i).reason else some r

theorem windUp_alone {b : Bool} (free : ∀ b, u.holderOf b = none ∧ u.stackedAt b = [])
    (h : (u.fp i).fill.running = true ∨ (u.fp i).fill = .settling) :
    ∃ y, WoundAlone i r u y ∧ windUp i r b u =
      handOver i (if (u.fp i).fill = .settling then (u.fp i).reason.getD r else r) b y := by
  have early (n : (u.fp i).fill ≠ .settling) : WoundAlone i r u
      (endLink i (modFp i (fun f => { f with acquisition := none }) (takeReason i r u))) := by
    refine ⟨(Local.refl u).takeReason.modFp.endLink, (takeReason_wound.trans (.of_same (by simp [Runs.refl]) rfl : WoundUp i
      (takeReason i r u) (modFp i (fun f => { f with acquisition := none }) (takeReason i r u)))).trans
      (.of_same (Runs.refl _).modLink rfl), takeReason_auth r, ?_⟩
    rw [if_neg n, endLink, modLink_fp, modFp_fp_self, takeReason_fp]
  have late (n : (u.fp i).fill ≠ .settling) : WoundAlone i r u (stopFill i r u) := by
    have before : Local i u (modFp i Fps.closed (closeDraw i (takeReason i r u))) := (Local.refl u).takeReason.closeDraw.modFp
    have e : stopFill i r u = endLink i (modFp i Fps.closed (closeDraw i (takeReason i r u))) := by
      rw [stopFill, letGoOfBank_free (before.free free)]
    refine ⟨by rw [e]; exact before.endLink, stopFill_wound, ?_, ?_⟩
    · rw [e, endLink, modLink_meter, modFp_meter, closeDraw, modTxn, modMeter_meter_self]
      exact takeReason_auth r
    · rw [if_neg n, e, endLink, modLink_fp, modFp_fp_self, closeDraw, modTxn, modMeter_fp, takeReason_fp]
      rfl
  unfold windUp
  cases e : (u.fp i).fill with
  | linkWait => exact ⟨_, early (by rw [e]; nofun), rfl⟩
  | precoolWait => exact ⟨_, early (by rw [e]; nofun), rfl⟩
  | leakCheck => exact ⟨_, late (by rw [e]; nofun), rfl⟩
  | filling => exact ⟨_, late (by rw [e]; nofun), rfl⟩
  | settling =>
    refine ⟨modFp i (fun f => { f with settle := none }) u, ⟨(Local.refl u).modFp, .of_same (by simp [Runs.refl]) rfl, rfl, ?_⟩, rfl⟩
    rw [modFp_fp_self, if_pos e]
  | idle | venting | complete | fault => rw [e] at h; rcases h with h | h <;> cases h

/-- Where nobody waits and the chiller may not run, a release empties the record alone (R88). -/
theorem releaseReservation_stopped (st : Stopped u) (nw : (u.reservation i).state ≠ .waiting) :
    releaseReservation i u = if (u.reservation i).state = .admitted then modReservation i (fun _ => Reservation.empty) u else u := by
  have still (w : State) (site : w.site = u.site) (waits : w.pcm.waitList = []) (chill : w.pcm.chiller = u.pcm.chiller) :
      afterFall w = w := by
    have idle : evalChiller w = w := by
      rw [evalChiller_eq]
      have same : w.chillerNext = w.pcm.chiller := by
        cases c : w.pcm.chiller with
        | idle =>
          refine chillerNext_rests c fun ⟨on, _⟩ => ?_
          have closed := st.closed
          rw [← site] at closed
          rcases on with on | on <;> rw [on] at closed <;> cases closed
        | running => exact absurd (chill.symm.trans c) st.chiller
        | disabled => exact (chillerNext_out (.inl c)).trans c
        | tripped => exact (chillerNext_out (.inr c)).trans c
      rw [same, chilled_self]
    unfold afterFall
    rw [evalHead_empty waits, idle, ite_self]
  unfold releaseReservation
  dsimp only
  cases e : (u.reservation i).state with
  | admitted =>
    rw [if_pos rfl]
    dsimp only
    rw [still (modReservation i (fun _ => Reservation.empty) u) rfl st.waits rfl, ite_self]
  | waiting => exact absurd e nw
  | noRecord => exact (if_neg fun h => nomatch h).symm

/-- What one fuelling point does as the supply fails: no other moves, records are added, and the image stays marked. -/
structure DownStep (i : FpId) (u v : State) : Prop where
  stopped : Stopped v
  site : v.site = u.site
  fp : ∀ j, j ≠ i → v.fp j = u.fp j
  meter : ∀ j, j ≠ i → v.meter j = u.meter j
  records : ∀ j, j ≠ i → v.reservation j = u.reservation j
  waits : (v.reservation i).state ≠ .waiting
  queue : ∃ l, v.cqr.queue = u.cqr.queue ++ l
  write : u.cqr.write ≠ none → v.cqr.write = u.cqr.write ∧ (u.cqr.pendingChange = true → v.cqr.pendingChange = true)

/-- The record of `i` that the supply's failure loads (R117). -/
structure SavedRecord (i : FpId) (f : Fps) (x : Txn) (q : Record) : Prop where
  fp : q.fp = i
  powerSaved : q.flags.powerSaved = true
  price : q.price = x.price
  mass : q.mass = x.mass
  amount : q.amount = amountOf x.mass x.price
  draw : ∀ e ∈ q.draw, e.closeP ≠ none
  running : f.fill.running = true → q.reason = .powerFail
  settling : ∀ r, f.fill = .settling → f.reason = some r → q.reason = r

/-- What the supply's failure makes of fuelling point `i`. -/
structure Downed (i : FpId) (f : Fps) (m : Meter) (v : State) : Prop where
  ended : f.fill.running = true → (v.fp i).fill = .fault ∧ (v.fp i).reason = some .powerFail
  settled : f.fill = .settling → (v.fp i).fill = .fault ∧ (v.fp i).reason = f.reason
  venting : f.fill = .venting → (v.fp i).fill = .fault ∧ (v.fp i).vent = none
  rest : f.fill = .idle ∨ f.fill = .complete ∨ f.fill = .fault → (v.fp i).fill = f.fill
  saved : ∀ x, f.fill.running = true ∨ f.fill = .settling → m.txn = some x →
    (v.meter i).auth = Auth.empty ∧ (v.meter i).window = false ∧ (v.reservation i).state = .noRecord ∧
      ∃ q ∈ v.cqr.queue, SavedRecord i f x q

/-- Another's step does not undo it. -/
theorem Downed.step {f : Fps} {m : Meter} (h : Downed i f m u) (d : DownStep j u v) (n : i ≠ j) : Downed i f m v := by
  obtain ⟨l, more⟩ := d.queue
  have fp := d.fp i n
  refine ⟨by rw [fp]; exact h.ended, by rw [fp]; exact h.settled, by rw [fp]; exact h.venting, by rw [fp]; exact h.rest,
    fun x live e => ?_⟩
  obtain ⟨auth, window, record, q, mem, saved⟩ := h.saved x live e
  rw [d.meter i n, d.records i n]
  exact ⟨auth, window, record, q, by rw [more]; exact List.mem_append_left _ mem, saved⟩

/-- Once its fill has been wound up, it stands in FAULT and its reservation is released. -/
theorem faulted_steps {w : State} (st : Stopped u) (nw : (u.reservation i).state ≠ .waiting) (l : Local i u w)
    (auth : (w.meter i).auth = (u.meter i).auth ∨ (w.meter i).auth = Auth.empty) (queue : ∃ l, w.cqr.queue = u.cqr.queue ++ l)
    (write : u.cqr.write ≠ none → w.cqr.write = u.cqr.write ∧ (u.cqr.pendingChange = true → w.cqr.pendingChange = true)) :
    let v := releaseReservation i (setFill i .fault w)
    DownStep i u v ∧ (v.fp i) = { w.fp i with fill := .fault, sub := none } ∧ v.meter i = w.meter i ∧ v.cqr = w.cqr ∧
      (v.reservation i).state = .noRecord := by
  intro v
  have lx : Local i u (setFill i .fault w) := l.setFill
  have stx : Stopped (setFill i .fault w) := lx.stopped st (by rw [setFill_meter]; exact auth)
  have res (j : FpId) : (setFill i .fault w).reservation j = u.reservation j := by rw [State.reservation, lx.pcm]; rfl
  have e : v = _ := releaseReservation_stopped (i := i) stx (by rw [res]; exact nw)
  have fp : (setFill i .fault w).fp i = { w.fp i with fill := .fault, sub := none } := by
    rw [setFill_fp]
    rfl
  have meter : (setFill i .fault w).meter i = w.meter i := setFill_meter ..
  have cqr : (setFill i .fault w).cqr = w.cqr := setFill_cqr ..
  clear_value v
  generalize setFill i .fault w = x at *
  by_cases a : (x.reservation i).state = .admitted
  · rw [if_pos a] at e
    subst e
    refine ⟨⟨⟨stx.closed, stx.banks, stx.waits, stx.chiller, stx.sales⟩, lx.site, lx.fp, lx.meter, fun j n => ?_, ?_, ?_, ?_⟩,
      fp, meter, cqr, ?_⟩
    · rw [modReservation_reservation_ne _ _ _ _ n.symm, res]
    · rw [modReservation_reservation_self]
      nofun
    · rw [modReservation_cqr, cqr]
      exact queue
    · rw [modReservation_cqr, cqr]
      exact write
    · rw [modReservation_reservation_self]
      rfl
  · rw [if_neg a] at e
    subst e
    refine ⟨⟨stx, lx.site, lx.fp, lx.meter, fun j _ => res j, by rw [res]; exact nw, by rw [cqr]; exact queue,
      by rw [cqr]; exact write⟩, fp, meter, cqr, ?_⟩
    cases q : (v.reservation i).state with
    | admitted => exact absurd q a
    | waiting => exact absurd ((congrArg Reservation.state (res i)).symm.trans q) nw
    | noRecord => rfl

/-- A hand-over adds to the queue, and leaves the image marked where a write was under way. -/
theorem handOver_appends {b : Bool} : (∃ l, (handOver i r b s).cqr.queue = s.cqr.queue ++ l) ∧
    (s.cqr.write ≠ none → (handOver i r b s).cqr.write = s.cqr.write ∧
      (s.cqr.pendingChange = true → (handOver i r b s).cqr.pendingChange = true)) := by
  cases h : (s.meter i).txn with
  | none =>
    have e : ((closeDraw i (modMeter i (fun m => { m with window := false }) s)).meter i).txn = none := by
      rw [closeDraw_eq, modTxn_eq, modMeter_meter_self, modMeter_meter_self, h]
      rfl
    have cqr : (handOver i r b s).cqr = s.cqr := by
      unfold handOver
      dsimp only
      rw [e]
      rfl
    rw [cqr]
    exact ⟨⟨[], (List.append_nil _).symm⟩, fun _ => ⟨rfl, id⟩⟩
  | some x =>
    obtain ⟨-, -, ⟨q, queue, -⟩, -, marked⟩ := handOver_hands (r := r) (b := b) h
    exact ⟨⟨[q], queue⟩, fun w => ⟨(marked w).1, fun _ => (marked w).2⟩⟩

/-- A fill that runs or settles. -/
theorem powerdownFp_live (st : Stopped u) (nw : (u.reservation i).state ≠ .waiting)
    (live : (u.fp i).fill.running = true ∨ (u.fp i).fill = .settling) :
    DownStep i u (powerdownFp i u) ∧ Downed i (u.fp i) (u.meter i) (powerdownFp i u) := by
  obtain ⟨y, alone, e⟩ := windUp_alone (i := i) (r := .powerFail) (b := true) st.banks live
  have down : powerdownFp i u = releaseReservation i (setFill i .fault (windUp i .powerFail true u)) := by
    unfold powerdownFp
    cases f : (u.fp i).fill with
    | idle | complete | fault =>
      rw [f] at live
      exact live.elim nofun nofun
    | linkWait | precoolWait | leakCheck | filling | settling | venting => rfl
  have fault : (u.fp i).fill ≠ .idle ∧ (u.fp i).fill ≠ .venting ∧ (u.fp i).fill ≠ .complete ∧ (u.fp i).fill ≠ .fault := by
    refine ⟨?_, ?_, ?_, ?_⟩ <;> intro f <;> rw [f] at live <;> exact live.elim nofun nofun
  generalize reason : (if (u.fp i).fill = .settling then (u.fp i).reason.getD .powerFail else .powerFail) = why at e
  have auth := handOver_auth (i := i) (u := y) why true
  obtain ⟨queue, write⟩ := handOver_appends (i := i) (r := why) (b := true) (s := y)
  rw [← e, alone.auth] at auth
  rw [← e, alone.wound.cqr] at queue write
  have fp : (windUp i .powerFail true u).fp i = y.fp i := by rw [e, handOver_fp]
  obtain ⟨step, stands, meter, cqr, record⟩ := faulted_steps st nw (windUp_local (r := .powerFail) (b := true) st.banks) auth
    queue write
  rw [← down] at step stands meter cqr record
  rw [fp] at stands
  refine ⟨step, ?_⟩
  refine ⟨fun run => ?_, fun settles => ?_, fun v => absurd v fault.2.1, fun rest => ?_, fun x _ hx => ?_⟩
  · have n : (u.fp i).fill ≠ .settling := fun f => by
      rw [f] at run
      cases run
    rw [stands]
    exact ⟨rfl, alone.reason.trans (if_neg n)⟩
  · rw [stands]
    exact ⟨rfl, alone.reason.trans (if_pos settles)⟩
  · exact (rest.elim fault.1 fun rest => rest.elim fault.2.2.1 fault.2.2.2).elim
  · obtain ⟨z, hz, price, mass⟩ := alone.wound.txn x hx
    obtain ⟨empty, -, ⟨q, loaded, -, qfp, qreason, qprice, qmass, qamount, -, -, qsaved, qdraw⟩, -⟩ :=
      handOver_hands (r := why) (b := true) hz
    have window := handOver_window (i := i) (r := why) (b := true) (s := y)
    rw [← e] at empty loaded window
    rw [meter]
    refine ⟨empty, window, record, q, ?_, ⟨qfp, by rw [qsaved, Bool.or_true], qprice.trans price, qmass.trans mass, ?_, qdraw,
      fun run => ?_, fun r f had => ?_⟩⟩
    · rw [cqr, loaded]
      exact List.mem_append_right _ List.mem_cons_self
    · rw [qamount, price, mass]
    · rw [qreason, ← reason, if_neg fun f => ?_]
      rw [f] at run
      cases run
    · rw [qreason, ← reason, if_pos f, had]
      rfl

/-- A fill that vents. -/
theorem powerdownFp_venting (st : Stopped u) (nw : (u.reservation i).state ≠ .waiting) (f : (u.fp i).fill = .venting) :
    DownStep i u (powerdownFp i u) ∧ Downed i (u.fp i) (u.meter i) (powerdownFp i u) := by
  have down : powerdownFp i u = releaseReservation i (setFill i .fault (modFp i (fun f => { f with vent := none }) u)) := by
    unfold powerdownFp windUp
    rw [f]
  obtain ⟨step, stands, -⟩ := faulted_steps (w := modFp i (fun f => { f with vent := none }) u) st nw (Local.refl u).modFp
    (.inl rfl) ⟨[], (List.append_nil _).symm⟩ fun _ => ⟨rfl, id⟩
  rw [← down, modFp_fp_self] at stands
  rw [← down] at step
  refine ⟨step, ?_, ?_, fun _ => by rw [stands]; exact ⟨rfl, rfl⟩, ?_, ?_⟩ <;> rw [f]
  · nofun
  · nofun
  · rintro (f | f | f) <;> cases f
  · rintro x (f | f) <;> cases f

theorem powerdownFp_downs (st : Stopped u) (nw : (u.reservation i).state ≠ .waiting) :
    DownStep i u (powerdownFp i u) ∧ Downed i (u.fp i) (u.meter i) (powerdownFp i u) := by
  have stays (f : (u.fp i).fill = .idle ∨ (u.fp i).fill = .complete ∨ (u.fp i).fill = .fault) :
      DownStep i u u ∧ Downed i (u.fp i) (u.meter i) u := by
    refine ⟨⟨st, rfl, fun _ _ => rfl, fun _ _ => rfl, fun _ _ => rfl, nw, ⟨[], (List.append_nil _).symm⟩, fun _ => ⟨rfl, id⟩⟩,
      ?_, ?_, ?_, fun _ => rfl, fun _ live _ => ?_⟩
    · intro run
      rcases f with f | f | f <;> rw [f] at run <;> cases run
    · intro run
      rcases f with f | f | f <;> rw [f] at run <;> cases run
    · intro run
      rcases f with f | f | f <;> rw [f] at run <;> cases run
    · rcases f with f | f | f <;> rw [f] at live <;> exact live.elim nofun nofun
  cases f : (u.fp i).fill with
  | idle | complete | fault =>
    have same : powerdownFp i u = u := by
      unfold powerdownFp
      rw [f]
    rw [same]
    exact stays (by simp [f])
  | venting => exact powerdownFp_venting st nw f
  | settling => exact powerdownFp_live st nw (.inr f)
  | linkWait | precoolWait | leakCheck | filling => exact powerdownFp_live st nw (.inl (by rw [f]; rfl))

/-! ### The halt of the part as the supply fails (R194) -/

theorem cancelAll_cqr (l : List FpId) (u : State) :
    ∃ n, (l.foldl (fun s i => cancelAuthorization i s) u).cqr = { u.cqr with slots := n } := by
  induction l generalizing u with
  | nil => exact ⟨u.cqr.slots, rfl⟩
  | cons i l ih =>
    obtain ⟨n, e⟩ := ih (cancelAuthorization i u)
    have one : ∃ m, (cancelAuthorization i u).cqr = { u.cqr with slots := m } := by
      unfold cancelAuthorization
      split
      · exact ⟨_, rfl⟩
      · exact ⟨u.cqr.slots, rfl⟩
    obtain ⟨m, e'⟩ := one
    exact ⟨n, by rw [List.foldl_cons, e, e']⟩

/-- What the first three blocks keep at a halt: the sales, the queue and its image; nobody waits for cold. -/
theorem haltBlocks_keeps : (∃ n, (haltBlocks s).cqr = { s.cqr with slots := n }) ∧
    (∀ i, ((haltBlocks s).meter i).txn = (s.meter i).txn) ∧ ∀ i, ((haltBlocks s).reservation i).state ≠ .waiting := by
  have before : (chillerHeldIdle (emptyWaitList (emptyArbiter s))).cqr = s.cqr ∧
      (chillerHeldIdle (emptyWaitList (emptyArbiter s))).mtu = s.mtu ∧
      (chillerHeldIdle (emptyWaitList (emptyArbiter s))).pcm.records =
        s.pcm.records.map (fun r => if r.state = .waiting then Reservation.empty else r) := by
    unfold chillerHeldIdle
    split
    · rw [setChiller_eq]
      exact ⟨rfl, rfl, rfl⟩
    all_goals exact ⟨rfl, rfl, rfl⟩
  unfold haltBlocks
  generalize chillerHeldIdle (emptyWaitList (emptyArbiter s)) = w at *
  obtain ⟨cqr, mtu, records⟩ := before
  have cancelled := cancelAll_cancels allFps w
  obtain ⟨n, slots⟩ := cancelAll_cqr allFps w
  refine ⟨⟨n, by rw [slots, cqr]⟩, fun i => ?_, fun i => ?_⟩
  · rw [(cancelled.txn i).1, State.meter, mtu]
    rfl
  · have same : (allFps.foldl (fun s i => cancelAuthorization i s) w).pcm = w.pcm := by rw [cancelled.rest]
    rw [State.reservation, same, records, sel_map]
    split
    · nofun
    · assumption

/-- One of the events a failing supply brings: the image's mark, or a fuelling point. -/
def downEvent : Option FpId → State → State
  | none => markChange
  | some i => powerdownFp i

/-- How far the events of a failing supply have come from `s`, those of `l` being still to come. -/
structure GoingDown (s : State) (site : Site) (l : List (Option FpId)) (u : State) : Prop where
  distinct : l.Nodup
  stopped : Stopped u
  site : u.site = site
  waits : ∀ i, (u.reservation i).state ≠ .waiting
  todo : ∀ i, some i ∈ l → u.fp i = s.fp i ∧ (u.meter i).txn = (s.meter i).txn
  done : ∀ i, some i ∉ l → Downed i (s.fp i) (s.meter i) u
  queue : ∃ l, u.cqr.queue = s.cqr.queue ++ l
  write : s.cqr.write ≠ none → u.cqr.write = s.cqr.write
  marked : none ∉ l → u.cqr.write ≠ none ∧ (s.cqr.write ≠ none → u.cqr.pendingChange = true)

theorem Downed.same {f : Fps} {m : Meter} (h : Downed i f m u) (fp : v.fp i = u.fp i) (meter : v.meter i = u.meter i)
    (record : v.reservation i = u.reservation i) (queue : v.cqr.queue = u.cqr.queue) : Downed i f m v := by
  refine ⟨by rw [fp]; exact h.ended, by rw [fp]; exact h.settled, by rw [fp]; exact h.venting, by rw [fp]; exact h.rest, ?_⟩
  rw [meter, record, queue]
  exact h.saved

/-- What is asked of a meter is its transaction. -/
theorem Downed.txn {f : Fps} {m m' : Meter} (h : Downed i f m u) (e : m.txn = m'.txn) : Downed i f m' u :=
  ⟨h.ended, h.settled, h.venting, h.rest, by rw [← e]; exact h.saved⟩

theorem GoingDown.order {site : Site} {l : List (Option FpId)} {n : Nat} (h : GoingDown s site l u) :
    GoingDown s site l { u with orderCount := n } :=
  ⟨h.distinct, ⟨h.stopped.closed, h.stopped.banks, h.stopped.waits, h.stopped.chiller, h.stopped.sales⟩, h.site, h.waits, h.todo,
    fun i out => (h.done i out).same rfl rfl rfl rfl, h.queue, h.write, h.marked⟩

theorem GoingDown.marks {site : Site} {l l' : List (Option FpId)} (h : GoingDown s site l u) (p : l.Perm (none :: l')) :
    GoingDown s site l' (markChange u) := by
  obtain ⟨fresh, nd⟩ := List.nodup_cons.mp (p.nodup h.distinct)
  obtain ⟨some', same⟩ := mark_marks u.cqr
  have mem {i : FpId} : some i ∈ l' ↔ some i ∈ l := by
    rw [p.mem_iff, List.mem_cons]
    exact ⟨.inr, fun m => m.resolve_left nofun⟩
  refine ⟨nd, ⟨h.stopped.closed, h.stopped.banks, h.stopped.waits, h.stopped.chiller, h.stopped.sales⟩, h.site, h.waits,
    fun i m => h.todo i (mem.mp m), fun i out => (h.done i fun m => out (mem.mpr m)).same rfl rfl rfl (mark_queue _), ?_,
    fun w => ?_, fun _ => ⟨some', fun w => ?_⟩⟩
  · obtain ⟨q, e⟩ := h.queue
    exact ⟨q, (mark_queue _).trans e⟩
  · exact (same (by rw [h.write w]; exact w)).1.trans (h.write w)
  · exact (same (by rw [h.write w]; exact w)).2

theorem GoingDown.downs {site : Site} {l l' : List (Option FpId)} (h : GoingDown s site l u) (p : l.Perm (some i :: l')) :
    GoingDown s site l' (powerdownFp i u) := by
  obtain ⟨fresh, nd⟩ := List.nodup_cons.mp (p.nodup h.distinct)
  obtain ⟨step, downed⟩ := powerdownFp_downs (i := i) h.stopped (h.waits i)
  have next {x : Option FpId} (m : x ∈ l') : x ∈ l := p.mem_iff.mpr (List.mem_cons_of_mem _ m)
  have here : some i ∈ l := p.mem_iff.mpr List.mem_cons_self
  obtain ⟨fp, txn⟩ := h.todo i here
  refine ⟨nd, step.stopped, step.site.trans h.site, fun j => ?_, fun j m => ?_, fun j out => ?_, ?_, fun w => ?_, fun out => ?_⟩
  · by_cases e : j = i
    · exact e ▸ step.waits
    · rw [step.records j e]
      exact h.waits j
  · have e : j ≠ i := fun e => fresh (e ▸ m)
    rw [step.fp j e, step.meter j e]
    exact h.todo j (next m)
  · by_cases e : j = i
    · subst e
      rw [fp] at downed
      exact downed.txn txn
    · refine (h.done j fun m => ?_).step step e
      rcases List.mem_cons.mp (p.mem_iff.mp m) with same | m
      · exact e (Option.some.inj same)
      · exact out m
  · obtain ⟨q, e⟩ := h.queue
    obtain ⟨q', e'⟩ := step.queue
    exact ⟨q ++ q', by rw [e', e, List.append_assoc]⟩
  · exact (step.write (by rw [h.write w]; exact w)).1.trans (h.write w)
  · have out' : none ∉ l := fun m => (List.mem_cons.mp (p.mem_iff.mp m)).elim nofun out
    obtain ⟨stands, pends⟩ := h.marked out'
    obtain ⟨same, keeps⟩ := step.write stands
    exact ⟨by rw [same]; exact stands, fun w => keeps (pends w)⟩

theorem downEvents_end {site : Site} (h : GoingDown s site (none :: allFps.map some) u) :
    GoingDown s site [] (inAnyOrder (markChange :: allFps.map powerdownFp) u) := by
  have events : markChange :: allFps.map powerdownFp = (none :: allFps.map some).map downEvent := by
    rw [List.map_cons, List.map_map]
    rfl
  rw [events]
  refine inAnyOrder_each (fun _ _ _ q => q.order) (fun e l l' u p q => ?_) h
  cases e with
  | none => exact q.marks p
  | some i => exact q.downs p

/-- The site's entry into POWERDOWN, its notices taken, halts the part and saves its fills (R194). -/
theorem enterPowerdown_downs (s : State) : s.PoweredDown (settle (enterPowerdown s)) := by
  let s1 := setSite .powerdown false s.site.cause (closeForced s)
  have parts : s1.fps = s.fps ∧ s1.mtu = s.mtu ∧ s1.cqr = s.cqr := by
    obtain ⟨n, e⟩ := setSite_parts .powerdown false s.site.cause (closeForced s)
    simp only [s1, e]
    unfold closeForced
    split <;> exact ⟨rfl, rfl, rfl⟩
  obtain ⟨fps1, mtu1, cqr1⟩ := parts
  obtain ⟨stop, fps, -, site, -⟩ := haltBlocks_stops (s := s1) (by simp [s1, SiteState.closesAll])
  obtain ⟨⟨n, cqr⟩, txn, waits⟩ := haltBlocks_keeps (s := s1)
  have start : GoingDown s s1.site (none :: allFps.map some) (haltBlocks s1) := by
    refine ⟨by decide, stop, site, waits, fun i _ => ⟨?_, ?_⟩, fun i out => ?_, ⟨[], ?_⟩, fun _ => ?_,
      fun out => absurd List.mem_cons_self out⟩
    · rw [State.fp, fps, fps1]
      rfl
    · rw [txn, State.meter, mtu1]
      rfl
    · exact absurd (List.mem_cons_of_mem _ (List.mem_map_of_mem (mem_allFps i))) out
    · rw [cqr, cqr1, List.append_nil]
    · rw [cqr, cqr1]
  have done := downEvents_end start
  have ent : enterPowerdown s = haltCompressors (inAnyOrder (markChange :: allFps.map powerdownFp) (haltBlocks s1)) := rfl
  rw [ent]
  generalize inAnyOrder (markChange :: allFps.map powerdownFp) (haltBlocks s1) = u at *
  have halt := (haltCompressors_halts (s := u) (by rw [done.site]; simp [s1])).settle
  generalize settle (haltCompressors u) = v at *
  have down (i : FpId) : Downed i (s.fp i) (s.meter i) v :=
    (done.done i (List.not_mem_nil)).same (by rw [halt.rest]; rfl) (by rw [halt.rest]; rfl) (by rw [halt.rest]; rfl)
      (by rw [halt.rest])
  have image : v.cqr = u.cqr := by rw [halt.rest]
  obtain ⟨stands, pends⟩ := done.marked List.not_mem_nil
  refine ⟨⟨fun o => ?_, fun b => ?_, ?_, ?_, halt.comps, fun i => ?_⟩, fun i => (down i).ended, fun i => (down i).settled,
    fun i => (down i).venting, fun i => (down i).rest, fun i x live hx => ?_, ?_, ?_⟩
  · refine if_pos ?_
    rw [halt.rest]
    exact done.stopped.closed
  · rw [halt.rest]
    exact done.stopped.banks b
  · rw [halt.rest]
    exact done.stopped.waits
  · rw [halt.rest]
    exact done.stopped.chiller
  · have same : v.meter i = u.meter i := by rw [halt.rest]; rfl
    rw [same]
    exact done.stopped.sales i
  · obtain ⟨auth, window, record, q, mem, ⟨fp, saved, price, mass, amount, draw, running, settling⟩⟩ := (down i).saved x live hx
    exact ⟨auth, window, record, q, mem, fp, saved, price, mass, amount, draw, running, settling⟩
  · rw [image]
    exact done.queue
  · rw [image]
    exact ⟨stands, fun w => ⟨done.write w, pends w⟩⟩

end Sys2Proof.Machine
end

section
/-!
PROOFS. The input lines: what a level that has moved tells, and what each function does (1.2, for O47).
-/
namespace Sys2Proof.Machine

variable {i j : FpId} {k : CompId} {l : LineId} {s t u v : State} {r : Reason} {fn : LineFn} {tg : Nat}

/-! ### The levels of the lines (R10 to R13) -/

/-- A line whose filter has let the raw level through. -/
def State.passed (s : State) (l : LineId) : InLine := { s.line l with filtered := (s.line l).raw, filterRunning := false }

/-- The part with that level. -/
def filtered (l : LineId) (s : State) : State := { s with lines := upd s.lines l (s.passed l) }

theorem filtered_line : (filtered l s).line l = s.passed l := sel_upd_self ..

theorem filtered_line_ne {m : LineId} (h : l ≠ m) : (filtered l s).line m = s.line m := sel_upd_ne _ _ _ _ h

/-- The change asserts the function of its line, in a mode that tells it as a level or as a rising edge. -/
def State.asserts (s : State) (l : LineId) : Prop :=
  (s.passed l).effective = true ∧
    ((s.line l).mode = .rising ∨ ((s.line l).mode = .level ∧ s.combined (s.line l).fn (s.line l).target = false))

/-- The change is an edge event. -/
def State.edges (s : State) (l : LineId) : Prop :=
  ((s.passed l).effective = true ∧ ((s.line l).mode = .rising ∨ (s.line l).mode = .any)) ∨
    ((s.passed l).effective = false ∧ ((s.line l).mode = .falling ∨ (s.line l).mode = .any))

theorem edges_iff : s.edges l ↔ (s.line l).mode.edge (s.passed l).effective = true := by
  unfold State.edges
  cases (s.passed l).effective <;> cases (s.line l).mode <;> decide

/-- The change ends the combined level of its function. -/
def State.releases (s : State) (l : LineId) : Prop :=
  (s.line l).mode = .level ∧ s.combined (s.line l).fn (s.line l).target = true ∧
    (filtered l s).combined (s.line l).fn (s.line l).target = false

theorem combined_iff : s.combined fn tg = true ↔
    ∃ m, (s.line m).serves fn tg = true ∧ (s.line m).mode = .level ∧ (s.line m).effective = true := by
  simp only [State.combined, List.any_eq_true, Vector.mem_toList_iff, Vector.mem_iff_getElem, Bool.and_eq_true, beq_iff_eq,
    and_assoc]
  constructor
  · rintro ⟨_, ⟨n, lt, rfl⟩, h⟩
    exact ⟨⟨n, lt⟩, h⟩
  · rintro ⟨m, h⟩
    exact ⟨_, ⟨m.val, m.isLt, rfl⟩, h⟩

/-- A line is part of the combined level of its own function alone. -/
theorem filtered_combined (h : (s.line l).fn ≠ fn) : (filtered l s).combined fn tg = s.combined fn tg := by
  refine Bool.eq_iff_iff.mpr ?_
  rw [combined_iff, combined_iff]
  refine exists_congr fun m => ?_
  by_cases e : l = m
  · subst e
    have own : (s.line l).serves fn tg = false := by simp [InLine.serves, h]
    have still : (s.passed l).serves fn tg = false := own
    rw [filtered_line, own, still]
    simp
  · rw [filtered_line_ne e]

theorem filtered_combined_self (e : (s.passed l).effective = true) (m : (s.line l).mode = .level) :
    (filtered l s).combined (s.line l).fn (s.line l).target = true := by
  refine combined_iff.mpr ⟨l, ?_⟩
  rw [filtered_line]
  exact ⟨by simp [State.passed, InLine.serves], m, e⟩

/-! ### What a change of a line tells (R11 to R13) -/

theorem exec_filterExpiry (h : (s.line l).filterRunning = true) :
    exec (.filterExpiry l) s = .next (settle (lineChanged l s (filtered l s))) :=
  congrArg (fun t => Host.Outcome.next (settle t)) (if_pos h)

theorem lineChanged_eq : lineChanged l s (filtered l s) =
    if (s.line l).fn.isNozzle then atFp (s.line l).target (fun i => nozzleMoved i s) (filtered l s)
    else if (s.line l).mode = .level then levelMoved (s.line l).fn (s.line l).target s (filtered l s)
    else if (s.line l).mode.edge (s.passed l).effective then edgeEvent (s.line l).fn (s.line l).target (filtered l s)
    else filtered l s := by
  unfold lineChanged
  rw [filtered_line]
  rfl

theorem atFp_val {f : FpId → State → State} (h : tg = i.val) : atFp tg f s = f i s := by
  rw [atFp, h, unitOf_val]

theorem atComp_val {f : CompId → State → State} (h : tg = k.val) : atComp tg f s = f k s := by
  rw [atComp, h, unitOf_val]

theorem lineChanged_nozzle (n : (s.line l).fn.isNozzle = true) (h : (s.line l).target = i.val) :
    lineChanged l s (filtered l s) = nozzleMoved i s (filtered l s) := by
  rw [lineChanged_eq, if_pos n, atFp_val h]

section Plain
variable (n : (s.line l).fn.isNozzle = false)
include n

theorem lineChanged_edge (e : s.edges l) :
    lineChanged l s (filtered l s) = edgeEvent (s.line l).fn (s.line l).target (filtered l s) := by
  have told := edges_iff.mp e
  have level : (s.line l).mode ≠ .level := fun m => by
    rw [m] at told
    cases told
  rw [lineChanged_eq, if_neg (by rw [n]; nofun), if_neg level, if_pos told]

theorem lineChanged_quiet (m : (s.line l).mode ≠ .level) (e : ¬ s.edges l) : lineChanged l s (filtered l s) = filtered l s := by
  rw [lineChanged_eq, if_neg (by rw [n]; nofun), if_neg m, if_neg fun told => e (edges_iff.mpr told)]

theorem lineChanged_level (m : (s.line l).mode = .level) :
    lineChanged l s (filtered l s) = levelMoved (s.line l).fn (s.line l).target s (filtered l s) := by
  rw [lineChanged_eq, if_neg (by rw [n]; nofun), if_pos m]

theorem lineChanged_steady (m : (s.line l).mode = .level)
    (e : (filtered l s).combined (s.line l).fn (s.line l).target = s.combined (s.line l).fn (s.line l).target) :
    lineChanged l s (filtered l s) = filtered l s := by
  rw [lineChanged_level n m, levelMoved, if_pos e.symm]

theorem lineChanged_release (r : s.releases l) :
    lineChanged l s (filtered l s) = levelEvent (s.line l).fn (s.line l).target false s (filtered l s) := by
  obtain ⟨m, was, now⟩ := r
  rw [lineChanged_level n m, levelMoved, was, now, if_neg nofun]

theorem lineChanged_assertion (a : s.asserts l) (m : (s.line l).mode = .level) :
    lineChanged l s (filtered l s) = levelEvent (s.line l).fn (s.line l).target true s (filtered l s) := by
  obtain ⟨e, c | ⟨-, was⟩⟩ := a
  · rw [c] at m
    cases m
  · rw [lineChanged_level n m, levelMoved, was, filtered_combined_self e m, if_neg nofun]

/-- Told as a level or as an edge, an assertion of these functions does the same. -/
theorem lineChanged_asserts (a : s.asserts l) (h : (s.line l).fn ∉ [LineFn.siteHold, .start, .stop]) :
    lineChanged l s (filtered l s) = edgeEvent (s.line l).fn (s.line l).target (filtered l s) := by
  by_cases m : (s.line l).mode = .level
  · rw [lineChanged_assertion n a m]
    cases f : (s.line l).fn <;> first | rfl | (rw [f] at h; simp at h)
  · refine lineChanged_edge n (.inl ⟨a.1, .inl ?_⟩)
    exact a.2.resolve_right fun c => m c.1

end Plain

/-- A release acts on SITE_HOLD and COMPRESSOR_TRIP alone (R12). -/
theorem levelEvent_released (h : fn ∈ [LineFn.esd, .gasAlarm, .fireAlarm, .powerFail, .chillerTrip, .breakaway, .meterError]) :
    levelEvent fn tg false s u = u := by
  simp only [List.mem_cons, List.not_mem_nil, or_false] at h
  rcases h with rfl | rfl | rfl | rfl | rfl | rfl | rfl <;> rfl

theorem lineChanged_noFn (f : (s.line l).fn = .noFn) : lineChanged l s (filtered l s) = filtered l s := by
  rw [lineChanged_eq, f, if_neg nofun]
  split
  · unfold levelMoved
    split <;> rfl
  · split <;> rfl

/-! ### The fills that an input starts and ends (R98, R107) -/

/-- A reason taken at a fill in each of its phases. -/
theorem endFill_either (w : u.csInbox = []) :
    ((u.fp i).fill = .leakCheck ∨ (u.fp i).fill = .filling → u.ClosedBy (settle (endFill i r u)) i r) ∧
      ((u.fp i).fill = .linkWait ∨ (u.fp i).fill = .precoolWait → u.WaitOk → u.EndedEarly (settle (endFill i r u)) i r) ∧
      ((u.fp i).fill.running = false → settle (endFill i r u) = u) := by
  rw [settle_nil _ (endFill_csInbox.trans w)]
  exact ⟨endFill_closes, endFill_ends, endFill_other⟩

theorem startFill_csInbox : (startFill i u).csInbox = u.csInbox := by
  unfold startFill
  rw [modLink_csInbox, setFill_csInbox]
  rfl

/-- A start that may be made answers as FP_COMMAND START would. -/
theorem tryStart_starts (w : u.csInbox = []) (l : (u.fp i).loaded = true) (m : u.mayStart i = true) :
    Answers (.fpStart i.val) u (.accepted []) (settle (tryStart i u)) ∧
      ((settle (tryStart i u)).fp i).fill = .linkWait ∧ ((settle (tryStart i u)).link i).state = .listening := by
  have made : tryStart i u = startFill i u := if_pos m
  rw [made, settle_nil _ (startFill_csInbox.trans w)]
  refine ⟨answers_of rfl ((fpCommand_loaded l).trans (if_pos m)), (startFill_parts i u).1, ?_⟩
  rw [startFill, modLink_link_self]
  rfl

theorem tryStart_ignored (w : u.csInbox = []) (m : u.mayStart i = false) : settle (tryStart i u) = u := by
  have made : tryStart i u = u := if_neg (by rw [m]; nofun)
  rw [made, settle_nil u w]

/-- The start conditions once the line has moved, where it is of another function than those of the levels. -/
theorem filtered_mayStart (b : (s.line l).fn ≠ .breakaway) (m : (s.line l).fn ≠ .meterError) :
    (filtered l s).mayStart i = true ↔ (s.fp i).fill = .idle ∧ s.site.state = .operating ∧
      (s.meter i).auth.state = .pending ∧ (filtered l s).nozzleCondition i = .connected ∧ s.combined .breakaway i.val = false ∧
      s.combined .meterError i.val = false := by
  rw [mayStart_iff, filtered_combined b, filtered_combined m]
  rfl

/-- What a start edge, or an auto-start, does. -/
def StartsFill (s u t : State) (i : FpId) : Prop :=
  ((s.fp i).fill = .idle ∧ s.site.state = .operating ∧ (s.meter i).auth.state = .pending ∧
      u.nozzleCondition i = .connected ∧ s.combined .breakaway i.val = false ∧ s.combined .meterError i.val = false →
    Answers (.fpStart i.val) u (.accepted []) t ∧ (t.fp i).fill = .linkWait ∧ (t.link i).state = .listening) ∧
  ((s.fp i).fill ≠ .idle ∨ s.site.state ≠ .operating ∨ (s.meter i).auth.state ≠ .pending ∨
      u.nozzleCondition i ≠ .connected ∨ s.combined .breakaway i.val = true ∨ s.combined .meterError i.val = true →
    t = u)

theorem tryStart_filtered (w : s.csInbox = []) (b : (s.line l).fn ≠ .breakaway) (m : (s.line l).fn ≠ .meterError)
    (h : (s.fp i).loaded = true) : StartsFill s (filtered l s) (settle (tryStart i (filtered l s))) i := by
  refine ⟨fun c => tryStart_starts w h ((filtered_mayStart b m).mpr c), fun c => tryStart_ignored w ?_⟩
  refine Bool.eq_false_iff.mpr fun may => ?_
  obtain ⟨idle, op, pend, conn, hb, hm⟩ := (filtered_mayStart b m).mp may
  rcases c with c | c | c | c | c | c
  · exact c idle
  · exact c op
  · exact c pend
  · exact c conn
  · rw [hb] at c; cases c
  · rw [hm] at c; cases c

/-! ### The nozzle moves (R13, R98, R107, R113) -/

/-- What a nozzle field event does: `t` is the outcome of a nozzle that moved from its condition in `s` to that in `u`. -/
structure NozzleActs (s u t : State) (i : FpId) : Prop where
  steady : u.nozzleCondition i = s.nozzleCondition i → t = u
  closes : s.nozzleCondition i = .connected → u.nozzleCondition i ≠ .connected →
    (s.fp i).fill = .leakCheck ∨ (s.fp i).fill = .filling → u.ClosedBy t i .nozzleDisconnect
  ends : s.nozzleCondition i = .connected → u.nozzleCondition i ≠ .connected →
    (s.fp i).fill = .linkWait ∨ (s.fp i).fill = .precoolWait → s.WaitOk → u.EndedEarly t i .nozzleDisconnect
  rests : s.nozzleCondition i ≠ .holstered → u.nozzleCondition i = .holstered → (s.fp i).fill = .complete →
    (t.fp i).fill = .idle ∧ t.sli.summary.getLsbD i.val = true
  still : u.nozzleCondition i ≠ .connected → (s.fp i).fill.running = false → (s.fp i).fill ≠ .complete → t = u
  waits : s.nozzleCondition i ≠ .connected → u.nozzleCondition i = .connected →
    (s.fp i).entry.autoStart = false ∨ (s.meter i).auth.state ≠ .pending → t = u
  starts : s.nozzleCondition i ≠ .connected → u.nozzleCondition i = .connected → (s.fp i).entry.autoStart = true →
    (s.fp i).loaded = true → StartsFill s u t i

/-- Off the vehicle a nozzle ends the fill, or takes a complete one to IDLE. -/
theorem nozzleEvent_leaves {c : NozzleCondition} (off : c ≠ .connected) (f : c ≠ .holstered ∨ (u.fp i).fill ≠ .complete) :
    nozzleEvent i c u = endFill i .nozzleDisconnect u := by
  cases c with
  | connected => exact absurd rfl off
  | lifted => rfl
  | holstered => exact if_neg (f.resolve_left fun n => n rfl)

theorem nozzleMoved_acts (w : s.csInbox = []) (n : (s.line l).fn.isNozzle = true) :
    NozzleActs s (filtered l s) (settle (nozzleMoved i s (filtered l s))) i := by
  have box : (filtered l s).csInbox = [] := w
  have fb : (s.line l).fn ≠ .breakaway := fun e => by rw [e] at n; cases n
  have fm : (s.line l).fn ≠ .meterError := fun e => by rw [e] at n; cases n
  have starts (h : (s.fp i).loaded = true) := tryStart_filtered (i := i) w fb fm h
  have fp : (filtered l s).fp i = s.fp i := rfl
  have auth : ((filtered l s).meter i).auth = (s.meter i).auth := rfl
  have wait : s.WaitOk → (filtered l s).WaitOk := fun a => waitOk_of a rfl rfl
  generalize filtered l s = u at *
  obtain ⟨closes, ends, other⟩ := endFill_either (i := i) (r := .nozzleDisconnect) box
  have moved (h : s.nozzleCondition i ≠ u.nozzleCondition i) :
      nozzleMoved i s u = nozzleEvent i (u.nozzleCondition i) u := if_neg h
  rw [fp] at closes ends other
  have connected (c : u.nozzleCondition i = .connected) : nozzleEvent i (u.nozzleCondition i) u =
      if (s.fp i).entry.autoStart ∧ (s.meter i).auth.state = .pending then tryStart i u else u := by
    rw [c, ← fp, ← auth]
    rfl
  refine ⟨fun same => ?_, fun was off f => ?_, fun was off f a => ?_, fun was now f => ?_, fun off f g => ?_,
    fun was now c => ?_, fun was now auto h => ?_⟩
  · rw [nozzleMoved, if_pos same.symm, settle_nil u box]
  · rw [moved (by rw [was]; exact off.symm), nozzleEvent_leaves off (.inr ?_)]
    · exact closes f
    · rw [fp]
      rcases f with f | f <;> rw [f] <;> nofun
  · rw [moved (by rw [was]; exact off.symm), nozzleEvent_leaves off (.inr ?_)]
    · exact ends f (wait a)
    · rw [fp]
      rcases f with f | f <;> rw [f] <;> nofun
  · have event : nozzleEvent i (u.nozzleCondition i) u = setFill i .idle u := by
      rw [now]
      exact if_pos (by rw [fp]; exact f)
    rw [moved (by rw [now]; exact was), event, settle_nil _ (setFill_csInbox.trans box),
      setFill_changes (by rw [fp, f]; decide) (by decide)]
    exact ⟨congrArg Fps.fill (sel_upd_self ..), by simp [BitVec.getLsbD_twoPow]; omega⟩
  · by_cases same : s.nozzleCondition i = u.nozzleCondition i
    · rw [nozzleMoved, if_pos same, settle_nil u box]
    · rw [moved same, nozzleEvent_leaves off (.inr (by rw [fp]; exact g))]
      exact other f
  · rw [moved (by rw [now]; exact was), connected now, if_neg, settle_nil u box]
    rintro ⟨auto, pend⟩
    rcases c with c | c
    · rw [auto] at c; cases c
    · exact c pend
  · rw [moved (by rw [now]; exact was), connected now]
    by_cases pend : (s.meter i).auth.state = .pending
    · rw [if_pos ⟨auto, pend⟩]
      exact starts h
    · rw [if_neg fun c => pend c.2, settle_nil u box]
      exact ⟨fun c => absurd c.2.2.1 pend, fun _ => rfl⟩

/-! ### The safety inputs and the trips (R71, R83, R192, R194) -/

theorem shutdownEvent_shuts {c : ShutCause} (h : u.site.state = .operating ∨ u.site.state = .maintenance) :
    (settle (shutdownEvent c u)).site = { u.site with state := .shutdown, forecourtOpen := false, cause := c } ∧
      u.ShutDown (settle (shutdownEvent c u)) := by
  have event : shutdownEvent c u = enterShutdown c u := by
    unfold shutdownEvent
    rcases h with h | h <;> rw [h]
  rw [event]
  exact ⟨(entersSite (enterShutdown_runs (w := true) c u).settle).site, enterShutdown_shuts c u⟩

theorem shutdownEvent_stays {c : ShutCause} (a : u.site.state ≠ .operating) (b : u.site.state ≠ .maintenance) :
    shutdownEvent c u = u := by
  unfold shutdownEvent
  split
  · next e => exact absurd e a
  · next e => exact absurd e b
  all_goals rfl

theorem powerFailEvent_downs (h : u.site.state = .operating ∨ u.site.state = .maintenance ∨ u.site.state = .shutdown) :
    (settle (powerFailEvent u)).site = { u.site with state := .powerdown, forecourtOpen := false } ∧
      u.PoweredDown (settle (powerFailEvent u)) := by
  have event : powerFailEvent u = enterPowerdown u := by
    unfold powerFailEvent
    rcases h with h | h | h <;> rw [h]
  rw [event]
  exact ⟨(entersSite (enterPowerdown_runs (w := true) u).settle).site, enterPowerdown_downs u⟩

theorem powerFailEvent_stays (h : u.site.state = .unconfigured ∨ u.site.state = .powerdown) : powerFailEvent u = u := by
  unfold powerFailEvent
  rcases h with h | h <;> rw [h]

theorem tripInput_trips (n : (u.comp k).state ≠ .disabled) (m : (u.comp k).state ≠ .tripped) :
    LeftBank k ((u.comp k).trippedBy .tripInput) u (settle (tripInput k u)) := by
  have event : tripInput k u = enterTripped k .tripInput u := by
    unfold tripInput
    split
    any_goals rfl
    · next e => exact absurd e n
    · next e => exact absurd e m
  rw [event]
  exact (enterTripped_leaves k .tripInput u).settle (.inr rfl)

theorem tripInput_stays (h : (u.comp k).state = .disabled ∨ (u.comp k).state = .tripped) : tripInput k u = u := by
  unfold tripInput
  rcases h with h | h <;> rw [h]

theorem chillerTrip_trips (h : u.pcm.chiller = .idle ∨ u.pcm.chiller = .running) : chillerTrip u = { u with
    pcm := { u.pcm with chiller := .tripped }
    sli := { u.sli with summary := u.sli.summary ||| BitVec.twoPow 15 9 } } := by
  have event : chillerTrip u = u.chilled .tripped := by
    rw [← setChiller_eq]
    unfold chillerTrip
    rcases h with h | h <;> rw [h]
  rw [event, State.chilled, if_neg]
  intro e
  rcases h with h | h <;> rw [h] at e <;> cases e

theorem chillerTrip_stays (h : u.pcm.chiller = .disabled ∨ u.pcm.chiller = .tripped) : chillerTrip u = u := by
  unfold chillerTrip
  rcases h with h | h <;> rw [h]

/-! ### SITE_HOLD at every fill (R106, R133, R134) -/

/-- From `u` to `v` holds moved fills: the sequencers, the posted flags and the free choices alone. -/
structure Held (u v : State) : Prop where
  rest : v = { u with fps := v.fps, orderCount := v.orderCount, sli := { u.sli with summary := v.sli.summary } }

theorem Held.refl (u : State) : Held u u := ⟨rfl⟩
theorem Held.trans (h : Held s u) (k : Held u v) : Held s v := ⟨by rw [k.rest, h.rest]⟩
theorem Held.order (h : Held s u) (n : Nat) : Held s { u with orderCount := n } := h.trans ⟨rfl⟩

/-- Once a step has been taken for each fuelling point, each stands as its step left it. -/
structure HeldEach (f : FpId → Fps) (l : List FpId) (s u : State) : Prop where
  nodup : l.Nodup
  held : Held s u
  ahead : ∀ i ∈ l, u.fp i = s.fp i
  done : ∀ i, i ∉ l → u.fp i = f i

/-- A step of one fill under a hold: it sets that fill, reading the lines, the site and the meters alone. -/
theorem held_each {g : FpId → State → State} {f : FpId → Fps}
    (step : ∀ i u, Held s u → u.fp i = s.fp i → ∃ m, g i u =
      { u with fps := upd u.fps i (f i), sli := { u.sli with summary := m } }) :
    Held s (inAnyOrder (allFps.map g) s) ∧ ∀ i, (inAnyOrder (allFps.map g) s).fp i = f i := by
  have start : HeldEach f allFps s s :=
    ⟨by decide, .refl s, fun _ _ => rfl, fun i out => absurd (mem_allFps i) out⟩
  have done := inAnyOrder_each (f := g) (Q := fun l u => HeldEach f l s u)
    (fun l u n q => ⟨q.nodup, q.held.order n, q.ahead, q.done⟩) (fun i l l' u p q => ?_) start
  · exact ⟨done.held, fun i => done.done i List.not_mem_nil⟩
  · have apart := List.nodup_cons.mp (p.nodup_iff.mp q.nodup)
    obtain ⟨m, e⟩ := step i u q.held (q.ahead i (p.mem_iff.mpr List.mem_cons_self))
    rw [e]
    refine ⟨apart.2, q.held.trans ⟨rfl⟩, fun j m => ?_, fun j out => ?_⟩
    · have n : i ≠ j := fun e => apart.1 (e ▸ m)
      exact (sel_upd_ne _ _ _ _ n).trans (q.ahead j (p.mem_iff.mpr (List.mem_cons_of_mem _ m)))
    · by_cases e : i = j
      · subst e
        exact sel_upd_self ..
      · exact (sel_upd_ne _ _ _ _ e).trans (q.done j fun m => (List.mem_cons.mp (p.mem_iff.mp m)).elim (fun same => e same.symm) out)

/-- The hold's view of a fill is that of the state before. -/
theorem Held.levelHold (h : Held s u) (fp : u.fp i = s.fp i) : u.levelHold i = s.levelHold i := by
  rw [State.levelHold, fp, State.combined, h.rest]
  rfl

theorem Held.figure (h : Held s u) : u.meter i = s.meter i ∧ u.site = s.site := by
  rw [h.rest]
  exact ⟨rfl, rfl⟩

/-- A fill that a step leaves alone. -/
theorem left_alone : ∃ m, u = { u with fps := upd u.fps i (u.fp i), sli := { u.sli with summary := m } } :=
  ⟨u.sli.summary, by rw [State.fp, upd_sel_self]⟩

/-- A fill in FILLING under a hold (R122). -/
def Fps.underHold (f : Fps) : Fps := { f with sub := some f.heldIn, lowFlow := none, grace := none }

/-- SITE_HOLD reaches a fill (R106). -/
def Fps.siteHeld (f : Fps) : Fps := if f.fill = .filling then f.underHold else f

theorem siteHold_holds {old : State} (h : s.combined .siteHold = true) :
    Held s (siteHoldLevel old s) ∧ ∀ i, (siteHoldLevel old s).fp i = (s.fp i).siteHeld := by
  refine held_each (f := fun i => (s.fp i).siteHeld) fun i u held fp => ?_
  have hold : u.levelHold i = true := (held.levelHold fp).trans (levelHold_iff.mpr (.inl h))
  dsimp only
  rw [← fp, Fps.siteHeld]
  by_cases f : (u.fp i).fill = .filling
  · rw [if_pos f, holdsChanged_held f (.inr (.inl hold))]
    exact ⟨_, rfl⟩
  · rw [if_neg f, holdsChanged_early f (.inr (.inl hold))]
    exact left_alone

/-- SITE_HOLD leaves a fill that does not wait for its admission (R102, R106, R133). -/
def State.siteFreed (s : State) (i : FpId) : Fps :=
  let f := s.fp i
  if f.fill = .leakCheck then
    if s.levelHold i = false ∧ f.link = .granted ∧ f.leakPulse = none ∧ f.leakHold = none then
      { f with leakPulse := some s.site.params.leakPulse }
    else f
  else if f.fill = .filling then
    if s.levelHold i = false ∧ f.link ≠ .stacked ∧ f.sync = false then { f with
      sub := some .flow, pstart := f.nozzle, clock := 0, pause := false
      lowFlow := if f.sub = some .flow then f.lowFlow
        else if (s.meter i).figure < s.site.params.stepFlow * 1000 then some s.site.params.stepDwell else none }
    else f.underHold
  else f

theorem siteHold_frees {old : State} (was : ∀ i, old.levelHold i = true)
    (undecided : ∀ i, (s.fp i).fill ≠ .linkWait ∨ (s.fp i).mode = .undecided) :
    Held s (siteHoldLevel old s) ∧ ∀ i, (siteHoldLevel old s).fp i = s.siteFreed i := by
  refine held_each (f := fun i => s.siteFreed i) fun i u held fp => ?_
  have hold := held.levelHold fp
  obtain ⟨meter, site⟩ := held.figure (i := i)
  have stays := undecided i
  rw [was i, State.siteFreed]
  dsimp only
  rw [← fp] at stays ⊢
  rw [← hold, ← meter, ← site]
  by_cases c : (u.fp i).fill = .leakCheck
  · rw [if_pos c, holdsChanged_leakCheck c]
    by_cases ready : u.levelHold i = false ∧ (u.fp i).link = .granted ∧ (u.fp i).leakPulse = none ∧ (u.fp i).leakHold = none
    · rw [if_pos ready, if_pos ⟨rfl, ready⟩]
      exact ⟨u.sli.summary, rfl⟩
    · rw [if_neg ready, if_neg fun h => ready h.2]
      exact left_alone
  · rw [if_neg c]
    by_cases f : (u.fp i).fill = .filling
    · rw [if_pos f]
      by_cases free : u.levelHold i = false ∧ (u.fp i).link ≠ .stacked ∧ (u.fp i).sync = false
      · rw [if_pos free, holdsChanged_frees f free.1 free.2.1 free.2.2]
        exact ⟨_, rfl⟩
      · have keeps : (u.fp i).link = .stacked ∨ u.levelHold i = true ∨ (u.fp i).sync = true := by
          by_contra n
          simp only [not_or, Bool.not_eq_true] at n
          exact free ⟨n.2.1, n.1, n.2.2⟩
        rw [if_neg free, holdsChanged_held f keeps]
        exact ⟨_, rfl⟩
    · rw [if_neg f]
      by_cases w : (u.fp i).fill = .linkWait
      · rw [holdsChanged_linkWait w, leaveIfFree_stays (.inl (stays.resolve_left fun n => n w)), ite_self]
        exact left_alone
      · rw [holdsChanged_other w c f]
        exact left_alone

/-- A SITE_HOLD edge reaches a fill (R106, R134). -/
def Fps.synced (f : Fps) : Fps := if f.fill = .filling ∧ f.sync = false then { f with sync := true }.underHold else f

theorem siteHold_syncs : Held s (inAnyOrder (allFps.map syncHold) s) ∧
    ∀ i, (inAnyOrder (allFps.map syncHold) s).fp i = (s.fp i).synced := by
  refine held_each (f := fun i => (s.fp i).synced) fun i u held fp => ?_
  dsimp only
  rw [← fp, Fps.synced, syncHold]
  by_cases f : (u.fp i).fill = .filling ∧ (u.fp i).sync = false
  · rw [if_pos f, if_pos f]
    have fp1 : (modFp i (fun f => { f with sync := true }) u).fp i = { u.fp i with sync := true } := modFp_fp_self ..
    have sub := deriveSub_held (i := i) (s := modFp i (fun f => { f with sync := true }) u) (.inr (.inr (by rw [fp1])))
    rw [rederive_held sub (heldIn_ne _), fp1]
    rw [modFp_fps, upd_upd]
    exact ⟨_, rfl⟩
  · rw [if_neg f, if_neg f]
    exact left_alone

/-- A function without a target has one combined level. -/
theorem combined_targetless (h : fn.targets = 0) (a b : Nat) : s.combined fn a = s.combined fn b := by
  simp only [State.combined, InLine.serves, h, BEq.rfl, Bool.true_or]

end Sys2Proof.Machine
end

section
/-!
PROOFS. SITE_HOLD's release at a fill in LINK_WAIT, while the other fills take theirs (6.4 and 6.6, for O47).
-/
namespace Sys2Proof.Machine

variable {i j : FpId} {s s0 t u : State}

/-! ### A fill that SITE_HOLD lets leave LINK_WAIT while others go on (R100, R106) -/

/-- A fuelling point without what a grant of its bank moves. -/
def Fps.ungranted (f : Fps) : Fps :=
  { f with sub := none, link := .unlinked, bankWait := none, leakPulse := none, lowFlow := none, grace := none }

/-- From `s` to `t` other fuelling points acted: at `i` a grant at most was told, and its record stands. -/
structure Bystands (i : FpId) (s t : State) : Prop where
  fp : (t.fp i).ungranted = (s.fp i).ungranted
  record : t.reservation i = s.reservation i

theorem Bystands.refl (s : State) : Bystands i s s := ⟨rfl, rfl⟩

theorem Bystands.trans (h : Bystands i s t) (k : Bystands i t u) : Bystands i s u := ⟨k.fp.trans h.fp, k.record.trans h.record⟩

theorem Bystands.same (h : Bystands i s0 s) (f : t.fps = s.fps := by rfl) (p : t.pcm.records = s.pcm.records := by rfl) :
    Bystands i s0 t :=
  h.trans ⟨by rw [State.fp, f]; rfl, by rw [State.reservation, p]; rfl⟩

theorem Bystands.modFp {g : Fps → Fps} (h : Bystands i s0 s)
    (k : ∀ x : Fps, (g x).ungranted = x.ungranted := by exact fun _ => rfl) :
    Bystands i s0 (modFp j g s) := by
  refine h.trans ⟨?_, rfl⟩
  rw [modFp_fp]
  split
  · next e => rw [k, e]
  · rfl

theorem Bystands.modTxn {g : Txn → Txn} (h : Bystands i s0 s) : Bystands i s0 (modTxn j g s) := h.same

theorem Bystands.endLink (h : Bystands i s0 s) : Bystands i s0 (endLink j s) := h.same

theorem Bystands.postIf {b : Bool} {n : Nat} (h : Bystands i s0 s) : Bystands i s0 (postIf b n s) :=
  h.same (by rw [postIf_eq]) (by rw [postIf_eq])

theorem Bystands.requestBank {r : Requester} {b : BankId} (h : Bystands i s0 s) : Bystands i s0 (requestBank r b s).1 :=
  h.same (by rw [requestBank_parts]) (by rw [requestBank_parts])

theorem Bystands.rederive (h : Bystands i s0 s) : Bystands i s0 (rederive j s) := by
  have e (old : Option Substate) (x : Substate) (low : Bool) (dwell : Nat) (f : Fps) :
      ({ flowTimers old x low dwell f with sub := some x } : Fps).ungranted = f.ungranted := by
    unfold flowTimers
    split <;> (try split) <;> rfl
  exact Bystands.postIf (Bystands.modFp h fun f => e _ _ _ _ f)

theorem Bystands.fpsTake {b : BankId} (h : Bystands i s0 s) : Bystands i s0 (fpsTake j b s) := by
  have g : Bystands i s0 (openDraw j b (Machine.modFp j (fun f => { f with link := .granted, bankWait := none }) s)) :=
    Bystands.modTxn (Bystands.modFp h)
  unfold Machine.fpsTake
  dsimp only
  split
  · split
    · exact g
    · exact Bystands.modFp g
  · exact g.rederive
  all_goals exact g

theorem Bystands.tellGranted {r : Requester} {b : BankId} (h : Bystands i s0 s) : Bystands i s0 (tellGranted r b s).1 := by
  unfold Machine.tellGranted
  split
  · split
    · exact h.fpsTake
    · exact h
  · split
    · exact Bystands.postIf (h.same (t := modComp _ _ (modComp _ _ s)))
    · exact h

theorem Bystands.competeFor {n : Nat} {b : BankId} (h : Bystands i s0 s) : Bystands i s0 (competeFor n b s) := by
  induction n generalizing s with
  | zero => exact h
  | succ n ih =>
    unfold Machine.competeFor
    split
    · exact h
    · next r _ =>
      have told : Bystands i s0 (Machine.tellGranted r b (setHolder b (some r) (setStacked b ((s.stackedAt b).erase r) s))).1 :=
        Bystands.tellGranted h.same
      dsimp only
      split
      · exact ih told.same
      · exact told

theorem Bystands.letGo {r : Requester} {b : BankId} (h : Bystands i s0 s) : Bystands i s0 (letGo r b s) := by
  have released : Bystands i s0 (releaseBank r b s) := by
    unfold releaseBank compete
    split
    · split
      · exact Bystands.competeFor h.same
      · exact h.same
    · exact h
  exact released.same

section Other
variable (n : j ≠ i)
include n

theorem Bystands.ofOther {g : Fps → Fps} (h : Bystands i s0 s) : Bystands i s0 (Machine.modFp j g s) :=
  h.trans ⟨by rw [modFp_fp, if_neg n], rfl⟩

theorem Bystands.setFill {st : FillState} (h : Bystands i s0 s) : Bystands i s0 (setFill j st s) := Bystands.postIf (h.ofOther n)

theorem Bystands.takeReason {r : Reason} (h : Bystands i s0 s) : Bystands i s0 (takeReason j r s) := by
  unfold Machine.takeReason
  dsimp only
  split
  · exact Bystands.modTxn (h.ofOther n)
  · exact h.ofOther n

theorem Bystands.closeFill {r : Reason} (h : Bystands i s0 s) : Bystands i s0 (closeFill j r s) := by
  have settles : Bystands i s0 (Machine.setFill j .settling (Machine.modFp j (fun f =>
      { f with settle := some s.site.params.settleWindow }) s)) := Bystands.setFill n (h.ofOther n)
  have before : Bystands i s0 (beforeRelease j r s) := Bystands.ofOther n (Bystands.modTxn (settles.takeReason n))
  rw [closeFill_eq]
  unfold letGoOfBank
  split
  · exact before.letGo.endLink
  · exact before.endLink

theorem Bystands.tryBanks {l : List BankId} {why : Reason} (h : Bystands i s0 s) : Bystands i s0 (tryBanks j l why s) := by
  induction l generalizing s why with
  | nil => exact h.closeFill n
  | cons b rest ih =>
    unfold Machine.tryBanks
    split
    · have asks : Bystands i s0 (Machine.requestBank (fpReq j) b (Machine.modFp j (fun f => { f with cascadePos := some b }) s)).1 :=
        Bystands.requestBank (h.ofOther n)
      dsimp only
      split
      · exact asks.fpsTake
      · have waits : Bystands i s0 (Machine.modFp j (fun f =>
            { f with link := .stacked, bankWait := some s.site.params.bankWait }) _) := asks.ofOther n
        split
        · exact waits.rederive
        · exact waits
      · exact ih asks
    · exact ih h

theorem Bystands.enterLeakCheck (h : Bystands i s0 s) : Bystands i s0 (enterLeakCheck j s) := by
  have filled : Bystands i s0 (Machine.setFill j .leakCheck (Machine.modFp j (fun f =>
      { f with maxFill := some f.entry.maxFillTime }) s)) := Bystands.setFill n (h.ofOther n)
  have entered : Bystands i s0 (enteredLeak j s) := filled.same
  unfold Machine.enterLeakCheck
  dsimp only
  split
  · exact entered.tryBanks n
  · exact entered.closeFill n

theorem Bystands.modReservation {g : Reservation → Reservation} (h : Bystands i s0 s) : Bystands i s0 (modReservation j g s) :=
  h.trans ⟨rfl, modReservation_reservation_ne _ _ _ _ n⟩

theorem Bystands.admitFill {e : Nat} {c : Category} {cl : PrecoolClass} (h : Bystands i s0 s) :
    Bystands i s0 (admitFill j e c cl s) := by
  have record : Bystands i s0 (Machine.modReservation j (fun _ => admittedRecord e c cl s.pcm.band
      (reservationFor e (qOf s.pcm.entry cl))) s) := h.modReservation n
  unfold Machine.admitFill
  dsimp only
  split
  · rw [evalChiller_eq]
    exact record.same
  · exact record

theorem Bystands.requestAdmission {e : Nat} {c : Category} (h : Bystands i s0 s) : Bystands i s0 (requestAdmission j e c s) := by
  have listed (g : Reservation → Reservation) : Bystands i s0 (modPcm (fun p => { p with waitList := p.waitList ++ [j] })
      (Machine.modReservation j g s)) := (h.modReservation n (g := g)).same
  have joins : Bystands i s0 (joinWaitList j e c s) := Bystands.setFill n (listed _)
  unfold Machine.requestAdmission
  split
  · exact h
  · split
    · split
      · next cl _ =>
        exact Bystands.enterLeakCheck n (Bystands.modTxn ((h.admitFill n (e := e) (c := c) (cl := cl)).ofOther n))
      · exact joins
    · exact joins

theorem Bystands.formEstimate (h : Bystands i s0 s) : Bystands i s0 (formEstimate j s) := by
  unfold Machine.formEstimate
  dsimp only
  split
  · split
    · exact Bystands.modTxn (h.ofOther n)
    · exact h.ofOther n
  · exact h.ofOther n

theorem Bystands.holdsChanged {was : Bool} (h : Bystands i s0 s) : Bystands i s0 (holdsChanged j was s) := by
  unfold Machine.holdsChanged
  dsimp only
  split
  · unfold leaveIfFree
    split
    · split
      · exact (h.formEstimate n).requestAdmission n
      · exact h
    · exact h
  · split
    · exact h.ofOther n
    · exact h
  · split
    · exact Bystands.rederive (h.ofOther n)
    · exact h.rederive
  all_goals exact h

end Other

/-- A bystander holds as before. -/
theorem Bystands.levelHold (h : Bystands i s t) (lines : t.lines = s.lines) : t.levelHold i = s.levelHold i := by
  have fp {α : Type} (g : Fps → α) (e : ∀ x : Fps, g x.ungranted = g x) : g (t.fp i) = g (s.fp i) := by rw [← e, h.fp, e]
  rw [State.levelHold, State.combined, lines, fp (·.hostHold) fun _ => rfl, fp (·.vehicleHold) fun _ => rfl,
    fp (·.mode) fun _ => rfl]
  rfl

theorem requestAdmission_csInbox {e : Nat} {c : Category} : (requestAdmission j e c s).csInbox = s.csInbox := by
  have joins : (joinWaitList j e c s).csInbox = s.csInbox := setFill_csInbox
  unfold requestAdmission
  split
  · rfl
  · split
    · split
      · exact enterLeakCheck_csInbox.trans admitFill_csInbox
      · exact joins
    · exact joins

theorem holdsChanged_csInbox {was : Bool} : (holdsChanged j was s).csInbox = s.csInbox := by
  have estimate : (formEstimate j s).csInbox = s.csInbox := by rw [(formEstimate_estimated (i := j) (s := s)).rest]
  unfold holdsChanged
  dsimp only
  split
  · unfold leaveIfFree
    split
    · split
      · exact requestAdmission_csInbox.trans estimate
      · rfl
    · rfl
  · split <;> rfl
  · split
    · exact rederive_csInbox
    · exact rederive_csInbox
  all_goals rfl

/-- The fill has been answered: it waits, checks for leaks or settles, with its estimate formed. -/
def State.answered (t : State) (i : FpId) : Prop :=
  ((t.fp i).fill = .precoolWait ∨ (t.fp i).fill = .leakCheck ∨ (t.fp i).fill = .settling) ∧ (t.fp i).estimate.isSome = true

theorem leaveLinkWait_answered (n : (s.reservation i).state = .noRecord) : (leaveLinkWait i s).answered i := by
  obtain ⟨fill, ⟨a, b, context⟩, -⟩ := leaveLinkWait_asked n
  obtain ⟨e, c, fp⟩ := (formEstimate_estimated (i := i) (s := s)).fp
  have estimate : ((leaveLinkWait i s).fp i).estimate = some e := by
    rw [fp] at context
    exact (congrArg Fps.estimate context).trans rfl
  exact ⟨fill, by rw [estimate]; rfl⟩

theorem Bystands.answered (h : Bystands i s t) (a : s.answered i) : t.answered i := by
  have fp {α : Type} (g : Fps → α) (e : ∀ x : Fps, g x.ungranted = g x) : g (t.fp i) = g (s.fp i) := by rw [← e, h.fp, e]
  unfold State.answered
  rw [fp (·.fill) fun _ => rfl, fp (·.estimate) fun _ => rfl]
  exact a

/-- While each fill takes SITE_HOLD's release, `i` stands by until its turn and is answered after. -/
structure Leaving (i : FpId) (s : State) (l : List FpId) (u : State) : Prop where
  nodup : l.Nodup
  runs : Runs false s u
  ahead : i ∈ l → Bystands i s u
  done : i ∉ l → u.answered i

/-- SITE_HOLD's release takes a fill whose mode is decided out of LINK_WAIT (R100). -/
theorem siteHold_leaves {old : State} (was : old.levelHold i = true) (f : (s.fp i).fill = .linkWait)
    (m : (s.fp i).mode ≠ .undecided) (free : s.levelHold i = false) (n : (s.reservation i).state = .noRecord) :
    (siteHoldLevel old s).answered i := by
  have done := inAnyOrder_each (f := fun i => holdsChanged i (old.levelHold i)) (l := allFps) (u := s)
    (Q := fun l u => Leaving i s l u)
    (fun l u n q => ⟨q.nodup, Runs.order q.runs, fun m => (q.ahead m).same, q.done⟩) (fun j l l' u p q => ?_)
    ⟨by decide, .refl s, fun _ => .refl s, fun out => absurd (mem_allFps i) out⟩
  · exact done.done List.not_mem_nil
  · have apart := List.nodup_cons.mp (p.nodup_iff.mp q.nodup)
    refine ⟨apart.2, q.runs.holdsChanged, fun m => ?_, fun out => ?_⟩
    · exact (q.ahead (p.mem_iff.mpr (List.mem_cons_of_mem _ m))).holdsChanged fun (e : j = i) => apart.1 (by rw [e]; exact m)
    · by_cases e : j = i
      · subst e
        have stands := q.ahead (p.mem_iff.mpr List.mem_cons_self)
        have fp {α : Type} (g : Fps → α) (e : ∀ x : Fps, g x.ungranted = g x) : g (u.fp j) = g (s.fp j) := by
          rw [← e, stands.fp, e]
        have hold : u.levelHold j = false := (stands.levelHold (congrArg Fixed.lines q.runs.fixed)).trans free
        have fill : (u.fp j).fill = .linkWait := (fp (·.fill) fun _ => rfl).trans f
        have mode : (u.fp j).mode ≠ .undecided := by rw [show _ = _ from fp (·.mode) fun _ => rfl]; exact m
        rw [holdsChanged_linkWait fill, if_pos ⟨was, hold⟩, leaveIfFree_leaves mode hold]
        exact leaveLinkWait_answered (by rw [stands.record]; exact n)
      · have behind : i ∉ l := fun m => (List.mem_cons.mp (p.mem_iff.mp m)).elim (fun same => e same.symm) out
        exact ((Bystands.refl u).holdsChanged e).answered (q.done behind)

theorem siteHoldLevel_csInbox {old : State} : (siteHoldLevel old s).csInbox = s.csInbox := by
  refine inAnyOrder_keeps (P := fun u => u.csInbox = s.csInbox) (fun u n q => q) (fun f m u q => ?_) rfl
  obtain ⟨j, -, rfl⟩ := List.mem_map.mp m
  exact holdsChanged_csInbox.trans q

end Sys2Proof.Machine
end

section
/-!
PROOFS. The filter of an input line ends (O47).
-/
namespace Sys2Proof.Machine

variable {i j : FpId} {k : CompId} {l : LineId} {s t u v : State} {r : Reason} {fn : LineFn} {tg : Nat}

/-! ### What the part makes of a line that moved -/

/-- The part once the line has moved, its function has acted and the notices are taken. -/
def acted (l : LineId) (s : State) : State := settle (lineChanged l s (filtered l s))

theorem acted_lines : (acted l s).lines = (filtered l s).lines :=
  congrArg Fixed.lines ((Event.refl (w := true) (filtered l s)).lineChanged (l := l) (old := s)).settle.rest

theorem acted_still (h : lineChanged l s (filtered l s) = filtered l s) (box : s.csInbox = []) : acted l s = filtered l s := by
  rw [acted, h]
  exact settle_nil _ box

theorem acted_shuts {c : ShutCause} (n : (s.line l).fn.isNozzle = false) (a : s.asserts l)
    (f : ((s.line l).fn, c) ∈ [(LineFn.esd, ShutCause.esd), (.gasAlarm, .gasAlarm), (.fireAlarm, .fireAlarm)]) :
    lineChanged l s (filtered l s) = shutdownEvent c (filtered l s) := by
  simp only [List.mem_cons, Prod.mk.injEq, List.not_mem_nil, or_false] at f
  rcases f with ⟨f, rfl⟩ | ⟨f, rfl⟩ | ⟨f, rfl⟩ <;> (rw [lineChanged_asserts n a (by rw [f]; decide), f]; rfl)

/-- What a halt says of the fills does not look at the lines. -/
theorem ShutDown.of_filtered (h : (filtered l s).ShutDown t) : s.ShutDown t := ⟨h.halted, h.closed, h.ended, h.venting, h.rest⟩

theorem PoweredDown.of_filtered (h : (filtered l s).PoweredDown t) : s.PoweredDown t :=
  ⟨h.halted, h.ended, h.settled, h.venting, h.rest, h.saved, h.kept, h.marked⟩

/-- The outcome of a reason that a line gives to the fill of `i`. -/
structure LineEnds (s u t : State) (i : FpId) (r : Reason) : Prop where
  closes : (s.fp i).fill = .leakCheck ∨ (s.fp i).fill = .filling → u.ClosedBy t i r
  ends : (s.fp i).fill = .linkWait ∨ (s.fp i).fill = .precoolWait → s.WaitOk → u.EndedEarly t i r
  still : (s.fp i).fill.running = false → t = u

theorem acted_ends (h : lineChanged l s (filtered l s) = endFill i r (filtered l s)) (box : s.csInbox = []) :
    LineEnds s (filtered l s) (acted l s) i r := by
  obtain ⟨closes, ends, still⟩ := endFill_either (u := filtered l s) (i := i) (r := r) box
  rw [acted, h]
  exact ⟨closes, fun f a => ends f (waitOk_of a rfl rfl), still⟩

theorem acted_stop (f : (s.line l).fn = .stop) (h : (s.line l).target = i.val) (e : s.edges l) (box : s.csInbox = []) :
    LineEnds s (filtered l s) (acted l s) i .customerStop := by
  refine acted_ends ?_ box
  rw [lineChanged_edge (by rw [f]; rfl) e, f]
  exact atFp_val h

theorem acted_breakaway (f : (s.line l).fn = .breakaway) (h : (s.line l).target = i.val) (a : s.asserts l) (box : s.csInbox = []) :
    LineEnds s (filtered l s) (acted l s) i .breakaway := by
  refine acted_ends ?_ box
  rw [lineChanged_asserts (by rw [f]; rfl) a (by rw [f]; decide), f]
  exact atFp_val h

theorem acted_meterError (f : (s.line l).fn = .meterError) (h : (s.line l).target = i.val) (a : s.asserts l)
    (box : s.csInbox = []) : LineEnds s (filtered l s) (acted l s) i .meterFail := by
  refine acted_ends ?_ box
  rw [lineChanged_asserts (by rw [f]; rfl) a (by rw [f]; decide), f]
  exact atFp_val h

theorem acted_start (f : (s.line l).fn = .start) (h : (s.line l).target = i.val) (e : s.edges l) (box : s.csInbox = [])
    (loaded : (s.fp i).loaded = true) : StartsFill s (filtered l s) (acted l s) i := by
  have event : lineChanged l s (filtered l s) = tryStart i (filtered l s) := by
    rw [lineChanged_edge (by rw [f]; rfl) e, f]
    exact atFp_val h
  rw [acted, event]
  exact tryStart_filtered box (by rw [f]; decide) (by rw [f]; decide) loaded

theorem acted_nozzle (n : (s.line l).fn.isNozzle = true) (h : (s.line l).target = i.val) (box : s.csInbox = []) :
    NozzleActs s (filtered l s) (acted l s) i := by
  rw [acted, lineChanged_nozzle n h]
  exact nozzleMoved_acts box n

theorem acted_trip (f : (s.line l).fn = .compressorTrip) (h : (s.line l).target = k.val) (a : s.asserts l) :
    lineChanged l s (filtered l s) = tripInput k (filtered l s) := by
  rw [lineChanged_asserts (by rw [f]; rfl) a (by rw [f]; decide), f]
  exact atComp_val h

theorem acted_permission (f : (s.line l).fn = .compressorTrip) (h : (s.line l).target = k.val) (r : s.releases l)
    (box : s.csInbox = []) : Decided k (filtered l s) (acted l s) := by
  have event : lineChanged l s (filtered l s) = evalPermission k (filtered l s) := by
    rw [lineChanged_release (by rw [f]; rfl) r, f]
    exact atComp_val h
  rw [acted, event]
  exact evalPermission_decides box

theorem acted_chiller (f : (s.line l).fn = .chillerTrip) (a : s.asserts l) :
    lineChanged l s (filtered l s) = chillerTrip (filtered l s) := by
  rw [lineChanged_asserts (by rw [f]; rfl) a (by rw [f]; decide), f]
  rfl

/-! ### SITE_HOLD's line -/

section SiteHold
variable (f : (s.line l).fn = .siteHold) (box : s.csInbox = [])
include f

theorem siteHold_combined (a : Nat) : s.combined .siteHold a = s.combined (s.line l).fn (s.line l).target := by
  rw [f]
  exact combined_targetless rfl _ _

theorem filtered_siteHold (a : Nat) :
    (filtered l s).combined .siteHold a = (filtered l s).combined (s.line l).fn (s.line l).target := by
  rw [f]
  exact combined_targetless rfl _ _

include box

theorem acted_held (a : s.asserts l) (m : (s.line l).mode = .level) :
    Held (filtered l s) (acted l s) ∧ ∀ i, (acted l s).fp i = (s.fp i).siteHeld := by
  have hold := (filtered_siteHold f 0).trans (filtered_combined_self a.1 m)
  have event : lineChanged l s (filtered l s) = siteHoldLevel s (filtered l s) := by
    rw [lineChanged_assertion (by rw [f]; rfl) a m, f]
    rfl
  rw [acted, event, settle_nil _ ((siteHoldLevel_csInbox (s := filtered l s)).trans box)]
  exact siteHold_holds hold

theorem acted_releases (r : s.releases l) :
    acted l s = siteHoldLevel s (filtered l s) ∧ ∀ i, s.levelHold i = true := by
  have event : lineChanged l s (filtered l s) = siteHoldLevel s (filtered l s) := by
    rw [lineChanged_release (by rw [f]; rfl) r, f]
    rfl
  rw [acted, event, settle_nil _ ((siteHoldLevel_csInbox (s := filtered l s)).trans box)]
  exact ⟨rfl, fun i => levelHold_iff.mpr (.inl ((siteHold_combined f 0).trans r.2.1))⟩

theorem acted_syncs (e : s.edges l) : Held (filtered l s) (acted l s) ∧ ∀ i, (acted l s).fp i = (s.fp i).synced := by
  have event : lineChanged l s (filtered l s) = inAnyOrder (allFps.map syncHold) (filtered l s) := by
    rw [lineChanged_edge (by rw [f]; rfl) e, f]
    rfl
  obtain ⟨held, each⟩ := siteHold_syncs (s := filtered l s)
  have inbox : (inAnyOrder (allFps.map syncHold) (filtered l s)).csInbox = [] := by
    rw [held.rest]
    exact box
  rw [acted, event, settle_nil _ inbox]
  exact ⟨held, each⟩

end SiteHold

/-- What SITE_HOLD's release leaves of each fill, by its phase. -/
theorem siteFreed_cases (h : s.combined .siteHold = false) :
    let f := s.fp i
    let free := f.hostHold = false ∧ (f.vehicleHold = true → f.mode ≠ .communication)
    let pulses := f.fill = .leakCheck ∧ free ∧ f.link = .granted ∧ f.leakPulse = none ∧ f.leakHold = none
    (pulses → s.siteFreed i = { f with leakPulse := some s.site.params.leakPulse }) ∧
    (f.fill ≠ .filling → ¬ pulses → s.siteFreed i = f) ∧
    (f.fill = .filling → ¬ free ∨ f.link = .stacked ∨ f.sync = true → s.siteFreed i =
      { f with sub := some (if f.link = .stacked then .bankWait else .hold), lowFlow := none, grace := none }) ∧
    (f.fill = .filling → free → f.link ≠ .stacked → f.sync = false → f.sub ≠ some .flow → s.siteFreed i =
      { f with
        sub := some .flow, pstart := f.nozzle, clock := 0, pause := false
        lowFlow := if (s.meter i).figure < s.site.params.stepFlow * 1000 then some s.site.params.stepDwell else none }) := by
  intro f free pulses
  have holds : s.levelHold i = false ↔ free := levelHold_false_iff.trans (and_iff_right h)
  unfold State.siteFreed
  dsimp only
  refine ⟨fun ⟨c, fr, ready⟩ => ?_, fun n out => ?_, fun c keeps => ?_, fun c fr ns y g => ?_⟩
  · rw [if_pos c, if_pos ⟨holds.mpr fr, ready⟩]
  · by_cases c : (s.fp i).fill = .leakCheck
    · rw [if_pos c, if_neg fun ready => out ⟨c, holds.mp ready.1, ready.2⟩]
    · rw [if_neg c, if_neg n]
  · rw [if_neg (by rw [c]; nofun), if_pos c, if_neg]
    · rfl
    · rintro ⟨fr, ns, y⟩
      rcases keeps with k | k | k
      · exact k (holds.mp fr)
      · exact ns k
      · rw [y] at k
        cases k
  · rw [if_neg (by rw [c]; nofun), if_pos c, if_pos ⟨holds.mpr fr, ns, y⟩, if_neg g]

/-! ### The obligation -/

/-- Settles O47: the line moves, and each function's event is taken. -/
theorem linesMoveAndAct : Obligations.LinesMoveAndAct := by
  intro s l level x x' s1 asserts edge releases ends starts
  refine ⟨rfl, fun off => ?_, fun runs => ⟨acted l s, exec_filterExpiry runs, acted_lines, ?_, ?_, ?_, ?_⟩⟩
  · have idle : filterDone l s = s := if_neg (by rw [show (s.line l).filterRunning = false from off]; nofun)
    refine ⟨settle s, congrArg (fun t => Host.Outcome.next (settle t)) idle, ?_, settle_nil s⟩
    exact congrArg Fixed.lines (Event.refl (w := true) s).settle.rest
  · exact (event_keeps rfl (exec_filterExpiry runs) nofun : Keeps false s (acted l s)).tables rfl
  · intro cause f a
    have plain : (s.line l).fn.isNozzle = false := by
      simp only [List.mem_cons, Prod.mk.injEq, List.not_mem_nil, or_false] at f
      rcases f with ⟨f, -⟩ | ⟨f, -⟩ | ⟨f, -⟩ <;> (rw [show (s.line l).fn = _ from f]; rfl)
    have event := acted_shuts plain a f
    refine ⟨fun st => ?_, fun o m box => acted_still (event.trans (shutdownEvent_stays o m)) box⟩
    rw [acted, event]
    obtain ⟨site, shut⟩ := shutdownEvent_shuts (u := filtered l s) (c := cause) st
    exact ⟨site, ShutDown.of_filtered shut⟩
  · intro f a
    have event : lineChanged l s (filtered l s) = powerFailEvent (filtered l s) := by
      rw [lineChanged_asserts (by rw [show (s.line l).fn = _ from f]; rfl) a (by rw [show (s.line l).fn = _ from f]; decide),
        show (s.line l).fn = _ from f]
      rfl
    refine ⟨fun st => ?_, fun st box => acted_still (event.trans (powerFailEvent_stays st)) box⟩
    rw [acted, event]
    obtain ⟨site, down⟩ := powerFailEvent_downs (u := filtered l s) st
    exact ⟨site, PoweredDown.of_filtered down⟩
  · intro box
    refine ⟨fun i h => ?_, fun k f h => ?_, fun f a => ?_, fun f a m => ?_, fun f r und => ?_, fun i f r w m free n => ?_,
      fun f e => ?_, fun f r => ?_, fun n m e => acted_still (lineChanged_quiet n m e) box,
      fun f => acted_still (lineChanged_noFn f) box, fun m n c => acted_still (lineChanged_steady n m c) box⟩
    · refine ⟨fun f e loaded => acted_start f h e box loaded, fun f e => ?_, fun f a => ?_, fun f a => ?_, fun n => ?_⟩
      · obtain ⟨closes, early, still⟩ := acted_stop f h e box
        exact ⟨⟨closes, early⟩, still⟩
      · obtain ⟨closes, early, still⟩ := acted_breakaway f h a box
        exact ⟨⟨closes, early⟩, still⟩
      · obtain ⟨closes, early, still⟩ := acted_meterError f h a box
        exact ⟨⟨closes, early⟩, still⟩
      · have acts := acted_nozzle n h box
        exact ⟨acts.steady, fun was off => ⟨acts.closes was off, acts.ends was off⟩, acts.rests, acts.still,
          fun was now => ⟨acts.waits was now, acts.starts was now⟩⟩
    · refine ⟨fun a n m => ?_, fun a st => ?_, fun r st => (acted_permission f h r box).stays st, fun r st => ?_⟩
      · rw [acted, acted_trip f h a]
        obtain ⟨record, posted, freed⟩ := tripInput_trips (u := filtered l s) (k := k) n m
        exact ⟨record, posted fun e => m e, freed⟩
      · exact acted_still ((acted_trip f h a).trans (tripInput_stays st)) box
      · obtain ⟨-, -, -, drops, waits, begins⟩ := acted_permission f h r box
        refine ⟨fun c => ?_, waits st, fun b c p => ?_⟩
        · rw [drops st c]
        · rw [begins st b c p]
          exact ⟨rfl, rfl⟩
    · refine ⟨fun c => ?_, fun c => acted_still ((acted_chiller f a).trans (chillerTrip_stays c)) box⟩
      have event := (acted_chiller f a).trans (chillerTrip_trips (u := filtered l s) c)
      rw [acted, event]
      exact settle_nil _ box
    · obtain ⟨held, each⟩ := acted_held f box a m
      refine ⟨held.rest, fun i => ⟨fun n => (each i).trans (if_neg n), fun c => (each i).trans (if_pos c)⟩⟩
    · obtain ⟨event, was⟩ := acted_releases f box r
      have off := (filtered_siteHold f 0).trans r.2.2
      obtain ⟨held, each⟩ := siteHold_frees (old := s) (s := filtered l s) was und
      rw [← event] at held each
      refine ⟨held.rest, fun i => ?_⟩
      rw [each i]
      exact siteFreed_cases (s := filtered l s) off
    · obtain ⟨event, was⟩ := acted_releases f box r
      rw [event]
      exact siteHold_leaves (was i) w m free n
    · obtain ⟨held, each⟩ := acted_syncs f box e
      refine ⟨held.rest, fun i => ⟨fun out => (each i).trans (if_neg ?_), fun c y => (each i).trans (if_pos ⟨c, y⟩)⟩⟩
      rintro ⟨c, y⟩
      rcases out with out | out
      · exact out c
      · rw [y] at out
        cases out
    · refine acted_still ?_ box
      have plain : (s.line l).fn.isNozzle = false := by
        simp only [List.mem_cons, List.not_mem_nil, or_false] at f
        rcases f with f | f | f | f | f | f | f <;> (rw [show (s.line l).fn = _ from f]; rfl)
      exact (lineChanged_release plain r).trans (levelEvent_released f)

end Sys2Proof.Machine
end
